-- ==== Sys2Proof/Word.lean ====
section
/-! DEFINITION. The word types of the RY9612 register space and the sorted association list that holds sparse state. -/

namespace Sys2Proof

/-- A 32-bit register word. -/
abbrev Word := BitVec 32
/-- A byte of a register access, of a card's data or of the persistent store. -/
abbrev Byte := BitVec 8
/-- A 64-bit value: host addresses, XT and return entries, table time. -/
abbrev Dword := BitVec 64
/-- Sparse data by number: pairs of key and value, keys strictly rising, no pair at its key's default value. -/
abbrev Tab (α : Type) := List (Nat × α)

end Sys2Proof
end

