-- ==== Sys2Proof/Syntax.lean ====
section
/-! DEFINITION. The commands of the block, as the table of operations and events lists them, with their operands: what the
outside world (hosts, the fabric, MGMT, House firmware, the wires, the clocks) brings to each. -/

namespace Sys2Proof

/-- Who makes a register access: the requester code of R48 (0 to 5 a host on that seat, 6 MGMT, 7 House firmware, 8 the safety
monitor) and, for a host, the function whose BAR0 carries the access (R86). -/
structure Req where
  code : Fin 9
  fn   : Fin 4096
  deriving DecidableEq, Repr

/-- What the physics of the device brings to a trick boundary: faults that no command injects. -/
structure TrickEvents where
  /-- the duplicated Dealer, translation or scheduler copies disagreed (R263, R415) -/
  lockstep : Bool
  /-- parts that overran: tile 0 to 11 (15: the Dealer) and part 0 port slice, 1 shared part, 2 Dealer (R264) -/
  overruns : List (Fin 16 × Fin 4)
  /-- egress ports at which the next dealt card fails its seal (R245), or holds an uncorrectable word (R246) -/
  seals    : List (Fin 10)
  eccs     : List (Fin 10)
  /-- corrected Talon words (R246) -/
  eccCorr  : Nat
  deriving DecidableEq, Repr

/-- What the physics of the device and of its links brings to a hand boundary. -/
structure HandEvents where
  /-- the monitor measured the hand outside 20.480 µs ± 2% (R426) -/
  badLength : Bool
  /-- the smallest slack seen in the hand and the rail reading in mV (R500) -/
  slack     : Fin 256
  readMv    : Fin 1024
  deriving DecidableEq, Repr


/-- Transmitter coefficients in units of full swing: absolute values of C−1 and C+1, and C0 (R111). -/
structure TxEq where
  pre  : Fin 64
  main : Fin 64
  post : Fin 64
  deriving DecidableEq, Repr

/-- A request for a seat's transmitter in phase 3 of equalization (R112, R143). -/
inductive TxReq
  | preset (p : Fin 11)
  | coef (c : TxEq)
  deriving DecidableEq, Repr

/-- What the link partner of a seat brings to a training (R140, R141, R143, R145, R150): its highest rate code, how many lanes it
offers, whether it is wired reversed, what it supports, the retimers found, the lanes whose polarity is inverted; the presets that it
sends, what it asks for in phase 3, the de-emphasis that it selects at 5 GT/s (true: -3.5 dB), and whether it asks for equalization
again at a rate that has its settings. -/
structure SeatPartner where
  rate     : Fin 8
  lanes    : Fin 17
  reversed : Bool
  flit     : Bool
  scaled   : Bool
  selNak   : Bool
  retimers : Fin 3
  inverted : List (Fin 16)
  presets  : List (Fin 16 × Fin 11)
  eq       : List (Fin 16 × TxReq)
  deemph   : Bool
  eqAgain  : Bool
  deriving DecidableEq, Repr

/-- What reaches a seat's data link layer beside TLPs (R146, R156, R434): acknowledgement up to a sequence number, a NAK after one, new
credits of a class (0 posted, 1 non-posted, 2 completion): headers and data units, none for infinite; a FLIT without a TLP in which FEC
corrected symbols, which FEC could not correct, or whose CRC failed; a DLLP that fails its check; a receiver error; a violation of the data
link protocol, or of flow control. -/
inductive Dllp
  | ack (seq : Fin 4096)
  | nak (seq : Fin 4096)
  | credit (cls : Fin 3) (hdr data : Option (Fin 65536))
  | fixed | uncorrectable | badCrc
  | badDllp | receiverError | protocol | flowControl
  deriving DecidableEq, Repr

/-- Low-power states of a seat's link (R129, R138): L0s; L1 with its substate; L2; lanes turned off by L0p from a lane up. -/
inductive LinkLow
  | l0s
  | l1 (sub : Fin 3)
  | l2
  | l0p (width : Fin 17)
  deriving DecidableEq, Repr

/-- How an IDE check fails (R170, R434): MAC or sequence, PCRC, misrouting. -/
inductive IdeBad | mac | pcrc | misrouted
  deriving DecidableEq, Repr

/-- What is wrong with a received TLP: nothing; FEC corrected symbols of its FLIT, could not correct it, or its CRC failed (R146); the EP
bit; its ECRC (R167); its IDE check (R170), on a stream; its form; a PASID, or a request the seat does not support (R139). -/
inductive RxMark
  | good | fixed | uncorrectable | badCrc
  | poisoned | ecrc
  | ide (stream : Fin 9) (why : IdeBad)
  | malformed | unsupported
  deriving DecidableEq, Repr

/-- A lane margining command (R130): a report of a parameter of R130's table, in its order; the error count limit; back to normal settings;
the error log cleared; a step of time, to the left or the right; a step of voltage, down or up. -/
inductive MarginCmd
  | report (what : Fin 13)
  | errorLimit (n : Fin 64)
  | normal | clearLog
  | stepTiming (left : Bool) (n : Fin 64)
  | stepVoltage (down : Bool) (n : Fin 128)
  deriving DecidableEq, Repr

/-- A lane margining command and the lane it is for (R130). -/
structure MarginReq where
  lane : Fin 16
  cmd  : MarginCmd
  deriving DecidableEq, Repr

/-- A received TS block (R325): its lane, lane count, spares, rate, minimum, ID, version, flags; whether it arrived inverted (R326), and
whether its CRC failed or its TYPE is not listed (R322). -/
structure TsBlock where
  lane     : Fin 32
  lanes    : Fin 64
  spares   : Fin 65536
  maxRate  : Fin 4
  minLanes : Fin 64
  id       : BitVec 32
  version  : Fin 256
  ack      : Bool
  limp     : Bool
  inverted : Bool
  bad      : Bool
  deriving DecidableEq, Repr

/-- A received EQ block (R327), and whether its CRC failed (R322). -/
structure EqBlock where
  mode   : Fin 3
  preset : Fin 11
  pre    : Fin 64
  post   : Fin 64
  id     : Fin 256
  done   : Bool
  bad    : Bool
  deriving DecidableEq, Repr

/-- A received AM row (R329, R330): ALIGNED, RX_OK, the lanes that came in beyond the skew tolerance, whether FRAME_POS
equals the receiver's own frame position, and how many of its blocks failed their CRC (R322). -/
structure AmRow where
  aligned : Bool
  rxOk    : BitVec 32
  skewed  : List (Fin 32)
  posOk   : Bool
  bad     : Fin 33
  deriving DecidableEq, Repr

/-- A received HAND row (R342): hand, LAUNCH, maps; and its arrival at link lane 0, in 15.625 ps units after this side's own
boundary of that hand (R386); how many of its copies failed their CRC (R322). -/
structure HandRow where
  hand    : Fin (2 ^ 40)
  launch  : Fin 65536
  txMap   : BitVec 32
  standby : BitVec 32
  arrival : BitVec 32
  bad     : Fin 33
  deriving DecidableEq, Repr

/-- How a received frame decoded (R333): good, an interleave failed, or the CRC failed. -/
inductive FrameGood | good | fec | crc
  deriving DecidableEq, Repr

/-- A received frame (R332): its control word, how it decoded, and the lanes of the symbols FEC corrected (R335). -/
structure Frame where
  seq   : Fin 4096
  ack   : Fin 4096
  nak   : Bool
  empty : Bool
  good  : FrameGood
  fixed : List (Fin 32)
  deriving DecidableEq, Repr

/-- A received SHED block that asks for something (R344): LANE, SPARE, EXCH_ID, and TARGET, the partner's hand number N + 2. -/
structure ShedReq where
  lane   : Fin 32
  spare  : Fin 256
  id     : Fin 256
  target : Fin (2 ^ 40)
  deriving DecidableEq, Repr

/-- A transaction received from the fabric (R357): every header field, and the payload bytes. -/
structure TxnIn where
  type   : Fin 32
  cls    : Fin 4
  poison : Bool
  attr   : Fin 8
  status : Fin 8
  seat   : Fin 8
  fn     : Fin 4096
  tag    : Fin 4096
  len    : Fin 128
  last   : Fin 64
  posted : Bool
  ep     : BitVec 24
  off    : BitVec 48
  data   : List Byte
  deriving DecidableEq, Repr

/-- Which IDE key a message names (R169): stream 0 (Link) or 1 to 8 (Selective), sub-stream 0 PR, 1 NPR, 2 CPL, direction 0 receive, 1
transmit, key set 0 or 1. -/
structure IdeKey where
  stream : Fin 9
  sub    : Fin 3
  dir    : Fin 2
  set    : Fin 2
  deriving DecidableEq, Repr

/-- What a request on a PF's DOE mailbox asks (R535): DOE Discovery; the SPDM requests that the supported capabilities name, with
their slot, measurement index or session. -/
inductive Spdm
  | discovery
  | version
  | capabilities
  | algorithms
  | digests
  | certificate (slot : Fin 8)
  | challenge (slot : Fin 8)
  | measurements (i : Fin 256) (signed : Bool)
  | keyExchange (slot : Fin 8)
  | finishSession (session : Nat)
  | heartbeat (session : Nat)
  | keyUpdate (session : Nat)
  | endSession (session : Nat)
  | other (code : Fin 256)
  deriving DecidableEq, Repr

/-- What a boot meets (R575): House cores that pass their self-test; whether the store initialises; hands until cut 0, less one; levels
at cut 0 of Sn_PRSNT_N and Sn_PERST_N (1: low); the levels at GPIO0 to 2 at the release (R603); TEST_MODE (R601). -/
structure BootIn where
  cores   : BitVec 4
  storeOk : Bool
  hands   : Fin 2929
  prsnt   : BitVec 6
  perst   : BitVec 6
  gpio    : BitVec 3
  test    : Bool
  deriving DecidableEq, Repr

/-- What every memory request of a host carries (R192): its seat, requester ID, tag, address, attributes (bit 0 RO, bit 1 IDO, bit 2 No
Snoop), and what is wrong with it. -/
structure HostReq where
  seat : Fin 6
  rid  : Fin 65536
  tag  : Fin 16384
  addr : BitVec 64
  attr : Fin 8
  mark : RxMark
  deriving DecidableEq, Repr

/-- A configuration request of a host (R179, R183): its seat, the Routing ID it names, whether it arrived as Type 0, its dword offset in
bytes. -/
structure CfgReq where
  seat  : Fin 6
  rid   : Fin 65536
  type0 : Bool
  off   : Fin 4096
  deriving DecidableEq, Repr

/-- What an MCTP message asks (R603): identity; a read or write of Table space. -/
inductive MctpReq
  | identity
  | read (off : BitVec 27) (len : Fin 16)
  | write (off : BitVec 27) (bytes : List Byte)
  deriving DecidableEq, Repr


/-- The commands of the block: one constructor per row of the table of operations and events, in the table's order.
Each constructor's comment gives the rule of spec/ its row names. -/
inductive Instr
  /-- TRICK_BOUNDARY (R37) -/
  | trickBoundary (x : TrickEvents)
  /-- HAND_BOUNDARY (R38) -/
  | handBoundary (x : TrickEvents) (h : HandEvents)
  /-- COAL_TIMER_EXPIRE (R300) -/
  | coalTimerExpire (q : Fin 16384)
  /-- CROUPIER_PASS_OVERRUN (R462) -/
  | croupierPassOverrun (e : Fin 16)
  /-- CRP_NOP (R468) -/
  | crpNop (e : Fin 16)
  /-- CRP_HALT (R472) -/
  | crpHalt (e : Fin 16)
  /-- CRP_MOV (R468) -/
  | crpMov (e : Fin 16) (rd ra : Fin 16)
  /-- CRP_MOVI (R468) -/
  | crpMovi (e : Fin 16) (rd : Fin 16) (imm : BitVec 12)
  /-- CRP_ADD (R471) -/
  | crpAdd (e : Fin 16) (rd ra rb : Fin 16)
  /-- CRP_SUB (R471) -/
  | crpSub (e : Fin 16) (rd ra rb : Fin 16)
  /-- CRP_ADDM (R471) -/
  | crpAddm (e : Fin 16) (rd ra rb : Fin 16)
  /-- CRP_SUBM (R471) -/
  | crpSubm (e : Fin 16) (rd ra rb : Fin 16)
  /-- CRP_ADDI (R471) -/
  | crpAddi (e : Fin 16) (rd : Fin 16) (imm : BitVec 12)
  /-- CRP_NEG (R471) -/
  | crpNeg (e : Fin 16) (rd ra : Fin 16)
  /-- CRP_ABS (R471) -/
  | crpAbs (e : Fin 16) (rd ra : Fin 16)
  /-- CRP_MUL (R471) -/
  | crpMul (e : Fin 16) (rd ra rb : Fin 16)
  /-- CRP_MULS (R471) -/
  | crpMuls (e : Fin 16) (rd ra rb : Fin 16)
  /-- CRP_DIV (R471) -/
  | crpDiv (e : Fin 16) (rd ra rb : Fin 16)
  /-- CRP_AND (R468) -/
  | crpAnd (e : Fin 16) (rd ra rb : Fin 16)
  /-- CRP_OR (R468) -/
  | crpOr (e : Fin 16) (rd ra rb : Fin 16)
  /-- CRP_XOR (R468) -/
  | crpXor (e : Fin 16) (rd ra rb : Fin 16)
  /-- CRP_NOT (R468) -/
  | crpNot (e : Fin 16) (rd ra : Fin 16)
  /-- CRP_SHL (R471) -/
  | crpShl (e : Fin 16) (rd ra rb : Fin 16)
  /-- CRP_SHR (R471) -/
  | crpShr (e : Fin 16) (rd ra rb : Fin 16)
  /-- CRP_SAR (R471) -/
  | crpSar (e : Fin 16) (rd ra rb : Fin 16)
  /-- CRP_CMP (R468) -/
  | crpCmp (e : Fin 16) (ra rb : Fin 16)
  /-- CRP_CMPI (R468) -/
  | crpCmpi (e : Fin 16) (rd : Fin 16) (imm : BitVec 12)
  /-- CRP_LD (R468) -/
  | crpLd (e : Fin 16) (rd : Fin 16) (a : Fin 256)
  /-- CRP_ST (R468) -/
  | crpSt (e : Fin 16) (a : Fin 256) (rd : Fin 16)
  /-- CRP_LDX (R468) -/
  | crpLdx (e : Fin 16) (rd ra : Fin 16)
  /-- CRP_STX (R468) -/
  | crpStx (e : Fin 16) (ra rd : Fin 16)
  /-- CRP_IN (R463) -/
  | crpIn (e : Fin 16) (rd : Fin 16) (i : Fin 1024)
  /-- CRP_INX (R463) -/
  | crpInx (e : Fin 16) (rd ra : Fin 16)
  /-- CRP_HAND (R468) -/
  | crpHand (e : Fin 16) (rd : Fin 16)
  /-- CRP_TRD (R465) -/
  | crpTrd (e : Fin 16) (rd : Fin 16) (t : Fin 32)
  /-- CRP_TSET (R465) -/
  | crpTset (e : Fin 16) (t : Fin 32) (rd : Fin 16)
  /-- CRP_EDGE (R466) -/
  | crpEdge (e : Fin 16) (rd : Fin 16) (d : Fin 64)
  /-- CRP_ACT (R472) -/
  | crpAct (e : Fin 16) (a : Fin 256) (rd : Fin 16)
  /-- CRP_B (R469) -/
  | crpB (e : Fin 16) (cond : Fin 16) (target : BitVec 12)
  /-- REGISTER_WRITE (R8) -/
  | registerWrite (r : Req) (off : BitVec 27) (bytes : List (Option Byte))
  /-- STAGED_WRITE (R75) -/
  | stagedWrite (r : Req) (off : BitVec 27) (bytes : List (Option Byte))
  /-- PAGE_LOCK (R53) -/
  | pageLock (r : Req) (page : Fin 32768)
  /-- EVENT_SET (R57) -/
  | eventSet (r : Req) (page : Fin 32768) (mask : Word)
  /-- MBOX_SNAP (R68) -/
  | mboxSnap (r : Req) (page : Fin 32768)
  /-- MBOX_VALID (R68) -/
  | mboxValid (page : Fin 32768)
  /-- PARITY_MISMATCH (R76) -/
  | parityMismatch (off : BitVec 27)
  /-- SHADOW_PARITY_MISMATCH (R78) -/
  | shadowParityMismatch (off : BitVec 27)
  /-- DECK_OPEN (R90) -/
  | deckOpen (r : Req) (d : Fin 7)
  /-- DECK_CHECK (R97) -/
  | deckCheck (r : Req) (d : Fin 7) (tok : BitVec 12)
  /-- CHECK_DONE (R98) -/
  | checkDone (d : Fin 7)
  /-- DECK_COMMIT_CRC (R100) -/
  | deckCommitCrc (r : Req) (d : Fin 7) (tok : BitVec 12)
  /-- COMMIT_DONE (R100) -/
  | commitDone (d : Fin 7)
  /-- DECK_CUT_AT (R101) -/
  | deckCutAt (r : Req) (d : Fin 7) (tok : BitVec 12)
  /-- DECK_ABANDON (R91) -/
  | deckAbandon (r : Req) (d : Fin 7) (tok : BitVec 12)
  /-- DECK_FORCE_ABANDON (R91) -/
  | deckForceAbandon (r : Req) (d : Fin 7) (tok : BitVec 12)
  /-- DECK_SAVE (R106) -/
  | deckSave (r : Req) (d : Fin 7) (tok : BitVec 12)
  /-- DECK_IDLE_TIMEOUT (R91) -/
  | deckIdleTimeout (d : Fin 7)
  /-- DECK_IND_WRITE (R95) -/
  | deckIndWrite (r : Req) (d : Fin 7) (data : Word)
  /-- LANE_SIGNAL_LOSS (R132) -/
  | laneSignalLoss (p : Fin 10) (i : Fin 32)
  /-- LANE_LOCK_LOSS (R132) -/
  | laneLockLoss (p : Fin 10) (i : Fin 32)
  /-- LANE_REACQUIRED (R133) -/
  | laneReacquired (p : Fin 10) (i : Fin 32)
  /-- LANE_REACQ_TIMEOUT (R133) -/
  | laneReacqTimeout (p : Fin 10) (i : Fin 32)
  /-- LANE_FW_STOP (R118) -/
  | laneFwStop (p : Fin 10) (j : Fin 4)
  /-- ROM_BASELINE_SWEEP (R134) -/
  | romBaselineSweep (p : Fin 10) (i : Fin 32) (snr : List (Fin 65536))
  /-- MARGIN_COMMAND (R131) -/
  | marginCommand (n : Fin 6) (x : MarginReq)
  /-- SEAT_TRAINING (R140) -/
  | seatTraining (n : Fin 6) (p : SeatPartner)
  /-- SEAT_RECOVERY (R146) -/
  | seatRecovery (n : Fin 6)
  /-- SEAT_WIDTH_REFORM (R146) -/
  | seatWidthReform (n : Fin 6)
  /-- SEAT_LINK_DOWN (R166) -/
  | seatLinkDown (n : Fin 6)
  /-- SEAT_RESET (R583) -/
  | seatReset (n : Fin 6)
  /-- HOT_RESET (R583) -/
  | hotReset (n : Fin 6) (disable : Bool)
  /-- L0P_REQUEST_RX (R148) -/
  | l0pRequestRx (n : Fin 6) (w : Fin 17)
  /-- HOST_MEMORY_READ (R192) -/
  | hostMemoryRead (q : HostReq) (en : List Bool)
  /-- HOST_MEMORY_WRITE (R192) -/
  | hostMemoryWrite (q : HostReq) (bytes : List (Option Byte))
  /-- HOST_ATOMICOP (R192) -/
  | hostAtomicop (q : HostReq) (op : Fin 3) (data : List Byte)
  /-- CONFIG_READ (R183) -/
  | configRead (q : CfgReq)
  /-- CONFIG_WRITE (R183) -/
  | configWrite (q : CfgReq) (bytes : List (Option Byte))
  /-- FLR_INITIATE (R204) -/
  | flrInitiate (f : Fin 4096)
  /-- FLR_COMPLETE (R205) -/
  | flrComplete (f : Fin 4096)
  /-- FLR_DEADLINE (R205) -/
  | flrDeadline (f : Fin 4096)
  /-- VF_ENABLE_SET (R180) -/
  | vfEnableSet (n : Fin 6)
  /-- VF_ENABLE_CLEAR (R180) -/
  | vfEnableClear (n : Fin 6)
  /-- VF_READY (R181) -/
  | vfReady (f : Fin 4096)
  /-- BUS_MASTER_ENABLE (R199) -/
  | busMasterEnable (f : Fin 4096) (on : Bool)
  /-- MEMORY_SPACE_ENABLE (R202) -/
  | memorySpaceEnable (n : Fin 6) (vfs on : Bool)
  /-- POWER_STATE_WRITE (R199) -/
  | powerStateWrite (f : Fin 4096) (d : Fin 4)
  /-- HOST_COMPLETION (R164) -/
  | hostCompletion (n : Fin 6) (f : Fin 4096) (wire : Fin 16384) (status : Fin 8) (byteCount : Fin 4097) (mark : RxMark) (data : List Byte)
  /-- COMPLETION_TIMEOUT (R163) -/
  | completionTimeout (n : Fin 6) (i : Fin 4096)
  /-- TAG_QUARANTINE_EXPIRE (R164) -/
  | tagQuarantineExpire (n : Fin 6) (i : Fin 4096)
  /-- IDE_KM_QUERY (R536) -/
  | ideKmQuery (n : Fin 6) (session : Nat)
  /-- IDE_KM_KEY_PROG (R536) -/
  | ideKmKeyProg (n : Fin 6) (session : Nat) (k : IdeKey) (key : BitVec 352)
  /-- IDE_KM_K_SET_GO (R536) -/
  | ideKmKSetGo (n : Fin 6) (session : Nat) (k : IdeKey)
  /-- IDE_KM_K_SET_STOP (R536) -/
  | ideKmKSetStop (n : Fin 6) (session : Nat) (k : IdeKey)
  /-- SPDM_REQUEST (R535) -/
  | spdmRequest (n : Fin 6) (q : Spdm)
  /-- PTM_RESPONSE (R452) -/
  | ptmResponse (n : Fin 6) (t1 t4 : Fin 65536) (master : Dword) (delay : Word)
  /-- ENTRY_LOW_WRITE (R219) -/
  | entryLowWrite (r : Req) (ret : Bool) (i : Fin 8388608) (v : Word)
  /-- ENTRY_HIGH_WRITE (R219) -/
  | entryHighWrite (r : Req) (ret : Bool) (i : Fin 8388608) (v : Word)
  /-- ENTRY_LOW_READ (R219) -/
  | entryLowRead (r : Req) (tag : Fin 16384) (ret : Bool) (i : Fin 8388608)
  /-- ENTRY_HIGH_READ (R219) -/
  | entryHighRead (r : Req) (tag : Fin 16384) (ret : Bool) (i : Fin 8388608)
  /-- IND_READ (R223) -/
  | indRead (n : Fin 6)
  /-- IND_WRITE (R223) -/
  | indWrite (n : Fin 6)
  /-- IND_SYNC (R224) -/
  | indSync (n : Fin 6)
  /-- SYNC_DONE (R224) -/
  | syncDone (n : Fin 6)
  /-- ECC_WRITEBACK (R228) -/
  | eccWriteback (ret : Bool) (i : Fin 8388608)
  /-- XLT_ECC_INJECT (R241) -/
  | xltEccInject (r : Req) (v : Word)
  /-- LOG_EVICTION (R235) -/
  | logEviction (f : Fin 4096) (l : Fin 67108864)
  /-- LOG_FLUSH_MERGE (R235) -/
  | logFlushMerge (f : Fin 4096) (l : Fin 67108864)
  /-- LOG_FLUSH_LOST (R237) -/
  | logFlushLost (f : Fin 4096) (l : Fin 67108864)
  /-- INJECT_SEAL (R271) -/
  | injectSeal (r : Req) (p : Fin 16)
  /-- INJECT_LOCKSTEP (R271) -/
  | injectLockstep (r : Req)
  /-- INJECT_OVERRUN (R271) -/
  | injectOverrun (r : Req) (t : Fin 16)
  /-- INJECT_BOOK (R274) -/
  | injectBook (r : Req)
  /-- INJECT_TALON_ECC (R274) -/
  | injectTalonEcc (r : Req)
  /-- SQ_TAIL_WRITE (R282) -/
  | sqTailWrite (f : Fin 4096) (q : Fin 256) (v : Word)
  /-- CQ_HEAD_WRITE (R282) -/
  | cqHeadWrite (f : Fin 4096) (q : Fin 256) (v : Word)
  /-- QUEUE_ENABLE (R284) -/
  | queueEnable (f : Fin 4096) (q : Fin 256)
  /-- QUEUE_CONFIG_LOADED (R284) -/
  | queueConfigLoaded (k : Fin 16384)
  /-- QUEUE_DISABLE (R284) -/
  | queueDisable (f : Fin 4096) (q : Fin 256)
  /-- QUEUE_ABORT (R284) -/
  | queueAbort (f : Fin 4096) (q : Fin 256)
  /-- QUEUE_RESUME (R284) -/
  | queueResume (f : Fin 4096) (q : Fin 256)
  /-- QUEUE_DRAINED (R284) -/
  | queueDrained (k : Fin 16384)
  /-- DESC_FETCH (R290) -/
  | descFetch (k : Fin 16384)
  /-- DESC_FETCH_DONE (R290) -/
  | descFetchDone (k : Fin 16384)
  /-- DESC_START (R291) -/
  | descStart (k : Fin 16384)
  /-- DESC_NOP (R293) -/
  | descNop (k : Fin 16384)
  /-- COPY_TO_FABRIC (R292) -/
  | copyToFabric (k : Fin 16384) (i : Fin 65536)
  /-- COPY_FROM_FABRIC (R292) -/
  | copyFromFabric (k : Fin 16384) (i : Fin 65536)
  /-- MSG_SEND (R292) -/
  | msgSend (k : Fin 16384) (i : Fin 65536)
  /-- FENCE (R295) -/
  | fence (k : Fin 16384)
  /-- LOG_BARRIER (R238) -/
  | logBarrier (k : Fin 16384)
  /-- DESC_COMPLETE (R293) -/
  | descComplete (k : Fin 16384) (i : Fin 65536)
  /-- COMPLETION_RECORD (R294) -/
  | completionRecord (k : Fin 16384)
  /-- QCTX_ECC (R305) -/
  | qctxEcc (k : Fin 16384)
  /-- DETECT_BURST (R324) -/
  | detectBurst (k : Fin 4)
  /-- NICEN_SIGNAL_DETECT (R324) -/
  | nicenSignalDetect (k : Fin 4) (lanes : List (Fin 32))
  /-- TS_BLOCK_RX (R326) -/
  | tsBlockRx (k : Fin 4) (i : Fin 32) (t : TsBlock)
  /-- EQ_BLOCK_RX (R328) -/
  | eqBlockRx (k : Fin 4) (i : Fin 32) (b : EqBlock)
  /-- AM_ROW_RX (R330) -/
  | amRowRx (k : Fin 4) (a : AmRow)
  /-- HAND_ROW_RX (R343) -/
  | handRowRx (k : Fin 4) (h : HandRow)
  /-- EI_ENTER_RX (R340) -/
  | eiEnterRx (k : Fin 4)
  /-- DOWN_ROW_RX (R324) -/
  | downRowRx (k : Fin 4)
  /-- NICEN_STATE_TIMEOUT (R324) -/
  | nicenStateTimeout (k : Fin 4)
  /-- BLOCK_LOCK (R321) -/
  | blockLock (k : Fin 4) (i : Fin 32)
  /-- BLOCK_LOCK_LOSS (R321) -/
  | blockLockLoss (k : Fin 4) (i : Fin 32)
  /-- SLIP (R321) -/
  | slip (k : Fin 4) (i : Fin 32)
  /-- FRAME_RX (R337) -/
  | frameRx (k : Fin 4) (f : Frame)
  /-- REPLAY_TIMEOUT (R338) -/
  | replayTimeout (k : Fin 4)
  /-- NICEN_RETRAIN (R348) -/
  | nicenRetrain (k : Fin 4)
  /-- RETRAIN_TIMEOUT (R348) -/
  | retrainTimeout (k : Fin 4)
  /-- NICEN_EI_ENTRY (R340) -/
  | nicenEiEntry (k : Fin 4)
  /-- NICEN_EI_EXIT (R341) -/
  | nicenEiExit (k : Fin 4)
  /-- SHED_COMMAND (R345) -/
  | shedCommand (k : Fin 4) (i : Fin 32)
  /-- RESTORE_COMMAND (R347) -/
  | restoreCommand (k : Fin 4) (i : Fin 32)
  /-- SHED_REQUEST_REPEAT (R345) -/
  | shedRequestRepeat (k : Fin 4)
  /-- SHED_REQ_RX (R345) -/
  | shedReqRx (k : Fin 4) (r : ShedReq)
  /-- RESTORE_REQ_RX (R347) -/
  | restoreReqRx (k : Fin 4) (r : ShedReq)
  /-- SHED_ACK_RX (R346) -/
  | shedAckRx (k : Fin 4) (id : Fin 256)
  /-- SHED_REFUSE_RX (R345) -/
  | shedRefuseRx (k : Fin 4) (id : Fin 256)
  /-- SHED_READY_RX (R347) -/
  | shedReadyRx (k : Fin 4) (id : Fin 256)
  /-- RESTORE_AM (R347) -/
  | restoreAm (k : Fin 4)
  /-- AUTO_RESTORE (R347) -/
  | autoRestore (k : Fin 4)
  /-- CPL_RX (R364) -/
  | cplRx (k : Fin 4) (x : TxnIn)
  /-- HWR_RX (R368) -/
  | hwrRx (k : Fin 4) (x : TxnIn)
  /-- HRD_RX (R368) -/
  | hrdRx (k : Fin 4) (x : TxnIn)
  /-- HINT_RX (R370) -/
  | hintRx (k : Fin 4) (x : TxnIn)
  /-- CREDIT_RX (R376) -/
  | creditRx (k : Fin 4) (x : TxnIn)
  /-- HAND_TXN_RX (R449) -/
  | handTxnRx (k : Fin 4) (x : TxnIn)
  /-- BURN_RX (R387) -/
  | burnRx (k : Fin 4) (x : TxnIn)
  /-- FOLD_RX (R388) -/
  | foldRx (k : Fin 4) (x : TxnIn)
  /-- SHED_REPORT_RX (R386) -/
  | shedReportRx (k : Fin 4) (x : TxnIn)
  /-- TIME_TXN_RX (R444) -/
  | timeTxnRx (k : Fin 4) (x : TxnIn)
  /-- NICEN_RD_TIMEOUT (R382) -/
  | nicenRdTimeout (k : Fin 4) (i : Fin 4096)
  /-- NICEN_TAG_RELEASE (R382) -/
  | nicenTagRelease (k : Fin 4) (i : Fin 4096)
  /-- BURN_TIMEOUT (R387) -/
  | burnTimeout (k : Fin 4) (id : Fin 4096)
  /-- EVENT_CLAIM (R409) -/
  | eventClaim (t : Fin 8) (tag : Fin 16384)
  /-- CLAIM_COMPLETE (R409) -/
  | claimComplete (t : Fin 8) (i : Fin 4096)
  /-- CLAIM_EXPIRE (R410) -/
  | claimExpire (i : Fin 4096)
  /-- WAKE (R411) -/
  | wake (w : Fin 19)
  /-- MSX_ECC_INJECT (R413) -/
  | msxEccInject (r : Req) (v : Word)
  /-- FOLD_COMMAND (R438) -/
  | foldCommand (r : Req) (p : Fin 16)
  /-- CLEAR_COMMAND (R422) -/
  | clearCommand (r : Req) (p : Fin 16)
  /-- FOLD_DRAINED (R422) -/
  | foldDrained (p : Fin 11)
  /-- HSE_KICK (R427) -/
  | hseKick (r : Req)
  /-- HSE_WDOG_EXPIRE (R427) -/
  | hseWdogExpire
  /-- CRP_WDOG_EXPIRE (R427) -/
  | crpWdogExpire (e : Fin 16)
  /-- CLOCK_LOSS (R423) -/
  | clockLoss
  /-- SUPPLY_FAULT (R424) -/
  | supplyFault
  /-- MONITOR_MISMATCH (R425) -/
  | monitorMismatch
  /-- INJECT_PARITY (R439) -/
  | injectParity (r : Req) (shadow : Bool) (target : BitVec 27)
  /-- INJECT_CRC (R439) -/
  | injectCrc (r : Req)
  /-- INJECT_CLOCK (R439) -/
  | injectClock (r : Req)
  /-- INJECT_SUPPLY (R439) -/
  | injectSupply (r : Req)
  /-- INJECT_TIME_BASE (R439) -/
  | injectTimeBase (r : Req)
  /-- INJECT_MONITOR (R439) -/
  | injectMonitor (r : Req)
  /-- INJECT_QCTX (R439) -/
  | injectQctx (r : Req) (k : Fin 16384)
  /-- INJECT_HSE_WDOG (R439) -/
  | injectHseWdog (r : Req)
  /-- INJECT_CRP_WDOG (R439) -/
  | injectCrpWdog (r : Req)
  /-- PPS_IN_EDGE (R444) -/
  | ppsInEdge (ofs : Fin 320)
  /-- TIME_SOURCE_LOST (R446) -/
  | timeSourceLost
  /-- TIME_SET (R458) -/
  | timeSet
  /-- PPS_OUT_EDGE (R455) -/
  | ppsOutEdge
  /-- CRP_LOAD (R479) -/
  | crpLoad (r : Req) (slot e : Fin 16) (bank : Bool)
  /-- LOAD_DONE (R479) -/
  | loadDone
  /-- OFF_COMMAND (R495) -/
  | offCommand (r : Req)
  /-- DROOP (R502) -/
  | droop (tile : Fin 12) (ovr : Bool)
  /-- SENSOR_ROUND (R505) -/
  | sensorRound (xs : List Nat)
  /-- THERM_TRIP (R503) -/
  | thermTrip
  /-- MINMAX_CLEAR (R507) -/
  | minmaxClear (r : Req) (mask : BitVec 16)
  /-- AVS_TRANSACTION_FAIL (R501) -/
  | avsTransactionFail
  /-- PST_READ (R519) -/
  | pstRead (r : Req) (len : Fin 16) (region : Fin 4) (corr : Nat) (bad : Bool)
  /-- PST_WRITE (R519) -/
  | pstWrite (r : Req) (len : Fin 16) (region : Fin 4)
  /-- PST_BATCH_DONE (R517) -/
  | pstBatchDone
  /-- POWER_FAIL (R524) -/
  | powerFail
  /-- POWER_FAIL_RECORD (R525) -/
  | powerFailRecord
  /-- PROVISION (R529) -/
  | provision (r : Req)
  /-- CLOSE (R529) -/
  | close (r : Req)
  /-- RETURN (R529) -/
  | returnPart (r : Req)
  /-- SCRAP (R529) -/
  | scrap (r : Req)
  /-- DEBUG (R530) -/
  | debug (r : Req)
  /-- DEBUG_TOKEN_EXPIRE (R530) -/
  | debugTokenExpire
  /-- SHOWDOWN (R554) -/
  | showdown (r : Req)
  /-- SHOWDOWN_READ (R547) -/
  | showdownRead (r : Req)
  /-- FW_BEGIN (R549) -/
  | fwBegin (r : Req)
  /-- FW_WRITE (R549) -/
  | fwWrite (r : Req)
  /-- FW_VERIFY (R549) -/
  | fwVerify (r : Req)
  /-- ACTIVATE (R551) -/
  | activate (r : Req)
  /-- HOUSE_READY (R551) -/
  | houseReady
  /-- ACTIVATE_ROLLBACK (R552) -/
  | activateRollback
  /-- CRP_WRITE (R550) -/
  | crpWrite (r : Req)
  /-- CRP_VERIFY (R550) -/
  | crpVerify (r : Req)
  /-- PRESENCE_DEBOUNCED (R564) -/
  | presenceDebounced (n : Fin 6) (low : Bool)
  /-- ATTN_BUTTON_PRESS (R564) -/
  | attnButtonPress (n : Fin 6)
  /-- PWR_ON (R563) -/
  | pwrOn (r : Req) (n : Fin 6)
  /-- PWR_OFF (R563) -/
  | pwrOff (r : Req) (n : Fin 6)
  /-- POWER_GOOD (R565) -/
  | powerGood (n : Fin 6)
  /-- POWER_FAULT (R565) -/
  | powerFault (n : Fin 6)
  /-- REMOVAL_CLEAR (R568) -/
  | removalClear (n : Fin 6)
  /-- COLD_RESET (R573) -/
  | coldReset (wake : Bool)
  /-- RESET_N (R574) -/
  | resetN
  /-- BOOT (R575) -/
  | boot (b : BootIn)
  /-- SEAT_READY (R581) -/
  | seatReady (n : Fin 6)
  /-- SOFT_RESET (R588) -/
  | softReset (r : Req)
  /-- SOFT_RESET_INSTANT (R589) -/
  | softResetInstant
  /-- MCTP_MESSAGE (R603) -/
  | mctpMessage (addr : Fin 128) (q : MctpReq)
  /-- SETDASA (R603) -/
  | setdasa (static dyn : Fin 128)
  /-- ENTDAA (R603) -/
  | entdaa (dyn : Fin 128)
  /-- RSTDAA (R603) -/
  | rstdaa
  /-- SET_ENDPOINT_ID (R603) -/
  | setEndpointId (addr : Fin 128) (eid : Fin 256)
  /-- SLOW_CLOCK_EDGE (R66) -/
  | slowClockEdge (gpio : BitVec 3)
  /-- NLK_ALERT (R352) -/
  | nlkAlert (k : Fin 4)
  /-- DLLP_RX (R156) -/
  | dllpRx (n : Fin 6) (d : Dllp)
  /-- SEAT_REPLAY_TIMER (R156) -/
  | seatReplayTimer (n : Fin 6)
  /-- ELECTRICAL_IDLE_ENTRY (R129) -/
  | electricalIdleEntry (n : Fin 6) (k : LinkLow)
  /-- ELECTRICAL_IDLE_EXIT (R129) -/
  | electricalIdleExit (n : Fin 6)
  /-- HEARTBEAT_RESUMES (R118) -/
  | heartbeatResumes (p : Fin 10) (j : Fin 4)
  /-- CMD_DONE (R548) -/
  | cmdDone (flashErr : Bool)
  deriving DecidableEq, Repr

end Sys2Proof
end

