-- ==== Sys2Proof/Config.lean ====
section
/-! DEFINITION. What an implementation fixes and what the manual leaves open. Each free value is opaque: nothing in Lean can
evaluate it. -/

namespace Sys2Proof

/-- Which of the present Nicen Links carries a request to a fabric endpoint: no rule of the manual says. FREE VALUE. -/
opaque Config.route : Nat → Nat

/-- An open value, fresh for each number (the state counts them). FREE VALUE. -/
opaque Config.freeValue : Nat → Nat

/-- Capability ID and version of the Physical Layer 128.0 GT/s capability, bits [19:0]: PCI Express Base Specification Revision
7.0 assigns them (R184); the manual does not give them. FREE VALUE. -/
opaque Config.pl128 : Nat

/-- Whether the signature chain of a 2 KiB signature block (its bytes) verifies under the fused root it names, and its SHA-384
matches the signed image bytes (R533, R534): ECDSA P-384 and SHA-384 are other documents'. The first argument is the hash of the
owner root key as fused. FREE VALUE. -/
opaque Config.signed : List Byte → List Byte → List Byte → Bool

/-- Whether a token's signature (bytes 0xA0 to 0xFF) verifies under the owner root key whose hash is fused (R530). FREE VALUE. -/
opaque Config.tokenSigned : List Byte → List Byte → Bool

/-- The part's unique identifier, 128 bits (R530, R532). FREE VALUE. -/
opaque Config.uid : Nat

/-- The NONCE of each number (R530). FREE VALUE. -/
opaque Config.nonce : Nat → Nat

/-- Transmitter coefficients of a preset at a rate code (R112, R113): the PCI Express Base Specification gives them in dB; the exact set is the
implementation's. The number is folded into the space of R111. FREE VALUE. -/
opaque Config.txPreset : Nat → Nat → Nat

/-- Transmitter coefficients of the de-emphasis levels: 0 is -6 dB, 1 is -3.5 dB (R112). FREE VALUE. -/
opaque Config.txDeemph : Nat → Nat

/-- The calibrated start voltage in the part's calibration region, in mV (R499). FREE VALUE. -/
opaque Config.startMv : Nat

end Sys2Proof
end

