-- ==== Sys2Proof/Machine/Tab.lean ====
section
/-! DEFINITION. Reading and writing sparse tables, and the bit fields of a 32-bit word. -/

namespace Sys2Proof.Machine

/-- What key `k` of the table holds; `d` where the table lists nothing. -/
def tabGet {α : Type} (d : α) (t : Tab α) (k : Nat) : α :=
  match t with
  | [] => d
  | (j, v) :: r => if j = k then v else tabGet d r k

/-- Remove key `k`. -/
def tabDel {α : Type} (t : Tab α) (k : Nat) : Tab α :=
  match t with
  | [] => []
  | (j, v) :: r => if j = k then tabDel r k else (j, v) :: tabDel r k

/-- List key `k` with value `v`, in place. -/
def tabIns {α : Type} (t : Tab α) (k : Nat) (v : α) : Tab α :=
  match t with
  | [] => [(k, v)]
  | (j, w) :: r =>
    if j = k then (k, v) :: r else if k < j then (k, v) :: (j, w) :: r else (j, w) :: tabIns r k v

/-- Store `v` at key `k` and keep the canonical form: a value equal to the key's default `d` is not listed. -/
def tabPut {α : Type} [DecidableEq α] (d : α) (t : Tab α) (k : Nat) (v : α) : Tab α :=
  if v = d then tabDel t k else tabIns t k v

/-- Change the value at key `k`. -/
def tabMod {α : Type} [DecidableEq α] (d : α) (t : Tab α) (k : Nat) (f : α → α) : Tab α :=
  tabPut d t k (f (tabGet d t k))

/-- Keys strictly rising, all above `lo`. -/
def tabRising {α : Type} (lo : Nat) : Tab α → Bool
  | [] => true
  | (k, _) :: r => decide (lo ≤ k) && tabRising (k + 1) r

/-- The canonical form: keys strictly rising and no pair at its key's default. -/
def tabWf {α : Type} [DecidableEq α] (d : Nat → α) (t : Tab α) : Bool :=
  tabRising 0 t && t.all (fun p => decide (p.2 ≠ d p.1))

/-- Bits [hi:lo] of a word, as a number. -/
def bits (w : Word) (hi lo : Nat) : Nat := (w.toNat >>> lo) % 2 ^ (hi + 1 - lo)

/-- Bit `i` of a word. -/
def bitOf (w : Word) (i : Nat) : Bool := w.toNat.testBit i

/-- A word with ones at [hi:lo]. -/
def maskOf (hi lo : Nat) : Word := BitVec.ofNat 32 ((2 ^ (hi + 1 - lo) - 1) <<< lo)

/-- `w` with bits [hi:lo] replaced by the low bits of `v`. -/
def setBits (w : Word) (hi lo v : Nat) : Word :=
  (w &&& ~~~ maskOf hi lo) ||| (BitVec.ofNat 32 (v <<< lo) &&& maskOf hi lo)

/-- `w` with bit `i` set to `b`. -/
def setBit (w : Word) (i : Nat) (b : Bool) : Word := setBits w i i b.toNat

/-- 1 or 0. -/
def b2n (b : Bool) : Nat := if b then 1 else 0

/-- Saturating successor of a 32-bit count. -/
def satInc (w : Word) : Word := if w = 0xFFFFFFFF#32 then w else w + 1

/-- `n` limited to `m`. -/
def satNat (m n : Nat) : Nat := if n ≤ m then n else m

/-- Signed value of the low `n` bits of `v`. -/
def signedBits (n v : Nat) : Int :=
  let u := v % 2 ^ n
  if u < 2 ^ (n - 1) then (u : Int) else (u : Int) - (2 ^ n : Nat)

/-- The low `n` bits of an integer, as a number. -/
def lowBits (n : Nat) (x : Int) : Nat := (x % ((2 ^ n : Nat) : Int)).toNat

/-- The four bytes of a word, the least significant first (R6). -/
def wordBytes (w : Word) : List Byte :=
  [BitVec.ofNat 8 w.toNat, BitVec.ofNat 8 (w.toNat / 256), BitVec.ofNat 8 (w.toNat / 65536), BitVec.ofNat 8 (w.toNat / 16777216)]

/-- The number a little-endian byte list spells (R6). -/
def leNat : List Byte → Nat
  | [] => 0
  | b :: r => b.toNat + 256 * leNat r

/-- `n` bytes of a number, the least significant first (R6). -/
def natLe : Nat → Nat → List Byte
  | 0, _ => []
  | n + 1, v => BitVec.ofNat 8 v :: natLe n (v / 256)

/-- Numbers lo, lo+1, … (n of them). -/
def numsFrom (lo : Nat) : Nat → List Nat
  | 0 => []
  | n + 1 => lo :: numsFrom (lo + 1) n

/-- Add a number to a rising list without repeats. -/
def setIns (k : Nat) : List Nat → List Nat
  | [] => [k]
  | j :: r => if j = k then j :: r else if k < j then k :: j :: r else j :: setIns k r

/-- Remove a number from a list. -/
def setDel (k : Nat) (l : List Nat) : List Nat := l.filter (fun j => !(j == k))

end Sys2Proof.Machine
end

