-- ==== Sys2Proof/Machine/RegMap.lean ====
section
/-! DEFINITION. The register map: every register field of every page with its access code and reset value,
as the register tables of spec/01 to spec/21 and the address map (R628 to R632) give them. Bits not listed are
reserved (R7). "deck", "fuse" and "per page" resets are 0 here; the computed views and cut 0 supply them. -/

namespace Sys2Proof.Machine

/-- Access codes (R8). -/
inductive Acc | rw | ro | rv | w1c | w1s | wo | rwl | rws | stg | cmd
  deriving DecidableEq, Repr

/-- One field of a register: bits [hi:lo], access code, value after a cold reset or RESET_N (R10). -/
structure Fld where
  hi  : Nat
  lo  : Nat
  acc : Acc
  rst : Nat
  deriving DecidableEq, Repr

/-- `cnt` registers from page offset `off`, 4 bytes apart, with the same fields. -/
structure Reg where
  off  : Nat
  cnt  : Nat
  flds : List Fld
  deriving DecidableEq, Repr

/-- What a page holds (R51, R629, R630, R631). -/
inductive PageKind
  | tbl | dlr | tal | xlt | dma | msx | evr | saf | tim | crp0 | crpIn | crpAct | pwr | sns | pst | lcs | hse
  | seatLink | seatTxn | seatIde | slot | seatLane | nlkLink | nlkTxn | nlkLane | fnPf | fnVf
  deriving DecidableEq, Repr

/-- A field of a register table. -/
def fd (hi lo : Nat) (acc : Acc) (rst : Nat) : Fld := { hi := hi, lo := lo, acc := acc, rst := rst }

/-- Block registers of the tbl page group. -/
def tblRegs : List Reg := [
  -- `TBL.IDENT` (R45)
  ⟨0x100, 1, [fd 31 16 .ro 0x9612, fd 15 0 .ro 0x1f3d]⟩,
  -- `TBL.GRADE` (R46)
  ⟨0x104, 1, [fd 31 24 .ro 0xb0, fd 19 16 .ro 0, fd 11 8 .ro 0xc, fd 7 4 .ro 0x4, fd 3 0 .ro 0x6]⟩,
  -- `TBL.SEAT_CFG` (R23)
  ⟨0x130, 1, [fd 30 28 .stg 0, fd 26 24 .stg 0, fd 11 0 .stg 0]⟩,
  -- `TBL.LG_CFG[g]` (R22)
  ⟨0x140, 12, [fd 5 4 .stg 0, fd 1 0 .stg 0]⟩,
  -- `TBL.CRC_ACTIVE` (R83)
  ⟨0x180, 1, [fd 31 0 .ro 0]⟩,
  -- `TBL.CRC_LAST` (R83)
  ⟨0x184, 1, [fd 31 0 .ro 0]⟩,
  -- `TBL.CRC_STAT` (R83)
  ⟨0x188, 1, [fd 31 0 .ro 0]⟩,
  -- `TBL.BUTTON_STAT` (R570)
  ⟨0x190, 1, [fd 31 31 .ro 0, fd 2 0 .ro 0]⟩,
  -- `TBL.RESET_CMD` (R588)
  ⟨0x1D0, 1, [fd 31 28 .ro 0, fd 15 4 .rw 0, fd 3 0 .cmd 0]⟩,
  -- `TBL.BOOT_STAT` (R580)
  ⟨0x1D4, 1, [fd 31 28 .ro 0x1, fd 27 26 .ro 0, fd 25 24 .ro 0, fd 23 20 .ro 0, fd 19 19 .ro 0, fd 18 18 .ro 0, fd 17 16 .ro 0, fd 11 0 .ro 0]⟩,
  -- `TBL.GPIO_CFG` (R604)
  ⟨0x1E0, 1, [fd 18 18 .rw 0, fd 17 17 .rw 0, fd 16 16 .rw 0, fd 11 8 .rw 0, fd 7 4 .rw 0, fd 3 0 .rw 0]⟩,
  -- `TBL.GPIO_STAT` (R605)
  ⟨0x1E4, 1, [fd 2 0 .rv 0]⟩]

/-- Block registers of the deck page group. -/
def deckRegs : List Reg := [
  -- `DECK_CMD` (R92)
  ⟨0x1A0, 1, [fd 31 20 .wo 0, fd 3 0 .cmd 0]⟩,
  -- `DECK_STAT` (R93)
  ⟨0x1A4, 1, [fd 31 20 .ro 0, fd 19 16 .ro 0, fd 11 8 .ro 0, fd 6 4 .ro 0, fd 3 2 .ro 0, fd 1 1 .ro 0, fd 0 0 .ro 0]⟩,
  -- `DECK_ARG0` (R94)
  ⟨0x1A8, 1, [fd 31 0 .rw 0]⟩,
  -- `DECK_ARG1` (R94)
  ⟨0x1AC, 1, [fd 31 31 .rw 0, fd 7 0 .rw 0]⟩,
  -- `DECK_ID` (R94)
  ⟨0x1B0, 1, [fd 31 0 .rw 0]⟩,
  -- `DECK_MISDEAL` (R94)
  ⟨0x1B4, 1, [fd 31 24 .ro 0, fd 23 12 .ro 0, fd 11 0 .ro 0]⟩,
  -- `DECK_MISDEAL_AT` (R94)
  ⟨0x1B8, 1, [fd 26 0 .ro 0]⟩,
  -- `DECK_GEN` (R94)
  ⟨0x1BC, 1, [fd 31 16 .ro 0, fd 15 0 .ro 0]⟩,
  -- `DECK_IND_ADDR` (R94)
  ⟨0x1C0, 1, [fd 26 2 .rw 0]⟩,
  -- `DECK_IND_DATA` (R94)
  ⟨0x1C4, 1, [fd 31 0 .rw 0]⟩]

/-- Block registers of the dlr page group. -/
def dlrRegs : List Reg := [
  -- `DLR.TRUMP_BUDGET[p]` (R270)
  ⟨0x100, 10, [fd 12 0 .stg 0]⟩,
  -- `DLR.SHARE[p]` (R271)
  ⟨0x180, 10, [fd 15 8 .ro 0, fd 7 0 .ro 0]⟩,
  -- `DLR.SEAL_LOG` (R271)
  ⟨0x1C4, 1, [fd 31 28 .ro 0, fd 27 24 .ro 0, fd 23 23 .ro 0, fd 11 0 .ro 0]⟩,
  -- `DLR.OVERRUN_LOG` (R271)
  ⟨0x1C8, 1, [fd 31 28 .ro 0, fd 27 26 .ro 0, fd 25 25 .ro 0, fd 11 0 .ro 0]⟩,
  -- `DLR.INJECT` (R271)
  ⟨0x1E0, 1, [fd 31 28 .rw 0, fd 2 0 .cmd 0]⟩,
  -- `DLR.CNT_DEMOTE_SIZE` (R276)
  ⟨0x400, 1, [fd 31 0 .ro 0]⟩,
  -- `DLR.CNT_DEMOTE_TRICK` (R276)
  ⟨0x404, 1, [fd 31 0 .ro 0]⟩,
  -- `DLR.CNT_DEMOTE_BUDGET` (R276)
  ⟨0x408, 1, [fd 31 0 .ro 0]⟩,
  -- `DLR.CNT_DEMOTE_COLLISION` (R276)
  ⟨0x40C, 1, [fd 31 0 .ro 0]⟩,
  -- `DLR.CNT_SEAL` (R276)
  ⟨0x410, 1, [fd 31 0 .ro 0]⟩,
  -- `DLR.CNT_OVERRUN` (R276)
  ⟨0x414, 1, [fd 31 0 .ro 0]⟩,
  -- `DLR.CNT_LOCKSTEP` (R276)
  ⟨0x418, 1, [fd 31 0 .ro 0]⟩,
  -- `DLR.CNT_DEMOTE_CREDIT` (R276)
  ⟨0x41C, 1, [fd 31 0 .ro 0]⟩]

/-- Block registers of the tal page group. -/
def talRegs : List Reg := [
  -- `TAL.KITTY_FLOOR` (R273)
  ⟨0x100, 1, [fd 18 0 .stg 0]⟩,
  -- `TAL.AUDIT_STAT` (R274)
  ⟨0x180, 1, [fd 31 31 .ro 0, fd 30 28 .ro 0, fd 11 0 .ro 0]⟩,
  -- `TAL.INJECT` (R274)
  ⟨0x1E0, 1, [fd 2 0 .cmd 0]⟩,
  -- `TAL.CNT_ECC_CORR` (R276)
  ⟨0x400, 1, [fd 31 0 .ro 0]⟩,
  -- `TAL.CNT_ECC_UNCORR` (R276)
  ⟨0x404, 1, [fd 31 0 .ro 0]⟩,
  -- `TAL.CNT_KITTY_WAIT` (R276)
  ⟨0x408, 1, [fd 31 0 .ro 0]⟩]

/-- Block registers of the xlt page group. -/
def xltRegs : List Reg := [
  -- `XLT.REFUSE_LOG0` (R241)
  ⟨0x100, 1, [fd 31 28 .ro 0, fd 27 26 .ro 0, fd 25 25 .ro 0, fd 11 0 .ro 0]⟩,
  -- `XLT.REFUSE_LOG1` (R241)
  ⟨0x104, 1, [fd 22 0 .ro 0]⟩,
  -- `XLT.ECC_LOG` (R241)
  ⟨0x108, 1, [fd 31 31 .ro 0, fd 30 30 .ro 0, fd 29 29 .ro 0, fd 22 0 .ro 0]⟩,
  -- `XLT.SCRUB_STAT` (R241)
  ⟨0x10C, 1, [fd 31 16 .ro 0]⟩,
  -- `XLT.ECC_INJECT` (R241)
  ⟨0x110, 1, [fd 31 31 .rw 0, fd 30 29 .rw 0, fd 22 0 .rw 0]⟩,
  -- `XLT.CNT_REFUSE_RANGE` (R242)
  ⟨0x400, 1, [fd 31 0 .ro 0]⟩,
  -- `XLT.CNT_REFUSE_INVALID` (R242)
  ⟨0x404, 1, [fd 31 0 .ro 0]⟩,
  -- `XLT.CNT_REFUSE_GRANULE` (R242)
  ⟨0x408, 1, [fd 31 0 .ro 0]⟩,
  -- `XLT.CNT_REFUSE_PERM` (R242)
  ⟨0x40C, 1, [fd 31 0 .ro 0]⟩,
  -- `XLT.CNT_REFUSE_OWNER` (R242)
  ⟨0x410, 1, [fd 31 0 .ro 0]⟩,
  -- `XLT.CNT_MASTER_OFF` (R242)
  ⟨0x414, 1, [fd 31 0 .ro 0]⟩,
  -- `XLT.CNT_ECC_CORR` (R242)
  ⟨0x418, 1, [fd 31 0 .ro 0]⟩,
  -- `XLT.CNT_ECC_UNCORR` (R242)
  ⟨0x41C, 1, [fd 31 0 .ro 0]⟩,
  -- `XLT.CNT_LOG_FLUSH` (R242)
  ⟨0x420, 1, [fd 31 0 .ro 0]⟩,
  -- `XLT.CNT_LOG_EVICT` (R242)
  ⟨0x424, 1, [fd 31 0 .ro 0]⟩,
  -- `XLT.CNT_LOG_LOST` (R242)
  ⟨0x428, 1, [fd 31 0 .ro 0]⟩]

/-- Block registers of the dma page group. -/
def dmaRegs : List Reg := [
  -- `DMA.CNT_HALT` (R312)
  ⟨0x400, 1, [fd 31 0 .ro 0]⟩,
  -- `DMA.CNT_MISALIGNED` (R312)
  ⟨0x404, 1, [fd 31 0 .ro 0]⟩,
  -- `DMA.CNT_XLATE` (R312)
  ⟨0x408, 1, [fd 31 0 .ro 0]⟩,
  -- `DMA.CNT_HOST_TIMEOUT` (R312)
  ⟨0x40C, 1, [fd 31 0 .ro 0]⟩,
  -- `DMA.CNT_BURNED` (R312)
  ⟨0x410, 1, [fd 31 0 .ro 0]⟩,
  -- `DMA.CNT_BAD_DOORBELL` (R312)
  ⟨0x414, 1, [fd 31 0 .ro 0]⟩,
  -- `DMA.CNT_BAD_CMD` (R312)
  ⟨0x418, 1, [fd 31 0 .ro 0]⟩,
  -- `DMA.CNT_MOVE` (R312)
  ⟨0x41C, 1, [fd 31 0 .ro 0]⟩,
  -- `DMA.CNT_CTX_ECC_CORR` (R312)
  ⟨0x420, 1, [fd 31 0 .ro 0]⟩]

/-- Block registers of the msx page group. -/
def msxRegs : List Reg := [
  -- `MSX.ECC_LOG` (R413)
  ⟨0x100, 1, [fd 31 31 .ro 0, fd 17 16 .ro 0, fd 15 0 .ro 0]⟩,
  -- `MSX.ECC_INJECT` (R413)
  ⟨0x110, 1, [fd 30 29 .rw 0, fd 17 16 .rw 0, fd 15 0 .rw 0]⟩,
  -- `MSX.CNT_DROPPED` (R413)
  ⟨0x400, 1, [fd 31 0 .ro 0]⟩,
  -- `MSX.CNT_ECC_CORR` (R413)
  ⟨0x404, 1, [fd 31 0 .ro 0]⟩]

/-- ID `i` names a router source that can be routed (R406): the Table pages, the Nicen Link pages, SEAT_ALERT. -/
def namesSource (i : Nat) : Bool :=
  decide (i < 0x15 ∧ i ≠ 1) || (decide (0x160 ≤ i ∧ i < 0x1A0) && (i % 16 == 0 || i % 16 == 1 || i % 16 == 7)) || decide (0x1C0 ≤ i ∧ i < 0x1C6)

/-- `EVR.ROUTE[w]` (R413): bytes of IDs that name no source are reserved. DEDUCED: reserved bits are not staged (R7, R80). -/
def routeRegs : List Reg :=
  (List.range 128).map (fun w =>
    ⟨0x200 + 4 * w, 1, ([3, 2, 1, 0].filter (fun j => namesSource (4 * w + j))).map (fun j => fd (8 * j + 7) (8 * j) .stg 0)⟩)

/-- Block registers of the evr page group. -/
def evrRegs : List Reg := [
  -- `EVR.CLAIM_HSE` (R413)
  ⟨0x100, 1, [fd 31 0 .cmd 0]⟩,
  -- `EVR.CLAIM_MGMT` (R413)
  ⟨0x104, 1, [fd 31 0 .cmd 0]⟩,
  -- `EVR.SEAT_ALERT` (R413)
  ⟨0x108, 1, [fd 5 0 .w1c 0]⟩,
  -- `EVR.WAKE_EN` (R413)
  ⟨0x180, 1, [fd 18 0 .stg 0]⟩,
  -- `EVR.ROUTE[w]` (R413)
  -- (routeRegs below)
  -- `EVR.CNT_CLAIM_EXPIRE` (R413)
  ⟨0x400, 1, [fd 31 0 .ro 0]⟩] ++ routeRegs

/-- Block registers of the saf page group. -/
def safRegs : List Reg := [
  -- `SAF.FAULT_STAT` (R438)
  ⟨0x100, 1, [fd 22 1 .w1c 0]⟩,
  -- `SAF.FAULT_LOG0` (R438)
  ⟨0x104, 1, [fd 31 27 .ro 0, fd 26 23 .ro 0, fd 22 22 .ro 0, fd 21 21 .ro 0, fd 11 0 .ro 0]⟩,
  -- `SAF.FAULT_LOG1` (R438)
  ⟨0x108, 1, [fd 26 0 .ro 0]⟩,
  -- `SAF.FOLD_STAT` (R438)
  ⟨0x110, 1, [fd 31 31 .ro 0, fd 9 0 .ro 0]⟩,
  -- `SAF.FOLD_CMD` (R438)
  ⟨0x120, 1, [fd 31 28 .ro 0, fd 7 4 .wo 0, fd 1 0 .cmd 0]⟩,
  -- `SAF.HSE_KICK` (R438)
  ⟨0x130, 1, [fd 0 0 .wo 0]⟩,
  -- `SAF.FOLD_CAUSE[p]` (R438)
  ⟨0x140, 11, [fd 31 31 .ro 0, fd 30 30 .ro 0, fd 4 0 .ro 0]⟩,
  -- `SAF.FAULT_CFG` (R439)
  ⟨0x170, 1, [fd 31 31 .rwl 0, fd 9 0 .rwl 0]⟩,
  -- `SAF.INJ_CTRL` (R439)
  ⟨0x174, 1, [fd 0 0 .rwl 0]⟩,
  -- `SAF.INJECT` (R439)
  ⟨0x1E0, 1, [fd 31 31 .rw 0, fd 30 4 .rw 0, fd 3 0 .cmd 0]⟩,
  -- `SAF.CNT_FOLD_SEAT` (R440)
  ⟨0x400, 1, [fd 31 0 .ro 0]⟩,
  -- `SAF.CNT_FOLD_LINK` (R440)
  ⟨0x404, 1, [fd 31 0 .ro 0]⟩,
  -- `SAF.CNT_FOLD_TABLE` (R440)
  ⟨0x408, 1, [fd 31 0 .ro 0]⟩,
  -- `SAF.CNT_HSE_WDOG` (R440)
  ⟨0x40C, 1, [fd 31 0 .ro 0]⟩,
  -- `SAF.CNT_CRP_WDOG` (R440)
  ⟨0x410, 1, [fd 31 0 .ro 0]⟩,
  -- `SAF.CNT_INJECT` (R440)
  ⟨0x414, 1, [fd 31 0 .ro 0]⟩]

/-- Block registers of the tim page group. -/
def timRegs : List Reg := [
  -- `TIM.SRC_CFG` (R457)
  ⟨0x100, 1, [fd 3 0 .stg 0]⟩,
  -- `TIM.LINK_ASYM[k]` (R457)
  ⟨0x110, 4, [fd 15 0 .stg 0]⟩,
  -- `TIM.PTM_CFG` (R457)
  ⟨0x120, 1, [fd 7 0 .stg 0]⟩,
  -- `TIM.PPS_CFG` (R457)
  ⟨0x124, 1, [fd 31 31 .stg 0, fd 25 16 .stg 0, fd 15 0 .stg 0]⟩,
  -- `TIM.SET_LO` (R458)
  ⟨0x130, 1, [fd 31 0 .rw 0]⟩,
  -- `TIM.SET_HI` (R458)
  ⟨0x134, 1, [fd 31 0 .rw 0]⟩,
  -- `TIM.TIME_CMD` (R458)
  ⟨0x138, 1, [fd 31 28 .ro 0, fd 8 8 .ro 0, fd 0 0 .cmd 0]⟩,
  -- `TIM.STAT` (R458)
  ⟨0x140, 1, [fd 31 29 .ro 0, fd 28 25 .ro 0, fd 24 24 .ro 0]⟩,
  -- `TIM.JUMP_LOG` (R458)
  ⟨0x144, 1, [fd 31 0 .ro 0]⟩]

/-- Block registers of the crp0 page group. -/
def crp0Regs : List Reg := [
  -- `CRP.ENG_CFG[e]` (R480)
  ⟨0x100, 16, [fd 31 31 .stg 0, fd 30 30 .stg 0]⟩,
  -- `CRP.ENG_STAT[e]` (R482)
  ⟨0x140, 16, [fd 31 30 .ro 0, fd 29 29 .ro 0, fd 28 28 .ro 0, fd 27 27 .ro 0, fd 26 26 .ro 0, fd 25 25 .ro 0, fd 12 0 .ro 0]⟩,
  -- `CRP.LOAD_CMD` (R479)
  ⟨0x180, 1, [fd 31 28 .ro 0, fd 27 27 .ro 0, fd 12 9 .wo 0, fd 8 5 .wo 0, fd 4 4 .wo 0, fd 0 0 .cmd 0]⟩,
  -- `CRP.CAP` (R482)
  ⟨0x184, 1, [fd 15 8 .ro 0x10, fd 3 0 .ro 0x1]⟩,
  -- `CRP.EVENT_LOG` (R482)
  ⟨0x188, 1, [fd 31 28 .ro 0, fd 27 20 .ro 0, fd 19 19 .ro 0, fd 11 0 .ro 0]⟩,
  -- `CRP.OVERRUN_STAT` (R482)
  ⟨0x18C, 1, [fd 15 0 .w1c 0]⟩]

/-- Block registers of the crpIn page group. -/
def crpInRegs : List Reg := [
  -- `CRP.IN_SEL[i]` (R464)
  ⟨0x100, 256, [fd 31 28 .stg 0, fd 27 24 .stg 0, fd 11 0 .stg 0]⟩]

/-- Block registers of the crpAct page group. -/
def crpActRegs : List Reg := [
  -- `CRP.ACT_CFG[a]` (R473)
  ⟨0x100, 256, [fd 31 28 .stg 0, fd 27 24 .stg 0, fd 23 12 .stg 0, fd 11 0 .stg 0]⟩]

/-- Block registers of the pwr page group. -/
def pwrRegs : List Reg := [
  -- `PWR.SW_REQ` (R508)
  ⟨0x100, 1, [fd 6 4 .rw 0, fd 2 0 .rw 0]⟩,
  -- `PWR.OFF_CMD` (R509)
  ⟨0x104, 1, [fd 31 28 .ro 0, fd 0 0 .cmd 0]⟩,
  -- `PWR.LTR_CFG` (R510)
  ⟨0x108, 1, [fd 31 16 .rw 0x7d0, fd 15 0 .rw 0x14]⟩,
  -- `PWR.AVS_CFG` (R511)
  ⟨0x110, 1, [fd 31 31 .rwl 0x1, fd 30 28 .rwl 0x5, fd 27 18 .rwl 0x352, fd 17 8 .rwl 0x28a, fd 7 0 .rwl 0x20]⟩,
  -- `PWR.STATE` (R512)
  ⟨0x140, 1, [fd 31 29 .rv 0, fd 28 28 .rv 0]⟩,
  -- `PWR.VOTES0` (R512)
  ⟨0x144, 1, [fd 31 0 .rv 0]⟩,
  -- `PWR.VOTES1` (R512)
  ⟨0x148, 1, [fd 15 0 .rv 0]⟩,
  -- `PWR.AVS_STAT` (R512)
  ⟨0x14C, 1, [fd 31 22 .rv 0x320, fd 21 12 .rv 0, fd 11 11 .rv 0x1, fd 10 10 .rv 0, fd 9 9 .rv 0, fd 7 0 .rv 0]⟩,
  -- `PWR.CNT_IDLE` (R513)
  ⟨0x400, 1, [fd 31 0 .ro 0]⟩,
  -- `PWR.CNT_SLEEP` (R513)
  ⟨0x404, 1, [fd 31 0 .ro 0]⟩,
  -- `PWR.CNT_DEEP` (R513)
  ⟨0x408, 1, [fd 31 0 .ro 0]⟩,
  -- `PWR.CNT_AVS_HOLD` (R513)
  ⟨0x40C, 1, [fd 31 0 .ro 0]⟩,
  -- `PWR.CNT_DROOP` (R513)
  ⟨0x410, 1, [fd 31 0 .ro 0]⟩]

/-- Block registers of the sns page group. -/
def snsRegs : List Reg := [
  -- `SNS.CH_CFG[c]` (R514)
  ⟨0x100, 16, [fd 31 30 .rw 0, fd 27 16 .rw 0xfff, fd 11 0 .rw 0]⟩,
  -- `SNS.SAMPLE[c]` (R514)
  ⟨0x180, 16, [fd 31 31 .rv 0, fd 30 30 .rv 0, fd 29 29 .rv 0, fd 28 28 .rv 0, fd 23 12 .rv 0, fd 11 0 .rv 0]⟩,
  -- `SNS.MINMAX_CLR` (R514)
  ⟨0x1C0, 1, [fd 15 0 .wo 0]⟩,
  -- `SNS.ALARM_STAT` (R514)
  ⟨0x1C4, 1, [fd 15 0 .w1c 0]⟩]

/-- Block registers of the pst page group. -/
def pstRegs : List Reg := [
  -- `PST.HOLDUP_C` (R523)
  ⟨0x100, 1, [fd 19 0 .stg 0]⟩,
  -- `PST.HOLDUP_V` (R523)
  ⟨0x104, 1, [fd 31 16 .stg 0, fd 15 0 .stg 0]⟩,
  -- `PST.HOLDUP_CTL` (R523)
  ⟨0x108, 1, [fd 8 8 .stg 0, fd 6 0 .stg 0]⟩,
  -- `PST.ADDR` (R518)
  ⟨0x110, 1, [fd 21 6 .rw 0]⟩,
  -- `PST.CMD` (R518)
  ⟨0x114, 1, [fd 31 28 .ro 0, fd 27 27 .ro 0, fd 11 8 .rw 0, fd 5 4 .rw 0, fd 1 0 .cmd 0]⟩,
  -- `PST.HOLDUP_STAT` (R538)
  ⟨0x140, 1, [fd 31 0 .ro 0]⟩,
  -- `PST.RING_STAT` (R538)
  ⟨0x144, 1, [fd 31 0 .ro 0]⟩,
  -- `PST.RING_SEQ` (R538)
  ⟨0x148, 1, [fd 31 0 .ro 0]⟩,
  -- `PST.CNT_DEFERRED` (R538)
  ⟨0x200, 1, [fd 31 0 .ro 0]⟩,
  -- `PST.CNT_REC_DROPPED` (R538)
  ⟨0x204, 1, [fd 31 0 .ro 0]⟩,
  -- `PST.CNT_ECC_CORR` (R538)
  ⟨0x208, 1, [fd 31 0 .ro 0]⟩,
  -- `PST.CNT_BATCH` (R538)
  ⟨0x20C, 1, [fd 31 0 .ro 0]⟩,
  -- `PST.BUF[w]` (R518)
  ⟨0x400, 256, [fd 31 0 .rw 0]⟩]

/-- Block registers of the lcs page group. -/
def lcsRegs : List Reg := [
  -- `LCS.STATE` (R532)
  ⟨0x100, 1, [fd 31 28 .ro 0, fd 27 27 .ro 0, fd 26 26 .ro 0]⟩,
  -- `LCS.CMD` (R532)
  ⟨0x104, 1, [fd 31 28 .ro 0, fd 15 4 .rw 0, fd 3 0 .cmd 0]⟩,
  -- `LCS.SVN[i]` (R532)
  ⟨0x110, 3, [fd 31 0 .ro 0]⟩]

/-- Block registers of the hse page group. -/
def hseRegs : List Reg := [
  -- `HSE.CMD` (R544)
  ⟨0x100, 1, [fd 31 28 .ro 0, fd 27 27 .ro 0, fd 26 23 .ro 0, fd 7 0 .cmd 0]⟩,
  -- `HSE.ARG0` (R545)
  ⟨0x104, 4, [fd 31 0 .rw 0]⟩,
  -- `HSE.RSP0` (R545)
  ⟨0x114, 2, [fd 31 0 .ro 0]⟩,
  -- `HSE.STAT` (R545)
  ⟨0x120, 1, [fd 31 28 .ro 0, fd 27 27 .ro 0, fd 26 26 .ro 0, fd 23 16 .ro 0, fd 15 8 .ro 0, fd 7 0 .ro 0]⟩,
  -- `HSE.BUF[w]` (R545)
  ⟨0x400, 256, [fd 31 0 .rw 0]⟩]

/-- Block registers of the seatLink page group. -/
def seatLinkRegs : List Reg := [
  -- `SEAT.LINK_CFG` (R172)
  ⟨0x100, 1, [fd 15 15 .stg 0, fd 13 12 .stg 0, fd 8 8 .stg 0, fd 3 0 .stg 0]⟩,
  -- `SEAT.FC_CFG` (R173)
  ⟨0x104, 1, [fd 31 24 .stg 0, fd 23 16 .stg 0, fd 15 10 .stg 0, fd 9 0 .stg 0]⟩,
  -- `SEAT.LINK_STAT` (R174)
  ⟨0x110, 1, [fd 31 28 .ro 0, fd 27 24 .ro 0, fd 23 19 .ro 0, fd 18 14 .ro 0, fd 13 13 .ro 0, fd 12 11 .ro 0, fd 10 9 .ro 0, fd 8 8 .ro 0, fd 7 7 .ro 0, fd 1 1 .ro 0, fd 0 0 .ro 0]⟩,
  -- `SEAT.CNT_FEC_CORR` (R176)
  ⟨0x400, 1, [fd 31 0 .ro 0]⟩,
  -- `SEAT.CNT_FEC_UNCORR` (R176)
  ⟨0x404, 1, [fd 31 0 .ro 0]⟩,
  -- `SEAT.CNT_NAK_TX` (R176)
  ⟨0x408, 1, [fd 31 0 .ro 0]⟩,
  -- `SEAT.CNT_NAK_RX` (R176)
  ⟨0x40C, 1, [fd 31 0 .ro 0]⟩,
  -- `SEAT.CNT_REPLAY` (R176)
  ⟨0x410, 1, [fd 31 0 .ro 0]⟩,
  -- `SEAT.CNT_RECOVERY` (R176)
  ⟨0x414, 1, [fd 31 0 .ro 0]⟩,
  -- `SEAT.CNT_WIDTH_DOWN` (R176)
  ⟨0x418, 1, [fd 31 0 .ro 0]⟩]

/-- Block registers of the seatTxn page group. -/
def seatTxnRegs : List Reg := [
  -- `SEAT.VF_MAP` (R193)
  ⟨0x140, 1, [fd 27 16 .stg 0, fd 12 0 .stg 0]⟩,
  -- `SEAT.BUDGET_Q` (R193)
  ⟨0x144, 1, [fd 29 16 .stg 0, fd 14 0 .stg 0]⟩,
  -- `SEAT.BUDGET_V_BASE` (R193)
  ⟨0x148, 1, [fd 15 0 .stg 0]⟩,
  -- `SEAT.BUDGET_V_COUNT` (R193)
  ⟨0x14C, 1, [fd 16 0 .stg 0]⟩,
  -- `SEAT.BUDGET_XT_BASE` (R193)
  ⟨0x150, 1, [fd 22 0 .stg 0]⟩,
  -- `SEAT.BUDGET_XT_LEN` (R193)
  ⟨0x154, 1, [fd 22 0 .stg 0]⟩,
  -- `SEAT.BUDGET_RET_BASE` (R193)
  ⟨0x158, 1, [fd 19 0 .stg 0]⟩,
  -- `SEAT.BUDGET_RET_COUNT` (R193)
  ⟨0x15C, 1, [fd 20 0 .stg 0]⟩,
  -- `SEAT.BUDGET_CARDS` (R193)
  ⟨0x160, 1, [fd 18 0 .stg 0]⟩,
  -- `SEAT.CNT_CPL_TIMEOUT` (R176)
  ⟨0x400, 1, [fd 31 0 .ro 0]⟩,
  -- `SEAT.CNT_LATE_CPL` (R176)
  ⟨0x404, 1, [fd 31 0 .ro 0]⟩,
  -- `SEAT.CNT_TAG_WAIT` (R176)
  ⟨0x408, 1, [fd 31 0 .ro 0]⟩,
  -- `SEAT.CNT_ECRC` (R176)
  ⟨0x40C, 1, [fd 31 0 .ro 0]⟩,
  -- `SEAT.CNT_UR_RX` (R176)
  ⟨0x410, 1, [fd 31 0 .ro 0]⟩]

/-- Block registers of the seatIde page group. -/
def seatIdeRegs : List Reg := [
  -- `SEAT.CNT_IDE_FAIL` (R176)
  ⟨0x400, 1, [fd 31 0 .ro 0]⟩,
  -- `SEAT.CNT_KEY_SWITCH` (R176)
  ⟨0x404, 1, [fd 31 0 .ro 0]⟩]

/-- Block registers of the slot page group. -/
def slotRegs : List Reg := [
  -- `SLOT.CFG` (R560)
  ⟨0x100, 1, [fd 15 8 .stg 0, fd 1 1 .stg 0, fd 0 0 .stg 0]⟩,
  -- `SLOT.CTRL` (R561)
  ⟨0x104, 1, [fd 7 6 .rw 0, fd 5 4 .rw 0, fd 1 0 .cmd 0]⟩,
  -- `SLOT.STAT` (R562)
  ⟨0x108, 1, [fd 31 29 .ro 0, fd 28 28 .ro 0, fd 27 27 .ro 0, fd 26 26 .ro 0, fd 25 25 .ro 0, fd 24 24 .ro 0, fd 3 0 .ro 0]⟩]

/-- Block registers of the seatLane page group. -/
def seatLaneRegs : List Reg := [
  -- `LANE_CFG[i]` (R119)
  ⟨0x100, 16, [fd 31 30 .stg 0, fd 29 26 .stg 0, fd 23 23 .stg 0, fd 22 22 .stg 0, fd 21 21 .stg 0, fd 20 20 .stg 0, fd 13 8 .stg 0, fd 5 0 .stg 0]⟩,
  -- `LANE_STAT[i]` (R125)
  ⟨0x180, 16, [fd 31 31 .ro 0, fd 30 30 .ro 0, fd 29 29 .ro 0x1, fd 28 28 .ro 0, fd 27 27 .ro 0, fd 26 26 .ro 0, fd 25 25 .ro 0, fd 23 20 .ro 0, fd 19 14 .ro 0]⟩,
  -- `LANE_TXEQ[i]` (R126)
  ⟨0x200, 16, [fd 31 28 .ro 0, fd 17 12 .ro 0, fd 11 6 .ro 0, fd 5 0 .ro 0]⟩,
  -- `LANE_PORT_CTL` (R121)
  ⟨0x300, 1, [fd 1 1 .stg 0, fd 0 0 .stg 0]⟩,
  -- `LANE_PORT_STAT` (R124)
  ⟨0x304, 1, [fd 31 31 .ro 0x1, fd 30 30 .ro 0, fd 29 29 .ro 0, fd 28 28 .ro 0, fd 27 24 .ro 0, fd 5 0 .ro 0]⟩,
  -- `LFW_STAT[j]` (R127)
  ⟨0x320, 2, [fd 31 24 .ro 0, fd 23 16 .ro 0, fd 15 12 .ro 0, fd 7 0 .ro 0]⟩,
  -- `LANE_CNT_SIGLOSS[i]` (R136)
  ⟨0x400, 16, [fd 31 0 .ro 0]⟩,
  -- `LANE_CNT_UNLOCK[i]` (R136)
  ⟨0x480, 16, [fd 31 0 .ro 0]⟩,
  -- `LANE_CNT_REACQ[i]` (R136)
  ⟨0x500, 16, [fd 31 0 .ro 0]⟩,
  -- `LANE_CNT_TRAIN[i]` (R136)
  ⟨0x580, 16, [fd 31 0 .ro 0]⟩]

/-- Block registers of the nlkLink page group. -/
def nlkLinkRegs : List Reg := [
  -- `NLK.LINK_CFG` (R350)
  ⟨0x100, 1, [fd 23 18 .stg 0, fd 15 15 .stg 0, fd 14 14 .stg 0, fd 13 13 .stg 0, fd 1 0 .stg 0]⟩,
  -- `NLK.SPARE_CFG` (R350)
  ⟨0x104, 1, [fd 15 0 .stg 0]⟩,
  -- `NLK.SHED_THRESH` (R350)
  ⟨0x108, 1, [fd 15 0 .stg 0]⟩,
  -- `NLK.REPLAY_CFG` (R350)
  ⟨0x10C, 1, [fd 19 16 .stg 0, fd 11 0 .stg 0]⟩,
  -- `NLK.LINK_STAT` (R351)
  ⟨0x110, 1, [fd 31 28 .ro 0, fd 27 24 .ro 0, fd 23 18 .ro 0, fd 17 12 .ro 0, fd 11 11 .ro 0, fd 10 10 .ro 0, fd 9 9 .ro 0, fd 8 8 .ro 0, fd 7 7 .ro 0, fd 6 6 .ro 0, fd 3 0 .ro 0]⟩,
  -- `NLK.LOCAL_ID` (R350)
  ⟨0x118, 1, [fd 31 0 .stg 0]⟩,
  -- `NLK.SLIP_CFG` (R350)
  ⟨0x11C, 1, [fd 0 0 .stg 0]⟩,
  -- `NLK.TX_MAP` (R351)
  ⟨0x120, 1, [fd 31 0 .ro 0]⟩,
  -- `NLK.RX_MAP` (R351)
  ⟨0x124, 1, [fd 31 0 .ro 0]⟩,
  -- `NLK.STANDBY` (R351)
  ⟨0x128, 1, [fd 31 0 .ro 0]⟩,
  -- `NLK.PARTNER_ID` (R351)
  ⟨0x12C, 1, [fd 31 0 .ro 0]⟩,
  -- `NLK.SHED_CMD` (R351)
  ⟨0x130, 1, [fd 31 28 .ro 0, fd 8 8 .ro 0, fd 6 5 .cmd 0, fd 4 0 .wo 0]⟩,
  -- `NLK.SLIP_CMD` (R351)
  ⟨0x138, 1, [fd 8 8 .cmd 0, fd 4 0 .wo 0]⟩,
  -- `NLK.CNT_FEC_CORR` (R353)
  ⟨0x400, 1, [fd 31 0 .ro 0]⟩,
  -- `NLK.CNT_FEC_UNCORR` (R353)
  ⟨0x404, 1, [fd 31 0 .ro 0]⟩,
  -- `NLK.CNT_CRC` (R353)
  ⟨0x408, 1, [fd 31 0 .ro 0]⟩,
  -- `NLK.CNT_NAK_TX` (R353)
  ⟨0x40C, 1, [fd 31 0 .ro 0]⟩,
  -- `NLK.CNT_NAK_RX` (R353)
  ⟨0x410, 1, [fd 31 0 .ro 0]⟩,
  -- `NLK.CNT_REPLAY` (R353)
  ⟨0x414, 1, [fd 31 0 .ro 0]⟩,
  -- `NLK.CNT_RETRAIN` (R353)
  ⟨0x418, 1, [fd 31 0 .ro 0]⟩,
  -- `NLK.CNT_SHED` (R353)
  ⟨0x41C, 1, [fd 31 0 .ro 0]⟩,
  -- `NLK.CNT_RESTORE` (R353)
  ⟨0x420, 1, [fd 31 0 .ro 0]⟩,
  -- `NLK.CNT_TRAIN_FAIL` (R353)
  ⟨0x424, 1, [fd 31 0 .ro 0]⟩,
  -- `NLK.CNT_IDLE` (R353)
  ⟨0x428, 1, [fd 31 0 .ro 0]⟩,
  -- `NLK.CNT_CTRL_BAD` (R353)
  ⟨0x42C, 1, [fd 31 0 .ro 0]⟩]

/-- Block registers of the nlkTxn page group. -/
def nlkTxnRegs : List Reg := [
  -- `NLK.FC_TRUMP` (R391)
  ⟨0x100, 1, [fd 27 16 .stg 0, fd 15 0 .stg 0]⟩,
  -- `NLK.FC_REQUEST` (R391)
  ⟨0x104, 1, [fd 27 16 .stg 0, fd 15 0 .stg 0]⟩,
  -- `NLK.FC_BULK` (R391)
  ⟨0x108, 1, [fd 27 16 .stg 0, fd 15 0 .stg 0]⟩,
  -- `NLK.TMO_CFG` (R391)
  ⟨0x10C, 1, [fd 31 16 .stg 0, fd 15 0 .stg 0]⟩,
  -- `NLK.TAG_CFG` (R391)
  ⟨0x110, 1, [fd 12 0 .stg 0]⟩,
  -- `NLK.TXN_CFG` (R391)
  ⟨0x114, 1, [fd 0 0 .stg 0]⟩,
  -- `NLK.PROTO_LOG` (R392)
  ⟨0x180, 1, [fd 31 28 .ro 0, fd 27 23 .ro 0, fd 22 22 .ro 0, fd 11 0 .ro 0]⟩,
  -- `NLK.REFUSAL_LOG` (R392)
  ⟨0x184, 1, [fd 31 29 .ro 0, fd 28 25 .ro 0, fd 24 24 .ro 0, fd 23 12 .ro 0, fd 11 0 .ro 0]⟩,
  -- `NLK.CNT_RD_TIMEOUT` (R394)
  ⟨0x400, 1, [fd 31 0 .ro 0]⟩,
  -- `NLK.CNT_LATE_CPL` (R394)
  ⟨0x404, 1, [fd 31 0 .ro 0]⟩,
  -- `NLK.CNT_UNEXP_CPL` (R394)
  ⟨0x408, 1, [fd 31 0 .ro 0]⟩,
  -- `NLK.CNT_REFUSED_RX` (R394)
  ⟨0x40C, 1, [fd 31 0 .ro 0]⟩,
  -- `NLK.CNT_TAG_WAIT` (R394)
  ⟨0x410, 1, [fd 31 0 .ro 0]⟩,
  -- `NLK.CNT_BURN` (R394)
  ⟨0x414, 1, [fd 31 0 .ro 0]⟩,
  -- `NLK.CNT_BURN_TIMEOUT` (R394)
  ⟨0x418, 1, [fd 31 0 .ro 0]⟩,
  -- `NLK.CNT_PROTOCOL` (R394)
  ⟨0x41C, 1, [fd 31 0 .ro 0]⟩]

/-- Block registers of the nlkLane page group. -/
def nlkLaneRegs : List Reg := [
  -- `LANE_CFG[i]` (R119)
  ⟨0x100, 32, [fd 31 30 .stg 0, fd 29 26 .stg 0, fd 23 23 .stg 0, fd 22 22 .stg 0, fd 21 21 .stg 0, fd 20 20 .stg 0, fd 13 8 .stg 0, fd 5 0 .stg 0]⟩,
  -- `LANE_STAT[i]` (R125)
  ⟨0x180, 32, [fd 31 31 .ro 0, fd 30 30 .ro 0, fd 29 29 .ro 0x1, fd 28 28 .ro 0, fd 27 27 .ro 0, fd 26 26 .ro 0, fd 25 25 .ro 0, fd 23 20 .ro 0, fd 19 14 .ro 0]⟩,
  -- `LANE_TXEQ[i]` (R126)
  ⟨0x200, 32, [fd 31 28 .ro 0, fd 17 12 .ro 0, fd 11 6 .ro 0, fd 5 0 .ro 0]⟩,
  -- `LANE_PORT_CTL` (R121)
  ⟨0x300, 1, [fd 1 1 .ro 0, fd 0 0 .stg 0]⟩,
  -- `LANE_PORT_STAT` (R124)
  ⟨0x304, 1, [fd 31 31 .ro 0x1, fd 30 30 .ro 0, fd 29 29 .ro 0, fd 28 28 .ro 0, fd 27 24 .ro 0, fd 5 0 .ro 0]⟩,
  -- `LFW_STAT[j]` (R127)
  ⟨0x320, 4, [fd 31 24 .ro 0, fd 23 16 .ro 0, fd 15 12 .ro 0, fd 7 0 .ro 0]⟩,
  -- `LANE_CNT_SIGLOSS[i]` (R136)
  ⟨0x400, 32, [fd 31 0 .ro 0]⟩,
  -- `LANE_CNT_UNLOCK[i]` (R136)
  ⟨0x480, 32, [fd 31 0 .ro 0]⟩,
  -- `LANE_CNT_REACQ[i]` (R136)
  ⟨0x500, 32, [fd 31 0 .ro 0]⟩,
  -- `LANE_CNT_TRAIN[i]` (R136)
  ⟨0x580, 32, [fd 31 0 .ro 0]⟩]

/-- Block registers of the fn page group. -/
def fnRegs : List Reg := [
  -- `FN.IDENT` (R197)
  ⟨0x100, 1, [fd 31 31 .ro 0, fd 30 30 .ro 0, fd 29 27 .ro 0, fd 23 12 .ro 0, fd 11 0 .ro 0]⟩,
  -- `FN.STATE` (R197)
  ⟨0x104, 1, [fd 9 9 .ro 0, fd 8 8 .ro 0, fd 7 7 .ro 0, fd 6 6 .ro 0, fd 5 5 .ro 0, fd 4 4 .ro 0, fd 3 3 .ro 0, fd 2 2 .ro 0, fd 1 0 .ro 0]⟩,
  -- `FN.FLR_STAT` (R197)
  ⟨0x108, 1, [fd 31 31 .ro 0, fd 30 30 .ro 0, fd 29 29 .ro 0, fd 28 28 .ro 0, fd 15 0 .ro 0]⟩,
  -- `FN.QUEUES` (R194)
  ⟨0x110, 1, [fd 29 16 .stg 0, fd 8 0 .stg 0]⟩,
  -- `FN.VECTORS` (R194)
  ⟨0x114, 1, [fd 31 16 .stg 0, fd 11 0 .stg 0]⟩,
  -- `FN.XT_BASE` (R194)
  ⟨0x118, 1, [fd 22 0 .stg 0]⟩,
  -- `FN.XT_LEN` (R194)
  ⟨0x11C, 1, [fd 31 30 .stg 0, fd 22 0 .stg 0]⟩,
  -- `FN.RET_BASE` (R194)
  ⟨0x120, 1, [fd 19 0 .stg 0]⟩,
  -- `FN.RET_COUNT` (R194)
  ⟨0x124, 1, [fd 20 0 .stg 0]⟩,
  -- `FN.ANTE` (R194)
  ⟨0x128, 1, [fd 18 0 .stg 0]⟩,
  -- `FN.KITTY_CAP` (R194)
  ⟨0x12C, 1, [fd 18 0 .stg 0]⟩,
  -- `FN.TAGS` (R194)
  ⟨0x130, 1, [fd 28 16 .stg 0, fd 12 0 .stg 0]⟩,
  -- `FN.WEIGHT` (R194)
  ⟨0x134, 1, [fd 7 0 .stg 0]⟩,
  -- `FN.LOG_CTRL` (R231)
  ⟨0x140, 1, [fd 31 31 .stg 0]⟩,
  -- `FN.LOG_TRACK_LO` (R231)
  ⟨0x144, 1, [fd 31 21 .stg 0]⟩,
  -- `FN.LOG_TRACK_HI` (R231)
  ⟨0x148, 1, [fd 31 0 .stg 0]⟩,
  -- `FN.LOG_SPAN` (R231)
  ⟨0x14C, 1, [fd 25 0 .stg 0]⟩,
  -- `FN.LOG_BITMAP_LO` (R231)
  ⟨0x150, 1, [fd 31 6 .stg 0]⟩,
  -- `FN.LOG_BITMAP_HI` (R231)
  ⟨0x154, 1, [fd 31 0 .stg 0]⟩,
  -- `FN.LOG_STAT` (R232)
  ⟨0x158, 1, [fd 31 31 .w1c 0, fd 30 30 .w1c 0, fd 29 29 .ro 0, fd 28 28 .ro 0]⟩,
  -- `FN.QCTX_LO` (R278)
  ⟨0x160, 1, [fd 31 12 .stg 0]⟩,
  -- `FN.QCTX_HI` (R278)
  ⟨0x164, 1, [fd 31 0 .stg 0]⟩,
  -- `FN.Q_HALTED[k]` (R309)
  ⟨0x180, 8, [fd 31 0 .ro 0]⟩]

/-- Block registers of the fnPf page group. -/
def fnPfRegs : List Reg := [
  -- `FN.WINDOW` (R194)
  ⟨0x138, 1, [fd 28 24 .stg 0, fd 20 16 .stg 0, fd 12 8 .stg 0, fd 4 0 .stg 0]⟩,
  -- `FN.SUBSYS` (R194)
  ⟨0x13C, 1, [fd 31 16 .stg 0, fd 15 0 .stg 0]⟩,
  -- `FN.SEAT_BANK` (R405)
  ⟨0x1D4, 1, [fd 4 4 .ro 0, fd 3 3 .ro 0, fd 2 2 .ro 0, fd 1 1 .ro 0, fd 0 0 .ro 0]⟩,
  -- `FN.EVT_CLAIM` (R405)
  ⟨0x1D8, 1, [fd 31 31 .cmd 0, fd 11 0 .cmd 0]⟩,
  -- `FN.CRP_SIGNAL` (R485)
  ⟨0x1DC, 1, [fd 31 24 .ro 0, fd 23 20 .ro 0, fd 19 12 .ro 0, fd 11 0 .ro 0]⟩,
  -- `FN.ENT_IND_INDEX` (R221)
  ⟨0x200, 1, [fd 31 31 .rw 0, fd 22 0 .rw 0]⟩,
  -- `FN.ENT_IND_LO` (R221)
  ⟨0x204, 1, [fd 31 0 .rw 0]⟩,
  -- `FN.ENT_IND_HI` (R221)
  ⟨0x208, 1, [fd 31 0 .rw 0]⟩,
  -- `FN.ENT_IND_CMD` (R222)
  ⟨0x20C, 1, [fd 31 28 .ro 0, fd 8 8 .ro 0, fd 1 0 .cmd 0]⟩]

/-- The block registers a page implements (R629 to R631). -/
def pageRegs : PageKind → List Reg
  | .tbl => tblRegs ++ deckRegs
  | .dlr => dlrRegs
  | .tal => talRegs
  | .xlt => xltRegs
  | .dma => dmaRegs
  | .msx => msxRegs
  | .evr => evrRegs
  | .saf => safRegs
  | .tim => timRegs
  | .crp0 => crp0Regs
  | .crpIn => crpInRegs
  | .crpAct => crpActRegs
  | .pwr => pwrRegs
  | .sns => snsRegs
  | .pst => pstRegs
  | .lcs => lcsRegs
  | .hse => hseRegs
  | .seatLink => seatLinkRegs
  | .seatTxn => seatTxnRegs
  | .seatIde => seatIdeRegs
  | .slot => slotRegs
  | .seatLane => seatLaneRegs
  | .nlkLink => nlkLinkRegs
  | .nlkTxn => nlkTxnRegs
  | .nlkLane => nlkLaneRegs
  | .fnPf => fnRegs ++ fnPfRegs ++ deckRegs
  | .fnVf => fnRegs

/-- BLOCK_TYPE of a page (R51). -/
def blockType : PageKind → Nat
  | .tbl => 0x001 | .dlr => 0x002 | .tal => 0x003 | .xlt => 0x004 | .dma => 0x005
  | .seatLink | .seatTxn | .seatIde | .seatLane => 0x006
  | .slot => 0x007
  | .nlkLink | .nlkTxn | .nlkLane => 0x008
  | .fnPf | .fnVf => 0x009
  | .msx => 0x00A | .evr => 0x00B | .saf => 0x00C | .tim => 0x00D
  | .crp0 | .crpIn | .crpAct => 0x00E
  | .pwr => 0x00F | .sns => 0x010 | .pst => 0x011 | .lcs => 0x012 | .hse => 0x013

/-- EVT_BITS of a page (R52, R57; R634, R175, R198, R240, R272, R275, R311, R352, R393, R413, R440, R482, R513, R538, R539, R558). -/
def evtBits : PageKind → Nat
  | .tbl => 9 | .dlr => 9 | .tal => 10 | .xlt => 13 | .dma => 11 | .msx => 9 | .evr => 9 | .saf => 11 | .tim => 13
  | .crp0 => 11 | .crpIn | .crpAct => 8 | .pwr => 13 | .sns => 9 | .pst => 10 | .lcs => 8 | .hse => 12
  | .seatLink => 14 | .seatTxn => 11 | .seatIde => 10 | .slot => 14 | .seatLane | .nlkLane => 8
  | .nlkLink => 14 | .nlkTxn => 15 | .fnPf | .fnVf => 16

/-- ERR_BITS of a page (the same rules). -/
def errBits : PageKind → Nat
  | .tbl => 1 | .dlr => 11 | .tal => 10 | .xlt => 9 | .dma => 9 | .msx => 9 | .evr => 1 | .saf => 13 | .tim => 1
  | .crp0 => 9 | .crpIn | .crpAct => 1 | .pwr => 9 | .sns => 1 | .pst => 9 | .lcs => 1 | .hse => 9
  | .seatLink => 11 | .seatTxn => 11 | .seatIde => 9 | .slot => 1 | .seatLane | .nlkLane => 1
  | .nlkLink => 12 | .nlkTxn => 10 | .fnPf | .fnVf => 11

/-- Block bits of ERR_SEV that are RO and read 1, as bit ranges [hi:lo] (R272, R275, R390, R440, page text of PWR). -/
def sevFixed : PageKind → List (Nat × Nat)
  | .dlr => [(10, 8)]
  | .tal => [(8, 8)]
  | .nlkTxn => [(8, 8)]
  | .saf => [(12, 8)]
  | .pwr => [(8, 8)]
  | _ => []

/-- Block bits of ERR_SEV that are RW and reset to 1 (R275). -/
def sevReset1 : PageKind → List Nat
  | .tal => [9]
  | _ => []

/-- Whether the page defines a mailbox selector (R52, R58). -/
def hasMbox : PageKind → Bool
  | .tbl | .dlr | .tal | .dma | .saf | .tim | .crp0 | .pwr | .sns | .lcs | .seatLink | .seatTxn | .seatIde
  | .seatLane | .nlkLink | .nlkTxn | .nlkLane => true
  | _ => false

/-- Whether the page holds an RV field, so that COPY_SEQ counts in it (R56). -/
def hasRv (k : PageKind) : Bool := (pageRegs k).any (fun r => r.flds.any (fun f => f.acc == .rv))

/-- PAGE_CAP of a page (R52). -/
def pageCap (k : PageKind) : Word :=
  let has (a : Acc) := (pageRegs k).any (fun r => r.flds.any (fun f => f.acc == a))
  let al := (pageRegs k).any (fun r => decide (0x100 ≤ r.off ∧ r.off ≤ 0x13C))
  BitVec.ofNat 32 (errBits k * 65536 + evtBits k * 256 + b2n (has .stg) * 8 + b2n (has .rwl) * 4 + b2n al * 2 + b2n (hasMbox k))

/-- Which page stands at Table offset pg × 0x1000 (R628 to R631). -/
def pageKindOf (pg : Nat) : Option PageKind :=
  if pg < 0x15 then
    match pg with
    | 0x00 => some .tbl | 0x02 => some .dlr | 0x03 => some .tal | 0x04 => some .xlt | 0x05 => some .dma
    | 0x06 => some .msx | 0x07 => some .evr | 0x08 => some .saf | 0x09 => some .tim | 0x0A => some .crp0
    | 0x0B | 0x0C | 0x0D | 0x0E => some .crpIn | 0x0F => some .crpAct
    | 0x10 => some .pwr | 0x11 => some .sns | 0x12 => some .pst | 0x13 => some .lcs | 0x14 => some .hse
    | _ => none
  else if 0x100 ≤ pg ∧ pg < 0x1A0 then
    match decide (pg < 0x160), pg % 16 with
    | true, 0 => some .seatLink | true, 1 => some .seatTxn | true, 2 => some .seatIde | true, 3 => some .slot
    | true, 7 => some .seatLane
    | false, 0 => some .nlkLink | false, 1 => some .nlkTxn | false, 7 => some .nlkLane
    | _, _ => none
  else if 0x1000 ≤ pg ∧ pg < 0x2000 then
    if pg < 0x1006 then some .fnPf else some .fnVf
  else none

/-- PAGE_ID.INSTANCE of a page (R50, R629, R630, R631). -/
def pageInstance (pg : Nat) : Nat :=
  if pg < 0x15 then (if 0x0A ≤ pg ∧ pg ≤ 0x0F then pg - 0x0A else 0)
  else if pg < 0x1000 then (pg - 0x100) / 16
  else pg - 0x1000

/-- The block event bits of a page, with access code `a`: those of the PF alone read 0 in a VF page (R198). -/
def evtFlds (k : PageKind) (a : Acc) : List Fld :=
  match k with
  | .fnVf => [fd 13 9 a 0]
  | k => if 8 < evtBits k then [fd (evtBits k - 1) 8 a 0] else []

/-- The header registers 0x000 to 0x044 every page has (R47, R50 to R59). -/
def headerFlds (k : PageKind) (o : Nat) : Option (List Fld) :=
  let r := errBits k
  match o with
  | 0x000 => some [fd 31 20 .ro (blockType k), fd 19 8 .ro 0, fd 7 0 .ro 1]
  | 0x004 => some [fd 31 0 .ro (pageCap k).toNat]
  | 0x008 => some [fd 0 0 .w1s 0]
  | 0x00C => some [fd 31 16 .ro 0, fd 8 8 .ro 0, fd 1 1 .ro 0, fd 0 0 .ro 0]
  | 0x010 => some (evtFlds k .w1c ++ [fd 1 1 .w1c 0, fd 0 0 .w1c 0])
  | 0x014 => some (evtFlds k .rw ++ [fd 7 0 .rw 0])
  | 0x018 => some (evtFlds k .wo ++ [fd 7 0 .wo 0])
  | 0x01C => some ((if 8 < r then [fd (r - 1) 8 .w1c 0] else []) ++ [fd 0 0 .w1c 0])
  | 0x020 => some ((if 1 < r then [fd (r - 1) 1 .rw 0] else []) ++ [fd 0 0 .ro 1])
  | 0x024 =>
    let fixed (i : Nat) : Bool := (sevFixed k).any (fun p => decide (p.2 ≤ i ∧ i ≤ p.1))
    some (((numsFrom 1 (r - 1)).map (fun i =>
      if fixed i then fd i i .ro 1 else fd i i .rw (b2n ((sevReset1 k).contains i)))) ++ [fd 0 0 .ro 1])
  | 0x028 => some [fd 15 0 .rw 0]
  | 0x02C => some [fd 15 8 .ro 0, fd 7 4 .ro 0, fd 2 2 .ro 0, fd 1 1 .ro 0, fd 0 0 .cmd 0]
  | 0x030 | 0x034 | 0x038 | 0x03C => some [fd 31 0 .ro 0]
  | 0x040 => some [fd 31 28 .ro 0, fd 27 24 .ro 0, fd 23 23 .ro 0, fd 22 22 .ro 0, fd 11 0 .ro 0]
  | 0x044 => some [fd 12 12 .ro 0, fd 11 0 .ro 0]
  | _ => none

/-- The fields of the register at page offset `o` (a multiple of 4); none where the page implements nothing there. -/
def pageFlds (k : PageKind) (o : Nat) : Option (List Fld) :=
  if o < 0x100 then headerFlds k o
  else if o < 0x800 then
    ((pageRegs k).find? (fun r => decide (r.off ≤ o ∧ o < r.off + 4 * r.cnt))).map (fun r => r.flds)
  else none

/-- The fields of the register at Table offset `off` (a multiple of 4). -/
def regFlds (off : Nat) : Option (List Fld) :=
  match pageKindOf (off / 0x1000) with
  | some k => pageFlds k (off % 0x1000)
  | none => none

/-- The word the fields' reset values spell (R10). -/
def fldsReset (fs : List Fld) : Word := fs.foldl (fun w f => setBits w f.hi f.lo f.rst) 0

/-- Bits of a register whose fields carry one of the given access codes. -/
def accMask (fs : List Fld) (as : List Acc) : Word :=
  fs.foldl (fun w f => if as.contains f.acc then w ||| maskOf f.hi f.lo else w) 0

/-- Reset MODE of sensor channel c in `SNS.CH_CFG` (R504): filled from R504's table. -/
def snsModeReset (c : Nat) : Nat := if c = 10 ∨ c = 12 then 2 else 0

/-- The value of the register at Table offset `off` right after a cold reset or RESET_N (R10); PAGE_ID's INSTANCE is the page's own (R50). -/
def regReset (off : Nat) : Word :=
  match regFlds off with
  | some fs =>
    if 0x11100 ≤ off ∧ off < 0x11140 then setBits (fldsReset fs) 31 30 (snsModeReset ((off - 0x11100) / 4))
    else if off % 0x1000 = 0 then setBits (fldsReset fs) 19 8 (pageInstance (off / 0x1000))
    else fldsReset fs
  | none => 0

/-- Mask of the STG bits of the register at Table offset `off` (R80). -/
def stgMask (off : Nat) : Word :=
  match regFlds off with
  | some fs => accMask fs [.stg]
  | none => 0

end Sys2Proof.Machine
end

