-- ==== Sys2Proof/Machine/Types.lean ====
section
/-! DEFINITION. The plain data the state is built of: requesters, decks, mailboxes. -/

namespace Sys2Proof.Machine

/-- State of one deck session beside its registers (R84 to R91, R97, R100, R101). The report, state, owner code and
token stand in the deck's own registers DECK_STAT, DECK_MISDEAL, DECK_MISDEAL_AT and DECK_GEN. -/
structure Deck where
  /-- staged registers: Table offset of the register and its whole shadow value (R75) -/
  shadow  : Tab Word
  /-- the function whose BAR0 carried OPEN, for a host owner (R86) -/
  ownerFn : Nat
  /-- the reference that COMMIT_CRC latched (R100) -/
  ref     : Word
  /-- the identifier that COMMIT_CRC latched (R100) -/
  ident   : Word
  /-- the hand the deck is armed for (R101) -/
  target  : Nat
  /-- a staged write arrived while CHECK or COMMIT_CRC ran (R97) -/
  touched : Bool
  /-- what CHECK found at the boundary that ends its trick: (count, rule, code, offset); none while not judged (R97, R98) -/
  verdict : Option (Nat × Nat × Nat × Nat)
  /-- GEN at that boundary (R97) -/
  seenGen : Nat
  deriving DecidableEq, Repr

/-- A deck with nothing staged. -/
def Deck.idle : Deck :=
  { shadow := [], ownerFn := 0, ref := 0, ident := 0, target := 0, touched := false, verdict := none, seenGen := 0 }

/-- Mailbox of a page beside its registers (R58, R68 to R70). -/
structure Mbox where
  /-- the captured words, not yet shown in MBOX_DATA0 to 3 -/
  data    : List Word
  /-- the selector whose value is captured at the end of this trick (R177, R277, R395) -/
  due     : Option Nat
  /-- the selector named no wide value -/
  bad     : Bool
  /-- the requester that took the last snapshot has read VALID at 1 -/
  seen    : Bool
  deriving DecidableEq, Repr

/-- A mailbox never used. -/
def Mbox.idle : Mbox := { data := [], due := none, bad := false, seen := true }

/-! ## Traffic: what crosses the pins -/

/-- Kinds of PCI Express packets the device sends on a seat, as far as the manual names them. -/
inductive TlpKind | memRd | memWr | cpl | msg
  deriving DecidableEq, Repr

/-- A packet the device sends on a seat: the function whose Requester or Completer ID it carries, the address, the byte
count, the wire tag, the completion status (0 SC, 1 UR, 2 RRS, 4 CA; a message's code in a message), the EP bit, the
attributes (bit 0 RO, bit 1 IDO, bit 2 No Snoop) and the data. -/
structure Tlp where
  kind   : TlpKind
  fn     : Nat
  addr   : Nat
  len    : Nat
  tag    : Nat
  status : Nat
  poison : Bool
  attr   : Nat
  data   : List Byte
  /-- it carries an ECRC (R167) -/
  ecrc   : Bool := false
  deriving DecidableEq, Repr

/-- A Nicen transaction: the header fields of R357 and the payload bytes (R355, R356). -/
structure Txn where
  type   : Nat
  cls    : Nat
  poison : Bool
  attr   : Nat
  status : Nat
  seat   : Nat
  fn     : Nat
  tag    : Nat
  len    : Nat
  last   : Nat
  /-- bit [73], POSTED in a CPL (R367) -/
  posted : Bool
  /-- bits [71:48]: ENDPOINT, RETURN_INDEX × 16, or REASON × 2^20 -/
  ep     : Nat
  off    : Nat
  data   : List Byte
  deriving DecidableEq, Repr

/-- AER errors the device reports (R434). -/
inductive AerErr
  | receiver | badTlp | badDllp | replayRollover | replayTimeout | advisory
  | dataLink | flowControl | overflow | malformed | ecrc | poisoned | unsupported | completerAbort | cplTimeout
  | unexpectedCpl | internal | ideCheck | ideMisrouted | idePcrc
  deriving DecidableEq, Repr

/-- Something that leaves the device: what an observer at its pins, or the requester of an access, sees. -/
inductive Emit
  /-- a packet on seat n -/
  | tlp (seat : Nat) (t : Tlp)
  /-- a transaction takes its place in the stream of Nicen Link k -/
  | nicen (link : Nat) (x : Txn)
  /-- a control block on lanes of Nicen Link k: its payload bytes (R322) -/
  | row (link : Nat) (lanes : List Nat) (block : List Byte)
  /-- a frame on Nicen Link k: its 264 bytes (R332) -/
  | frame (link : Nat) (bytes : List Byte)
  /-- the quick burst on lanes of Nicen Link k: its bits in order (R341) -/
  | burst (link : Nat) (lanes : List Nat) (bits : List Bool)
  /-- the answer to an access of MGMT (6), House firmware (7) or the safety monitor (8): error flag, poison flag, data -/
  | answer (code : Nat) (err poison : Bool) (data : List Byte)
  /-- the answer to a configuration request on a seat: status as in a completion, data -/
  | config (seat status : Nat) (data : Word)
  /-- the message with which a function signals an AER error: 0 ERR_COR, 1 ERR_NONFATAL, 2 ERR_FATAL (R433) -/
  | aer (fn : Nat) (what : AerErr) (level : Nat)
  /-- a link-level signal of seat n: its name and value -/
  | seatSig (seat : Nat) (what : String) (v : Nat)
  /-- an edge on a package pin: its name and level -/
  | pin (name : String) (v : Nat)
  /-- a message to MGMT or to a DOE requester: its name and words -/
  | mgmt (what : String) (args : List Nat)
  deriving DecidableEq, Repr

/-- Why a request is outstanding: what its completion ends (R364, R368, R290, R284, R292, R235). -/
inductive Why
  /-- a host's read or AtomicOp to the window: seat, requester ID, host tag (R32, R192) -/
  | window (seat rid tag : Nat)
  /-- data of a started descriptor: queue pair, SQ index, place in the descriptor's data (R292) -/
  | dma (pair idx ofs : Nat)
  /-- a descriptor fetch: queue pair, first SQ index, count (R290) -/
  | fetch (pair idx cnt : Nat)
  /-- the configuration entry of a queue (R284) -/
  | ctx (pair : Nat)
  /-- an HRD of the fabric: link, tag, class (R368) -/
  | hrd (link tag cls : Nat)
  /-- a dirty-log merge read: function, bitmap line, number of the line's flush (R235, R237) -/
  | logRead (fn line ser : Nat)
  deriving DecidableEq, Repr

/-- One tag in use on a seat or a Nicen Link (R158, R164, R380, R382). -/
structure TagEnt where
  fn    : Nat
  why   : Why
  /-- first byte's address or offset -/
  addr  : Nat
  /-- bytes asked for -/
  len   : Nat
  /-- bytes received -/
  got   : List Byte
  /-- a part arrived poisoned -/
  ep    : Bool
  /-- cards reserved for the completion (R153, R361), and how many of them are kitty cards -/
  cards : Nat
  kit   : Nat := 0
  /-- tag on the wire (R160); the class on a link -/
  wire  : Nat
  cls   : Nat
  /-- reported, and waiting in quarantine (R164, R382) -/
  quar  : Bool
  /-- the BURN or FOLD exchange that burned it, plus 1; 0 for none (R387, R388) -/
  burn  : Nat
  deriving DecidableEq, Repr

/-- A request about to be issued. -/
def TagEnt.ask (fn : Nat) (why : Why) (addr len cards cls : Nat) : TagEnt :=
  { fn := fn, why := why, addr := addr, len := len, got := [], ep := false, cards := cards, wire := 0, cls := cls, quar := false, burn := 0 }

/-- Where a transaction's held cards are charged (R256). -/
inductive Acct
  | fn (f : Nat)
  | landing (p : Nat)
  /-- not charged yet: the source waits with it (R259) -/
  | owed
  deriving DecidableEq, Repr

/-- What the sending of a transaction's last card ends. -/
inductive After
  | none
  /-- `bytes` at place `ofs` of the started descriptor with that SQ index (R293) -/
  | part (pair idx ofs bytes : Nat) (poison : Bool)
  /-- the completion record of the descriptor with that SQ index: its bytes are read when it is dealt (R294) -/
  | record (pair idx : Nat)
  /-- the message of a pool entry: its words are read when it is dealt (R400) -/
  | msi (entry : Nat)
  /-- a HINT: vector `vec` of the transaction's function fires; its link, class, TAG (R370) -/
  | hint (vec link cls tag : Nat)
  /-- a bitmap line, which is never dirty-logged: function, line, number of its flush (R234, R235) -/
  | bitmap (fn line ser : Nat)
  /-- the last write of an HWR, before which the others leave: link, class, TAG (R368) -/
  | hwr (link cls tag : Nat)
  deriving DecidableEq, Repr

/-- Kinds of fabric access, for the permission check (R214). -/
inductive Perm | read | write | atom
  deriving DecidableEq, Repr

/-- What a received request looks up at the next trick boundary (R24, R216). -/
inductive Look
  /-- a host's window request: its offset in the window, and its kind of access (R32, R214) -/
  | window (off : Nat) (p : Perm)
  /-- an HWR or HRD of Nicen Link k (R226) -/
  | fabric (k : Nat) (x : TxnIn)
  deriving DecidableEq, Repr

/-- A transaction in the device that waits for the Dealer or is being dealt (R243, R247, R254). -/
structure Xact where
  /-- ingress port 0 to 9; 15 for a DMA or MSI-X source -/
  src   : Nat
  /-- egress port 0 to 9 -/
  dst   : Nat
  /-- its function (R243) -/
  fn    : Nat
  /-- its class: 0 trump, 1 Bulk, 2 Request, 3 Completion (R250) -/
  cls   : Nat
  /-- its cards, and how many of them have been dealt (R243, R254) -/
  cards : Nat
  dealt : Nat
  /-- trick boundaries until its translation is complete (R24) -/
  wait  : Nat
  /-- presented as trump and not yet judged (R251) -/
  trump : Bool
  /-- a completion that answers a trump request (R252) -/
  isCpl : Bool
  /-- arrival number (R224, R247) -/
  stamp : Nat
  /-- posted: demotes to Bulk (R251) -/
  posted : Bool
  /-- the account that its cards are charged to (R256) -/
  acct  : Acct
  /-- landing credits it occupies: class (seat: 0 posted, 1 non-posted; link: class code) and data units; none once freed -/
  land  : Option (Nat × Nat)
  /-- what it sends -/
  what  : Emit
  /-- the tag and the completion cards it must take before it can be dealt (R153, R159, R361, R380) -/
  ask   : Option TagEnt
  /-- what the sending of its last card ends -/
  after : After
  /-- one of its cards holds an uncorrectable word (R246, R274) -/
  bad   : Bool := false
  /-- kitty cards among those it still holds; the others are ante cards (R256, R258) -/
  kit   : Nat := 0
  /-- 1 + hand boundaries for which it has waited for a tag; 0 while it does not wait (R159, R380) -/
  tagW  : Nat := 0
  /-- it was checked against an XT or return entry (R224) -/
  chk   : Bool := false
  /-- it may leave from its port's landing reserve: the answer that the card of a refused request carries -/
  bare  : Bool := false
  /-- the look-up that it waits to start at the next boundary; where it goes is known only then (R216) -/
  look  : Option Look := none
  /-- the first piece of a transaction whose cards are charged together (R259): all of its cards; 0 else -/
  need  : Nat := 0
  deriving DecidableEq, Repr

/-- The queue pair, SQ index and place in the data that a request's purpose names, for a DMA request. -/
def Why.ofRun (w : Why) : Option (Nat × Nat × Nat) :=
  match w with
  | .dma k i o => some (k, i, o)
  | _ => none

/-- The queue pair, SQ index and place in the data of a started descriptor's transaction. -/
def Xact.run (x : Xact) : Option (Nat × Nat × Nat) :=
  match x.after with
  | .part k i o _ _ => some (k, i, o)
  | _ => x.ask.bind (fun e => e.why.ofRun)

/-- The transaction is a part of the started descriptor with SQ index `i` of queue pair `k`, at place `o` or later. -/
def Xact.ofRun (x : Xact) (k i o : Nat) : Bool :=
  match x.run with
  | some (k', i', o') => k' == k && i' == i && decide (o ≤ o')
  | none => false

/-- The Talon's books (R256 to R262, R274). -/
structure Talon where
  free    : Nat
  flight  : Nat
  /-- cards held by each function, and how many of them are charged to its kitty share; the others are charged to its ante
  (R256, R258) -/
  held    : Tab Nat
  kitty   : Tab Nat
  /-- cards in each port's landing reserve -/
  landing : Tab Nat
  /-- cards reserved for read completions, part of `held` (R153) -/
  resv    : Tab Nat
  /-- hand boundaries a function has waited through for cards (R259) -/
  waitFn  : Tab Nat
  /-- hands in which a function waited a whole hand (R277) -/
  waited  : Tab Nat
  /-- holdings above a limit that a cut lowered: account number to the holding it may keep (R262) -/
  allow   : Tab Nat
  /-- a phantom free card is counted in every closed trick of this hand (R274); it starts with the next one -/
  phantom : Bool
  bookArm : Bool
  /-- the next card written is corrupted (R274) -/
  eccArm  : Bool
  deriving DecidableEq, Repr

/-- The Dealer's own state (R251 to R254, R271, R277). -/
structure Dealer where
  /-- ring pointer per egress × 4 + class -/
  ptr      : Tab Nat
  /-- deficit per (egress × 4 + class) × 4096 + function -/
  deficit  : Tab Nat
  /-- class rotation start per egress: 1 Request, 2 Completion, 3 Bulk, less 1 -/
  rot      : Tab Nat
  /-- trump cards admitted per ingress port in this hand -/
  admitted : Tab Nat
  /-- demotions per ingress port in this hand -/
  demoted  : Tab Nat
  /-- cards dealt per egress × 4 + class since reset -/
  dealtCnt : Tab Nat
  /-- ports whose next card's seal is corrupted (R271) -/
  sealArm  : List Nat
  /-- a compare mismatch is forced at the next trick (R271) -/
  lockArm  : Bool
  /-- tiles whose port slice overruns at the next trick (R271) -/
  overArm  : List Nat
  /-- next arrival number -/
  stamp    : Nat
  deriving DecidableEq, Repr

/-- A descriptor as fetched: its SQ index and its 64 bytes (R286). -/
structure Desc where
  idx : Nat
  raw : List Byte
  deriving DecidableEq, Repr

/-- A descriptor that has started and is not reported (R291 to R294). -/
structure Run where
  desc   : Desc
  /-- table time at which it started -/
  start  : Nat
  /-- bytes whose requests have been issued -/
  issued : Nat
  /-- bytes delivered at the destination (R299) -/
  moved  : Nat
  /-- status and reason; 0 while nothing went wrong -/
  status : Nat
  reason : Nat
  /-- its transactions in a Nicen Link's stream that no acknowledged frame covers: link, unit number of the end, place in the data,
  bytes (R293) -/
  frames : List (Nat × Nat × Nat × Nat) := []
  /-- an error ended it: nothing at this place in the data or later moves (R215, R299) -/
  stop   : Option Nat := none
  /-- the first boundary at which the last thing that happened to it is accounted for (R293) -/
  last   : Nat := 0
  /-- the number of the dirty cache's next line when it started: a LOG_BARRIER waits for the lines below it (R238) -/
  mark   : Nat := 0
  /-- it has completed, at this table time (R293, R297) -/
  done   : Option Nat
  deriving DecidableEq, Repr

/-- A descriptor that is reported without having started: its SQ index, status, the boundary at which it completed, its COOKIE
(R284 ABORT, R290). -/
structure Burnt where
  idx    : Nat
  status : Nat
  time   : Nat
  cookie : Nat
  deriving DecidableEq, Repr

/-- A DMA queue pair (R279 to R308). -/
structure Queue where
  fn       : Nat
  q        : Nat
  /-- 0 DISABLED, 1 ENABLING, 2 ACTIVE, 3 DRAINING, 4 HALTED (R283) -/
  st       : Nat
  /-- the configuration entry loaded at the last ENABLE: 64 bytes (R279) -/
  entry    : List Byte
  /-- SQ tail, SQ head, CQ head and the CQ index written next, the phase, LAST_ERR (R279, R282, R294) -/
  tail     : Nat
  sqHead   : Nat
  cqHead   : Nat
  cqW      : Nat
  phase    : Bool
  lastErr  : Nat
  /-- command in progress (R280) -/
  op       : Nat
  /-- words written in this trick, to be sampled at its end (R281) -/
  pTail    : Option Nat
  pHead    : Option Nat
  pCmd     : Option Nat
  /-- descriptors fetched and not started, oldest first (R290) -/
  fetched  : List Desc
  /-- descriptors asked for and not yet arrived -/
  fetching : Nat
  /-- a fetch that ended: first SQ index, and the bytes; none where it failed (R290) -/
  arrived  : Option (Nat × Option (List Byte))
  /-- the configuration entry that was read; none inside where the read failed (R284) -/
  loaded   : Option (Option (List Byte))
  /-- descriptors started and not reported, oldest first (R291, R294) -/
  running  : List Run
  /-- descriptors never started that are reported in ring order as burned (R284 ABORT) -/
  burnt    : List Burnt
  /-- the descriptor whose fetch ended badly: it is reported once every earlier one is (R290) -/
  badFetch : Option Burnt
  /-- errors in the context's stored words: 0 none, 1 one bit, 2 two bits (R305, R439) -/
  ecc      : Nat
  /-- an error was reported since the last FENCE or ENABLE (R295) -/
  erred    : Bool
  /-- records since the last interrupt; hands since the first of them (R300) -/
  coal     : Nat
  coalHand : Option Nat
  /-- the engine cell that serves it (R308) -/
  cell     : Nat
  /-- descriptors reported and bytes moved since the last ENABLE (R313) -/
  reported : Nat
  bytes    : Nat
  /-- cards started in this hand (R308) -/
  handCards : Nat
  deriving DecidableEq, Repr

/-- A queue pair that has never been enabled. -/
def Queue.idle : Queue :=
  { fn := 0, q := 0, st := 0, entry := [], tail := 0, sqHead := 0, cqHead := 0, cqW := 0, phase := true, lastErr := 0, op := 0,
    pTail := none, pHead := none, pCmd := none, fetched := [], fetching := 0, arrived := none, loaded := none, running := [], burnt := [],
    badFetch := none, ecc := 0, erred := false,
    coal := 0, coalHand := none, cell := 0, reported := 0, bytes := 0, handCards := 0 }

/-- One IDE stream of a seat (R168 to R170, R536): keys K0 and K1 per sub-stream and direction, which set is in use. -/
structure IdeStream where
  secure : Bool
  /-- key set in use, per sub-stream × 2 + direction -/
  active : Tab Nat
  /-- keys held, by key set × 8 + sub-stream × 2 + direction; those of them that a failed check has spent (R170) -/
  keys   : Tab Nat
  stale  : List Nat
  deriving DecidableEq, Repr

/-- A stream with no keys. -/
def IdeStream.none_ : IdeStream := { secure := false, active := [], keys := [], stale := [] }

/-- A DOE mailbox beside its registers (R184, R535): the dwords written of a data object, those of the response still to be read, the type of
the request that firmware works on, Error, Interrupt Status. -/
structure Doe where
  inp  : List Word
  out  : List Word
  busy : Option Nat
  err  : Bool
  irq  : Bool
  deriving DecidableEq, Repr

/-- A DOE mailbox with nothing in it. -/
def Doe.idle : Doe := { inp := [], out := [], busy := none, err := false, irq := false }

/-- A seat's link and transaction layers beside its registers (R138 to R170). -/
structure Seat where
  /-- bus number captured from the last Type 0 configuration write to the PF (R179) -/
  bus     : Nat
  /-- PF n holds the 128 MiB BAR0 (R188) -/
  bigBar  : Bool
  /-- SEAT.LINK_CFG and SEAT.FC_CFG as latched at the last training (R172, R173) -/
  cfg     : Word
  fc      : Word
  /-- credits advertised in total since DL_Active, per class PH, PD, NPH, NPD: those still owed (O) and freed (P) (R154) -/
  credO   : List Nat
  credP   : List Nat
  /-- credits the host grants for PH, PD, NPH, NPD, CplH, CplD; none: infinite -/
  grant   : List (Option Nat)
  /-- the tag pool (R158) -/
  tags    : Tab TagEnt
  /-- last generation issued per pool index (R160) -/
  gen     : Tab Nat
  /-- wire tags freed per function, least recently freed first (R160) -/
  freed   : Tab (List Nat)
  /-- some request waited for a tag in this hand (R176) -/
  tagHand : Bool
  /-- FLITs or TLPs sent and not acknowledged: sequence number, table time each left at, bytes of replay buffer; next sequence
  number (R156) -/
  unacked : List (Nat × Nat × Nat)
  seq     : Nat
  /-- replays in a row without progress (R434) -/
  replays : Nat
  /-- round trip of this hand and of the last complete hand: minimum, maximum, replays (R157, R177) -/
  rttNow  : Nat × Nat × Nat
  rttLast : Nat × Nat × Nat
  rttHand : Nat
  /-- egress cards dealt in this hand, for the L0p measure (R148) -/
  demand  : Nat
  /-- its IDE streams (R168) -/
  ide     : Tab IdeStream
  /-- SPDM sessions of PF n that are open (R535) -/
  sessions : List Nat
  /-- PF n's DOE mailbox (R184, R535) -/
  doe      : Doe
  /-- last LTR latency sent (R496) -/
  ltr     : Option Nat
  /-- PTM: dialogs outstanding, last result words, hand of the last result (R451 to R453) -/
  ptmOpen : Bool
  ptm     : List Word
  ptmHand : Nat
  ptmOk   : Bool
  /-- table time at which the open dialog started, in 15.625 ps units -/
  ptmT1   : Nat
  deriving DecidableEq, Repr

/-- What a lane cell keeps beside its registers (R113 to R117, R130, R133, R134, R137, R143). -/
structure Lane where
  /-- LANE_CFG as latched when the port began training: POL and TXEQ_START (R117) -/
  cfg     : Word
  /-- the coefficients of its last ACTIVE, pre, main, post; none before the first (R113) -/
  lastEq  : Option (Nat × Nat × Nat)
  /-- LANE_TXEQ of the settings reached at each rate code since Detect (R143) -/
  byRate  : Tab Word
  /-- CTLE code; the 12 FFE taps, the DFE tap, the lower, middle and upper threshold, as bytes (R114) -/
  ctle    : Nat
  ffe     : List Nat
  dfe     : Nat
  thr     : List Nat
  /-- table time at which it last gained LOCK (R137) -/
  gained  : Nat
  /-- number of the eye values of the last complete hand, through which it was locked; none where it was not (R137) -/
  eye     : Option Nat
  /-- Nicen: block lock; slip position (R321) -/
  block   : Bool
  slip    : Nat
  /-- the ROM baseline has swept it in this training (R134) -/
  swept   : Bool
  /-- margining: error count limit; the step under way, its type and payload (R130, R131) -/
  limit   : Nat
  margin  : Option (Nat × Nat)
  deriving DecidableEq, Repr

/-- FFE taps with nothing but the main tap, which is +64 (R114, R134). -/
def mainTap : List Nat := [0, 0, 0, 64, 0, 0, 0, 0, 0, 0, 0, 0]

/-- A lane that has never trained. The limit of margining is 4 until a command sets it: PRESUMED, the PCI Express specification. -/
def Lane.idle : Lane :=
  { cfg := 0, lastEq := none, byRate := [], ctle := 0, ffe := mainTap, dfe := 0, thr := [0, 0, 0], gained := 0, eye := none, block := false, slip := 0,
    swept := false, limit := 4, margin := none }

/-- A seat whose link has never trained. -/
def Seat.down : Seat :=
  { bus := 0, bigBar := false, cfg := 0, fc := 0, credO := [0, 0, 0, 0], credP := [0, 0, 0, 0],
    grant := [some 0, some 0, some 0, some 0, some 0, some 0], tags := [], gen := [], freed := [], tagHand := false, unacked := [],
    seq := 0, replays := 0, rttNow := (0, 0, 0), rttLast := (0, 0, 0), rttHand := 0, demand := 0, ide := [], sessions := [], doe := Doe.idle, ltr := none, ptmOpen := false,
    ptm := [0, 0, 0, 0], ptmHand := 0, ptmOk := false, ptmT1 := 0 }

/-- A BURN or FOLD exchange under way on a Nicen Link (R387, R388). -/
structure Exch where
  /-- a FOLD exchange; else a BURN -/
  isFold : Bool
  /-- its BURN_ID or FOLD_ID; the seat and the function that it names (R387, R388) -/
  ident  : Nat
  seat   : Nat
  fn     : Nat
  deriving DecidableEq, Repr

/-- An HRD of the partner that is not answered yet (R368). -/
structure Hrd where
  tag    : Nat
  fn     : Nat
  cls    : Nat
  /-- host reads it was split into that have not ended -/
  left   : Nat
  /-- offset and data of those that have -/
  data   : List (Nat × List Byte)
  /-- cards that hold it, and how many of them are kitty cards -/
  cards  : Nat
  kit    : Nat
  poison : Bool
  deriving DecidableEq, Repr

/-- A Nicen Link's transaction layer beside its registers (R355 to R391). -/
structure LinkTx where
  tags    : Tab TagEnt
  /-- posted requests sent, for their TAG (R362) -/
  posted  : Nat
  /-- limits advertised at INIT per class × 2 (headers) and × 2 + 1 (cards); 0 infinite (R375) -/
  lim     : List Nat
  /-- received, still in the landing reserve, freed and not yet returned, per the same index (R378) -/
  rcvd    : List Nat
  held    : List Nat
  freed   : List Nat
  /-- the partner's limits, credits consumed and credits returned, per the same index (R376, R395) -/
  pLim    : List Nat
  pUsed   : List Nat
  pRet    : List Nat
  /-- the partner's INIT has been taken (R375) -/
  initRx  : Bool
  /-- HRDs of the partner that are outstanding (R369) -/
  hrds    : List Hrd
  /-- BURN and FOLD exchanges under way, and the next identifier (R387, R388) -/
  exchs   : List Exch
  nextId  : Nat
  /-- the partner's last SHED report: 32 counts (R395) -/
  shedRpt : List Nat
  /-- a CREDIT has been sent in this hand (R377) -/
  creditSent : Bool
  deriving DecidableEq, Repr

/-- Eight zeros, one per class and kind of credit. -/
def zeros8 : List Nat := [0, 0, 0, 0, 0, 0, 0, 0]

/-- A link that has never been up. -/
def LinkTx.down : LinkTx :=
  { tags := [], posted := 0, lim := zeros8, rcvd := zeros8, held := zeros8, freed := zeros8, pLim := zeros8,
    pUsed := zeros8, pRet := zeros8, initRx := false, hrds := [], exchs := [], nextId := 0, shedRpt := [], creditSent := false }

/-- One line of the dirty cache (R233 to R235): its number, 512 bits, the ends of hands since the first of them was set, the bitmap
line's host address. -/
structure DirtyLine where
  /-- function, line of its bitmap, and the number of this line in the cache (R233, R239) -/
  fn      : Nat
  line    : Nat
  ser     : Nat
  /-- the 512 bits (R233) -/
  dirty   : Nat
  /-- ends of hands since the first of them was set (R235) -/
  age     : Nat
  /-- host address of the bitmap line (R233) -/
  addr    : Nat
  /-- queued for flush; its merge read is under way; its write waits for the Dealer; the line as read, none inside where the
  read failed -/
  queued  : Bool
  reading : Bool
  writing : Bool
  data    : Option (Option (List Byte))
  deriving DecidableEq, Repr

/-- Translation: the two tables, their ECC state, the per-requester halves, SYNC, the scrubber, the dirty cache. -/
structure Xlt where
  /-- committed XT and return entries that are not 0 (R212, R225, R230) -/
  xt      : Tab Dword
  ret     : Tab Dword
  /-- error pattern of check bits 0 and 1 per entry, table × 2^23 + index (R228, R241) -/
  ecc     : Tab Nat
  /-- entries committed in this trick, with the value and error pattern that lookups use until the boundary (R27, R216, R219) -/
  pend    : Tab (Dword × Nat)
  /-- low word held, and high word captured, per requester code: entry key and word (R219) -/
  heldLow : Tab (Nat × Word)
  capHigh : Tab (Nat × Word)
  /-- SYNC per seat: none before its boundary, then the arrival numbers of the transactions it waits for (R224) -/
  sync    : Tab (Option (List Nat))
  /-- trick of the scrub pass; none before the first pass (R41, R229) -/
  scrub   : Option Nat
  /-- entries to corrupt at the next boundary: key and flips (R241) -/
  inject  : List (Nat × Nat)
  /-- the dirty cache, oldest line first, and the number that its next line gets (R233, R239) -/
  lines   : List DirtyLine
  lineSer : Nat
  /-- early evictions of this hand (R239) -/
  evicts  : Nat
  deriving DecidableEq, Repr

/-- A record waiting for the fault ring: kind, table time, hand counter, body words (R526). -/
structure Rec where
  kind : Nat
  time : Nat
  hand : Nat
  len  : Nat
  body : List Word
  deriving DecidableEq, Repr

/-- A function slot beside its registers (R178 to R206). -/
structure Fn where
  /-- configuration-space words that differ from their reset value, by dword number -/
  cfg     : Tab Word
  /-- in force since the last trick boundary: M_f (R199), memory space (R202), D3hot, and, for a PF, how many VFs VF Enable
  enables (R181) and VF MSE -/
  master  : Bool
  memory  : Bool
  d3      : Bool
  vfs     : Nat
  vfMem   : Bool
  /-- a VF that VF Enable enabled is ready (R181) -/
  ready   : Bool
  /-- Initiate FLR was set, or VF Enable cleared, and acts at the next boundary (R203) -/
  flrReq  : Bool
  vfClear : Bool
  /-- an FLR is in progress; it was started by clearing VF Enable (R204) -/
  flr     : Bool
  flrVfe  : Bool
  /-- MSI-X Enable and Function Mask in force (R398) -/
  msixOn  : Bool
  msixMsk : Bool
  /-- descriptors burned by the last FLR (R197) -/
  burned  : Nat
  /-- the number of the open value that its AER Header Log holds, plus 1; 0 while it holds none (R433) -/
  header  : Nat
  /-- benched; a bench recorded during an FLR (R207) -/
  bench   : Bool
  benchPend : Bool
  deriving DecidableEq, Repr

/-- A function slot after reset. -/
def Fn.idle : Fn :=
  { cfg := [], master := false, memory := false, d3 := false, vfs := 0, vfMem := false, ready := false, flrReq := false, vfClear := false, flr := false, flrVfe := false, msixOn := false, msixMsk := false, burned := 0, header := 0, bench := false, benchPend := false }

/-- A shed or restore exchange under way on a Nicen Link (R345 to R347). -/
structure ShedEx where
  /-- this device asked; else the partner did -/
  mine    : Bool
  /-- a restore; else a shed (R345) -/
  restore : Bool
  /-- the lane that it sheds or restores -/
  lane    : Nat
  /-- the standby lane that becomes active, or returns to standby; 0xFF for none -/
  spare   : Nat
  /-- its identifier (R346) -/
  ident   : Nat
  /-- hand of the request, N or M; the requester's hand number N + 2 (R344) -/
  hand    : Nat
  target  : Nat
  /-- its ACK was received or sent (R346) -/
  acked   : Bool
  /-- READY was received (R347) -/
  ready   : Bool
  /-- software asked for it through NLK.SHED_CMD -/
  soft    : Bool
  deriving DecidableEq, Repr

/-- A frame in the replay buffer (R336): its SEQ, when it last left, the number of stream units placed up to its end since LINKUP, its
stream bytes. -/
structure SentFrame where
  seq  : Nat
  time : Nat
  last : Nat
  data : List Byte
  deriving DecidableEq, Repr

/-- A Nicen Link's physical and link layers beside its registers (R314 to R354). -/
structure LinkPhy where
  /-- configuration latched at PROBE: LINK_CFG, SPARE_CFG, SLIP_CFG (R350) -/
  cfg     : Word
  spare   : Word
  slip    : Word
  /-- the partner's LANE number, the good TS blocks and those of them with ACK in a row, per lane (R325, R326) -/
  tsLane  : Tab Nat
  tsGood  : Tab Nat
  tsAck   : Tab Nat
  /-- the partner's MAX_RATE and LIMP (R325) -/
  pRate   : Nat
  pLimp   : Bool
  /-- EQ blocks with DONE in a row, and the last REQ_ID answered, per lane (R328) -/
  eqDone  : Tab Nat
  eqId    : Tab Nat
  /-- lanes on which EQ blocks arrived in ACTIVE (R349) -/
  eqAct   : List Nat
  /-- AM rows with ALIGNED in a row; lanes beyond the skew tolerance; the partner's RX_OK (R329, R330) -/
  amCnt   : Nat
  skewed  : List Nat
  peerOk  : Nat
  /-- AM rows sent since the link last entered ALIGN (R329) -/
  amSent  : Nat
  /-- stream bytes that no frame carries yet; units placed in the stream, and units framed, since LINKUP (R332, R355) -/
  stream  : List Byte
  placed  : Nat
  framed  : Nat
  /-- frames: next SEQ, the replay buffer, last SEQ accepted, an ACK is owed, a NAK is owed, discarding until the expected
  SEQ arrives, when the last NAK left, failed replays in a row (R336 to R338) -/
  seq     : Nat
  unacked : List SentFrame
  rxSeq   : Nat
  owe     : Bool
  nak     : Bool
  drop    : Bool
  nakAt   : Nat
  failed  : Nat
  /-- this side's INIT is acknowledged (R324) -/
  initAck : Bool
  /-- round trip of this hand and of the last: minimum, maximum, frames replayed; the last hand's number (R339, R354) -/
  rttNow  : Nat × Nat × Nat
  rttLast : Nat × Nat × Nat
  rttHand : Nat
  /-- corrected symbols per lane: this hand, last hand, in total (R335, R354) -/
  symNow  : Tab Nat
  symLast : Tab Nat
  symAll  : Tab Nat
  /-- the exchange under way and the next identifier (R346) -/
  ex      : Option ShedEx
  nextEx  : Nat
  /-- lanes to ask for in the next hand: lane × 4 + restore × 2 + asked by software (R345) -/
  want    : List Nat
  /-- shed lanes with the spare that took over, 0xFF for none -/
  shedBy  : Tab Nat
  /-- failed restores since the last training (R347) -/
  misses  : Nat
  /-- Dealer slots in force (R317) -/
  share   : Nat
  /-- the last HAND row: its hand, LAUNCH, and the local time at which it arrived, in 15.625 ps units (R342, R343) -/
  handNo  : Nat
  launch  : Nat
  arrived : Int
  /-- the last HAND row this side sent: its hand and LAUNCH -/
  sent    : Nat × Nat
  deriving DecidableEq, Repr

/-- A link in DETECT that has never trained. -/
def LinkPhy.idle : LinkPhy :=
  { cfg := 0, spare := 0, slip := 0, tsLane := [], tsGood := [], tsAck := [], pRate := 0, pLimp := false, eqDone := [], eqId := [], eqAct := [], amCnt := 0, skewed := [], peerOk := 0, amSent := 0, stream := [], placed := 0, framed := 0, seq := 0, unacked := [], rxSeq := 4095, owe := false, nak := false, drop := false, nakAt := 0, failed := 0, initAck := false, rttNow := (0, 0, 0), rttLast := (0, 0, 0), rttHand := 0, symNow := [], symLast := [], symAll := [], ex := none, nextEx := 0, want := [], shedBy := [], misses := 0, share := 0, handNo := 0, launch := 0, arrived := 0, sent := (0, 0) }

/-- An MSI-X pool entry (R397, R398): the words in force, the words last written, the pending bit with the vector that
fired, and the error pattern of its four words' check bits (R402). -/
structure PoolEnt where
  lo    : Word
  hi    : Word
  data  : Word
  mask  : Bool
  nlo   : Word
  nhi   : Word
  ndata : Word
  nmask : Bool
  pend  : Bool
  fn    : Nat
  ecc   : Tab Nat
  deriving DecidableEq, Repr

/-- A pool entry at reset: all 0 but Mask (R397). -/
def PoolEnt.free : PoolEnt :=
  { lo := 0, hi := 0, data := 0, mask := true, nlo := 0, nhi := 0, ndata := 0, nmask := true, pend := false, fn := 0, ecc := [] }

/-- Interrupts: the MSI-X pool, firings of this trick, event outputs last seen, the router (R396 to R413). -/
structure Intr where
  pool  : Tab PoolEnt
  /-- vectors that fired in this trick: function and vector -/
  fired : List (Nat × Nat)
  /-- masked event and error bits of a page at the last boundary, by page number (R404) -/
  seen  : Tab (Nat × Nat)
  /-- PENDING sources (R408) -/
  srcs  : List Nat
  /-- CLAIMED sources: target and table time of the claim (R409) -/
  claims : Tab (Nat × Nat)
  deriving DecidableEq, Repr

/-- What the DMA engine cells show (R308, R313). -/
structure Cells where
  /-- cards started in this hand and in the last complete hand, moves, per cell -/
  now   : Tab Nat
  last  : Tab Nat
  /-- moves into or out of a cell since cold reset or RESET_N (R313) -/
  moves : Tab Nat
  /-- the last complete hand (R313) -/
  hand  : Nat
  /-- cards started that no trick has room for yet, by cell × 2, plus 1 toward the host (R308) -/
  load  : Tab Nat
  deriving DecidableEq, Repr

/-- The time unit beside TIM.STAT, which holds its state, source and SOURCE_OK (R441 to R456). -/
structure TimeUnit where
  /-- the selected source has been usable since the cut that selected it -/
  used    : Bool
  /-- measurements within 0.5 ns in a row; outliers in a row; consistent ones in a row in HOLDOVER; the last measurement -/
  good    : Nat
  outs    : Nat
  steady  : Nat
  last    : Int
  /-- HOLDOVER was entered by outliers (R446) -/
  fault   : Bool
  /-- hands to jump at the next hand boundary with no deck ARMED (R443) -/
  jump    : Int
  /-- θ, D and hand of each link's last measurement (R459) -/
  links   : Tab (Int × Int × Nat)
  /-- PPS_OUT is high for this much longer, in 125 ps units -/
  pps     : Nat
  deriving DecidableEq, Repr

/-- The time unit after reset. -/
def TimeUnit.idle : TimeUnit := { used := false, good := 0, outs := 0, steady := 0, last := 0, fault := false, jump := 0, links := [], pps := 0 }

/-- One Croupier engine beside its STATE and last-pass fields in ENG_STAT (R460 to R484). -/
structure Eng where
  /-- instruction words of the two banks; no words: the bank is empty (R478) -/
  bank0   : List Nat
  bank1   : List Nat
  /-- data words, general registers, flags and timers (R465, R467, R468, R469) -/
  data    : Tab (BitVec 12)
  g       : Tab (BitVec 12)
  z       : Bool
  n       : Bool
  c       : Bool
  v       : Bool
  d       : Bool
  timers  : Tab (BitVec 12)
  /-- detectors whose last sample is 1; whose edge output is 1 in this pass; that give 0 in the first pass after an exchange -/
  sample  : List Nat
  edges   : List Nat
  mute    : List Nat
  /-- the word that the pass executes next -/
  pc      : Nat
  /-- a pass runs; the cycles it has taken -/
  run     : Bool
  cycles  : Nat
  /-- pending slots of this pass, and those committed at HALT, by action port (R472) -/
  pend    : Tab (BitVec 12)
  commit  : Tab (BitVec 12)
  /-- hand boundaries since the previous pass started (R461), and since the last completed pass (R427) -/
  missed  : Nat
  since   : Nat
  /-- counts of selector 0x0900 + e (R484) -/
  passes  : Nat
  overruns : Nat
  applied : Nat
  discarded : Nat
  recDrop : Nat
  lastHand : Nat
  deriving DecidableEq, Repr

/-- An engine after reset. -/
def Eng.idle : Eng :=
  { bank0 := [], bank1 := [], data := [], g := [], z := false, n := false, c := false, v := false, d := false, timers := [],
    sample := [], edges := [], mute := [], pc := 0, run := false, cycles := 0, pend := [], commit := [], missed := 0, since := 0,
    passes := 0, overruns := 0, applied := 0, discarded := 0, recDrop := 0, lastHand := 0 }

/-- The Croupier: engines, the input snapshot and its hand (R463), the counts of the hand by kind × 4096 + INST (R464),
overrides by action port (R474), the slot, engine and bank of a LOAD that runs (R479). -/
structure Croupier where
  engs     : Tab Eng
  snap     : Tab Nat
  snapHand : Nat
  cnt      : Tab Nat
  ovr     : Tab (BitVec 12)
  load     : Option (Nat × Nat × Nat)
  deriving DecidableEq, Repr

/-- The power unit (R486 to R503). -/
structure Power where
  /-- state code of R486, and the one it is entering, 0 for none -/
  state    : Nat
  entering : Nat
  /-- tricks in a row with every vote IDLE or deeper; shallowest level of this hand's votes -/
  idle     : Nat
  floor    : Nat
  /-- table time of the last TLP received, per seat (R491) -/
  rx       : Tab Nat
  /-- LAST_WAKE: table time, source ID, state left, hand at the exit (R497) -/
  wake     : Nat × Nat × Nat × Nat
  /-- AVS: command, voltage read back, no transaction yet, frozen, last step was a hold, slack; failures in a row; the last
  command in Run; this hand holds a droop stretch or a RANGE_SWITCHING sample of channel 6 or 15 -/
  cmd      : Nat
  read     : Nat
  silent   : Bool
  frozen   : Bool
  held     : Bool
  slack    : Nat
  fails    : Nat
  /-- a transaction failed in this hand -/
  failed   : Bool
  /-- the last command in Run (R499) -/
  runCmd   : Nat
  /-- this hand holds a droop stretch or a RANGE_SWITCHING sample of channel 6 or 15 (R500) -/
  holdHand : Bool
  /-- a droop was reported in this hand (R502) -/
  drooped  : Bool
  /-- the thermal alarm is in force (R503) -/
  alarm    : Bool
  /-- the fold threshold of R503 is passed: its fault has been raised -/
  hot      : Bool
  /-- the time source was usable when Deep sleep was entered (R489) -/
  srcOk    : Bool
  deriving DecidableEq, Repr

/-- The power unit after reset: Run, 0.80 V, silent (R499, R512). -/
def Power.boot : Power :=
  { state := 0, entering := 0, idle := 0, floor := 3, rx := [], wake := (0, 0, 7, 0), cmd := 800, read := 0, silent := true,
    frozen := false, held := false, slack := 0, fails := 0, failed := false, runCmd := 800, holdHand := false, drooped := false, alarm := false, hot := false,
    srcOk := false }

/-- A sensor channel (R504 to R507): HI range in use, samples left in the transition window, its last SAMPLE word, captured
minimum and maximum NORM, a capture clear that waits, NORM of its last four samples. -/
structure Chan where
  hi    : Bool
  left  : Nat
  word  : Word
  min   : Nat
  max   : Nat
  clear : Bool
  last4 : List Nat
  deriving DecidableEq, Repr

/-- A channel that has not sampled: nothing captured. -/
def Chan.idle : Chan := { hi := false, left := 0, word := 0, min := 4095, max := 0, clear := false, last4 := [] }

/-- What a store batch writes for (R521): a PST.CMD WRITE, a SAVE, a fault-ring record, a CRP_WRITE, a life-cycle transition, the
final power-fail record. -/
inductive BatchFor | pst | save | ring | crp | lcs | final
  deriving DecidableEq, Repr

/-- A batch: its first byte's store offset and its bytes (R517). -/
structure Batch where
  who  : BatchFor
  addr : Nat
  data : List Byte
  /-- the record it writes -/
  rec_ : Option Rec
  deriving DecidableEq, Repr

/-- The persistent store (R516 to R527) and the boot flash (R540). -/
structure Store where
  /-- bytes of the MRAM, by store offset; an unlisted byte reads 0 -/
  mem   : List (Nat × Byte)
  /-- bytes of the two SPI devices, by slot × 2^24 + offset; an unlisted byte reads 0xFF, as erased -/
  flash : List (Nat × Byte)
  /-- parts of flash areas being erased or written, or left incomplete: (slot × 2 + area) × 2^23 + offset; offset 2^23 − 1 for the
  area's erase (R548, R557); parts of a Croupier slot that is being replaced: (4 + slot) × 2^23 + offset (R550) -/
  torn  : List Nat
  /-- the store has been initialised (R575) -/
  ready : Bool
  /-- the batch being written, and those waiting -/
  busy  : Option Batch
  wait  : List Batch
  /-- batches of a SAVE still to be written: the copy and what remains (R106) -/
  save  : Option (Nat × List (Nat × List Byte))
  /-- E at the last check, in µJ -/
  lastE : Nat
  /-- the final record of a power failure that is due: its length, table time, hand and body (R524, R525) -/
  final : Option (Nat × Nat × Nat × List Byte)
  deriving DecidableEq, Repr

/-- Life cycle (R528 to R532): what the fuses hold, the pending transition, tokens. -/
structure LifeCycle where
  /-- the fused state (R528), the pending one, 0 for none (R529), and the fused minimum versions (R534) -/
  fuse    : Nat
  next    : Nat
  svn     : List Nat
  /-- higher SVNs of images accepted, to be fused with the next batch that passes its check (R534) -/
  svnNext : List Nat
  /-- hash of the owner root key, and whether a returned part has revoked it (R529, R531) -/
  owner   : List Byte
  revoked : Bool
  /-- rejected tokens since the last cold reset -/
  fails   : Nat
  /-- number of the NONCE in force -/
  nonce   : Nat
  /-- rubbers left to the debug token; it ends with the next reset too -/
  debugLeft : Option Nat
  deriving DecidableEq, Repr

/-- House firmware (R539 to R557). -/
structure House where
  /-- OP and OWNER of the running command, and the device work it waits for -/
  cmd     : Option (Nat × Req)
  /-- the STATUS and the results with which it will end (R546, R547) -/
  status  : Nat
  rsp0    : Word
  rsp1    : Word
  /-- rubbers of the watchdog restarts on the running image (R543) -/
  hist    : List Nat
  /-- slot of the previous image while an activation may be rolled back, with the table time of READY (R552) -/
  prev    : Option Nat
  readyAt : Nat
  /-- versions of the running Lane image, per lane group: MAJOR × 256 + MINOR (R555) -/
  lane    : Nat
  /-- the last SHOWDOWN record and its SEQ; none before the first (R554) -/
  record  : Option (List Byte)
  seq     : Nat
  /-- hand boundaries since the last kick that counted (R427) -/
  kick    : Nat
  /-- the running command's arguments as they were when it was written (R545); it has started (R548) -/
  args    : List Word
  began   : Bool
  /-- slot that an ACTIVATE or a rollback restarts the cores on (R551, R552) -/
  act     : Option Nat
  /-- slot and area (0 House, 1 Lane) of the last FW_BEGIN (R549) -/
  area    : Option (Nat × Nat)
  deriving DecidableEq, Repr

/-- House firmware after reset. -/
def House.idle : House := { cmd := none, status := 0, rsp0 := 0, rsp1 := 0, hist := [], prev := none, readyAt := 0, lane := 0, record := none, seq := 0, kick := 0, args := [], began := false, act := none, area := none }

/-- The safety monitor's injections (R439): KIND and TARGET of the one that waits for the next boundary; the next CRC is flipped; the
hand boundaries until the one that ends a hand counted as long, 0 for none; the table times until which kicks, and passes, are ignored, 0
for none; the trick boundaries that VDD_CORE's low comparator has been forced for, and those that it is still to be forced for (R424). -/
structure Safe where
  inj     : List (Nat × Nat)
  crcFlip : Bool
  long    : Nat
  kickOff : Nat
  passOff : Nat
  lowFor  : Nat
  lowLeft : Nat
  deriving DecidableEq, Repr

/-- The MGMT port (R603): in I3C mode, static address, dynamic address, endpoint ID. -/
structure Mgmt where
  i3c  : Bool
  addr : Nat
  dyn  : Option Nat
  eid  : Option Nat
  deriving DecidableEq, Repr

/-- Pins that no register shows (R584, R597): outputs asserted (FAULT_N, THERM_TRIP_N, NLk_RST_N by link, the hand strobe's
level) and the levels at GPIO0 to 2. -/
structure Pins where
  faultN : Bool
  tripN  : Bool
  rstN   : List Nat
  strobe : Bool
  gpio   : Nat
  deriving DecidableEq, Repr

/-- Levels outside a boot: shed mode (R524), an accepted SOFT_RESET that waits for its instant (R589), the
reset that the next boot follows, as CAUSE of BOOT_STAT codes it (R580), what BOOT has found of presence (R564). -/
structure Boot where
  shed  : Bool
  soft  : Bool
  cause : Nat
  /-- the slot a boot from ROM service uses (R551) -/
  slot  : Option Nat
  /-- seats that underwent a surprise removal in this hand (R569) -/
  gone  : List Nat
  deriving DecidableEq, Repr

end Sys2Proof.Machine
end

