-- ==== Sys2Proof/Machine/State.lean ====
section
/-! DEFINITION. The state of the block, the reasons a command can stop, and the state after a cold reset. -/

namespace Sys2Proof.Machine

/-- The whole state. Registers stand in `regs` by Table offset; what no register shows stands in the other fields. -/
structure State where
  /-- stored registers that differ from their reset value, by Table offset (R47, R628) -/
  regs : Tab Word
  /-- status bits that hardware set in this trick, by Table offset of their register (R9) -/
  hwSet : Tab Word
  /-- registers whose live value, or whose shadow copy, holds a parity mismatch (R76, R78) -/
  parLive : List Nat
  parShadow : List Nat
  /-- mailboxes by page number (R58) -/
  mbox : Tab Mbox
  /-- decks: 0 the Table deck, n + 1 the seat-n deck (R84) -/
  decks : Tab Deck
  /-- cut generation (R94), the token counter (R90), the active deck ID (R104) -/
  gen : Nat
  tokenCtr : Nat
  activeId : Word
  /-- table time in 125 ps units (R11, R442) -/
  time : Dword
  tim : TimeUnit
  talon : Talon
  dealer : Dealer
  /-- transactions waiting for the Dealer, oldest first (R254) -/
  xacts : List Xact
  seats : Tab Seat
  /-- lane cells by lane group × 8 + place in the group (R109) -/
  lanes : Tab Lane
  /-- Lane firmware restarts in one rubber, by port × 4 + entry: rubber number and count (R118) -/
  lfw : Tab (Nat × Nat)
  /-- transaction layers of the Nicen Links (R355) -/
  links : Tab LinkTx
  /-- physical and link layers of the Nicen Links (R314) -/
  phys : Tab LinkPhy
  fns : Tab Fn
  /-- DMA queue pairs (R279) -/
  queues : Tab Queue
  cells : Cells
  intr : Intr
  xlt : Xlt
  crp : Croupier
  pwr : Power
  sens : Tab Chan
  store : Store
  lcs : LifeCycle
  house : House
  safe : Safe
  mgmt : Mgmt
  pins : Pins
  boot : Boot
  /-- the last 240 page events, oldest first: table time, page, bit (256 + bit for ERR_STAT) (R525) -/
  trace : List (Nat × Nat × Nat)
  /-- records waiting to be written to the fault ring, oldest first (R526) -/
  recs : List Rec
  /-- ports folded in this trick: a lower cause code replaces theirs (R420) -/
  foldFresh : List Nat
  /-- the page and the ERR_STAT bit that raised a port's fold, where a page did (R422) -/
  foldBy : Tab (Nat × Nat)
  /-- ports whose accepted CLEAR acts at the next boundary (R422) -/
  clearing : List Nat
  /-- fresh numbers for open values -/
  freeCtr : Nat
  /-- what the device has sent and answered, oldest first -/
  out : List Emit
  /-- commands waiting, the next one first -/
  pending : List Instr
  deriving DecidableEq, Repr

/-- The Talon after reset: every card is free (R260). -/
def Talon.full : Talon :=
  { free := 262144, flight := 0, held := [], kitty := [], landing := [], resv := [], waitFn := [], waited := [], allow := [], phantom := false, bookArm := false, eccArm := false }

/-- The Dealer after reset. -/
def Dealer.fresh : Dealer :=
  { ptr := [], deficit := [], rot := [], admitted := [], demoted := [], dealtCnt := [], sealArm := [], lockArm := false, overArm := [], stamp := 0 }

/-- Translation after reset: entries all 0, nothing under way (R230). -/
def Xlt.fresh : Xlt :=
  { xt := [], ret := [], ecc := [], pend := [], heldLow := [], capHigh := [], sync := [], scrub := none, inject := [],
    lines := [], lineSer := 0, evicts := 0 }

/-- The state right after a cold reset, before boot step 1 has run: registers at their reset values, PHASE 1, table time 0,
nothing staged or live (R10, R575, R587). DESIGN CHOICE: the part is UZ-RY9612-128-B0, whose GRADE holds SPEED_GRADE 2 (R46). -/
def State.reset : State :=
  { regs := [(0x104, 0xB0020C46#32)], hwSet := [], parLive := [], parShadow := [], mbox := [], decks := [], gen := 0, tokenCtr := 0, activeId := 0,
    time := 0, tim := TimeUnit.idle, talon := Talon.full, dealer := Dealer.fresh, xacts := [], seats := [], lanes := [], lfw := [],
    links := [], phys := [], fns := [], queues := [], cells := { now := [], last := [], moves := [], hand := 0, load := [] },
    intr := { pool := [], fired := [], seen := [], srcs := [], claims := [] }, xlt := Xlt.fresh,
    crp := { engs := [], snap := [], snapHand := 0, cnt := [], ovr := [], load := none }, pwr := Power.boot, sens := [],
    store := { mem := [], flash := [], torn := [], ready := false, busy := none, wait := [], save := none, lastE := 0, final := none },
    lcs := { fuse := 1, next := 0, svn := [0, 0, 0], svnNext := [0, 0, 0], owner := [], revoked := false, fails := 0, nonce := 0, debugLeft := none },
    house := House.idle, safe := { inj := [], crcFlip := false, long := 0, kickOff := 0, passOff := 0, lowFor := 0, lowLeft := 0 },
    mgmt := { i3c := false, addr := 0x2C, dyn := none, eid := none },
    pins := { faultN := true, tripN := false, rstN := [0, 1, 2, 3], strobe := false, gpio := 0 },
    boot := { shed := false, soft := false, cause := 0, slot := none, gone := [] }, trace := [],
    recs := [], foldFresh := [], foldBy := [], clearing := [], freeCtr := 0, out := [], pending := [] }

/-- Reasons a command could stop with a fault: there are none. Every command of the block has an effect the manual gives. -/
inductive Fault
  deriving DecidableEq, Repr

/-- Reasons a command could be refused. -/
inductive Refusal
  /-- `exec` raises it for a command whose meaning is not written yet. Safe: nothing can be proved of its effect. -/
  | notModelled (mnemonic : String)
  deriving DecidableEq, Repr

/-- What a meaning answers. -/
abbrev Answer := Host.Outcome State Fault Refusal

end Sys2Proof.Machine
end

