-- ==== Sys2Proof/Machine/Ops.lean ====
section
/-! DEFINITION. Named operations over the register space and the other shared state: reading and writing one stored
register, events, counters, logs, where a page stands, which seat owns a function, table time. -/

namespace Sys2Proof.Machine

/-! ## Stored registers -/

/-- The stored value of the register at Table offset `off`: the live value of a staged register (R75). -/
def regAt (s : State) (off : Nat) : Word := tabGet (regReset off) s.regs off

/-- Store `v` in the register at Table offset `off`. -/
def regPut (s : State) (off : Nat) (v : Word) : State := { s with regs := tabPut (regReset off) s.regs off v }

/-- Bits [hi:lo] of a stored register. -/
def fldAt (s : State) (off hi lo : Nat) : Nat := bits (regAt s off) hi lo

/-- Bit `i` of a stored register. -/
def flagAt (s : State) (off i : Nat) : Bool := bitOf (regAt s off) i

/-- Replace bits [hi:lo] of a stored register. -/
def fldPut (s : State) (off hi lo v : Nat) : State := regPut s off (setBits (regAt s off) hi lo v)

/-- A register that carries parity has been written again: a mismatch in it is gone (R77). -/
def freshPar (s : State) (off : Nat) : State := { s with parLive := s.parLive.filter (fun o => o != off) }

/-- Store a register that software writes, with fresh parity. -/
def rwPut (s : State) (off : Nat) (v : Word) : State := freshPar (regPut s off v) off

/-- Advance a 32-bit counter that saturates (R136, R176, R276 and the other counter rules). -/
def bump (s : State) (off : Nat) : State := regPut s off (satInc (regAt s off))

/-- Advance a counter by `n`, saturating. -/
def bumpBy (s : State) (off n : Nat) : State :=
  regPut s off (BitVec.ofNat 32 (satNat 0xFFFFFFFF ((regAt s off).toNat + n)))

/-- Set bits of a W1C status register in hardware and remember them for this trick (R9). -/
def hwSetBits (s : State) (off : Nat) (m : Word) : State :=
  let s := regPut s off (regAt s off ||| m)
  { s with hwSet := tabPut 0 s.hwSet off (tabGet 0 s.hwSet off ||| m) }

/-- Keep a page event among the last 240 (R525): bit `i` of a page's EVT_STAT, or 256 + `i` for its ERR_STAT. -/
def keepTrace (s : State) (pg i : Nat) : State :=
  let t := s.trace ++ [(s.time.toNat, pg, i)]
  { s with trace := t.drop (t.length - 240) }

/-- Set event bit `i` of the page at Table offset `pg` (R57). -/
def setEvt (s : State) (pg i : Nat) : State := keepTrace (hwSetBits s (pg + 0x010) (maskOf i i)) pg i

/-- Set error bit `i` of the page at Table offset `pg` without passing it on (R57). -/
def setErrBit (s : State) (pg i : Nat) : State := keepTrace (hwSetBits s (pg + 0x01C) (maskOf i i)) pg (256 + i)

/-- Load a log that holds the first occurrence while `held`; a further one sets only its OVF bit (R59). -/
def logHold (s : State) (off ovf : Nat) (held : Bool) (v : Word) : State :=
  if held then regPut s off (setBit (regAt s off) ovf true) else regPut s off v

/-- The device sends or reports `e`. -/
def emit (s : State) (e : Emit) : State := { s with out := s.out ++ [e] }

/-- Count one happening of kind `kind` of R464's table for instance `inst` in this hand (R463). -/
def tally (s : State) (kind inst n : Nat) : State :=
  { s with crp := { s.crp with cnt := tabMod 0 s.crp.cnt (kind * 4096 + inst) (· + n) } }

/-- Take a fresh number for an open value. -/
def freshFree (s : State) : Nat × State := (s.freeCtr, { s with freeCtr := s.freeCtr + 1 })

/-! ## Where the pages stand (R14, R15, R629 to R631) -/

def tblPg : Nat := 0x00000
def dlrPg : Nat := 0x02000
def talPg : Nat := 0x03000
def xltPg : Nat := 0x04000
def dmaPg : Nat := 0x05000
def msxPg : Nat := 0x06000
def evrPg : Nat := 0x07000
def safPg : Nat := 0x08000
def timPg : Nat := 0x09000
def crpPg : Nat := 0x0A000
def pwrPg : Nat := 0x10000
def snsPg : Nat := 0x11000
def pstPg : Nat := 0x12000
def lcsPg : Nat := 0x13000
def hsePg : Nat := 0x14000
/-- First page of port p (R14). -/
def portPg (p : Nat) : Nat := 0x100000 + p * 0x10000
/-- Link page of port p. -/
def linkPg (p : Nat) : Nat := portPg p
/-- Transaction page of port p. -/
def txnPg (p : Nat) : Nat := portPg p + 0x1000
/-- IDE page of seat p. -/
def idePg (p : Nat) : Nat := portPg p + 0x2000
/-- SLOT page of seat p. -/
def slotPg (p : Nat) : Nat := portPg p + 0x3000
/-- Lane page of port p. -/
def lanePg (p : Nat) : Nat := portPg p + 0x7000
/-- Function page of slot f (R15). -/
def fnPg (f : Nat) : Nat := 0x1000000 + f * 0x1000
/-- The page that holds the registers of deck d: 0 the Table deck, n + 1 the seat-n deck (R85). -/
def deckPg (d : Nat) : Nat := if d = 0 then tblPg else fnPg (d - 1)

/-! ## Table time (R11, R42) -/

/-- 125 ps units in a hand. -/
def handUnits : Nat := 163840
/-- The 40-bit hand counter (R42). -/
def handNo (s : State) : Nat := (s.time.toNat / handUnits) % 2 ^ 40
/-- Trick number within the hand, 0 to 4,095. -/
def trickNo (s : State) : Nat := (s.time.toNat % handUnits) / 40

/-- An injection that ignores kicks or passes until table time `off` is in force (R439). -/
def ignores (s : State) (off : Nat) : Bool := decide (s.time.toNat < off)
/-- A watchdog that expires now does so by that injection: no kick or pass can have counted since (R437). -/
def byIgnoring (s : State) (off : Nat) : Bool := decide (off ≠ 0 ∧ s.time.toNat < off + 2 * handUnits)

/-! ## The live configuration -/

/-- WIDTH code of seat n: 0 absent, 1 x4, 2 x8, 3 x16 (R23). -/
def seatWidth (s : State) (n : Nat) : Nat := bits (regAt s 0x130) (2 * n + 1) (2 * n)
/-- The seat is present in the live configuration. -/
def seatPresent (s : State) (n : Nat) : Bool := decide (n < 6) && decide (seatWidth s n ≠ 0)
/-- ROLE of lane group g: 0 off, 1 host, 2 Nicen (R22). -/
def lgRole (s : State) (g : Nat) : Nat := fldAt s (0x140 + 4 * g) 1 0
/-- LINK of lane group g. -/
def lgLink (s : State) (g : Nat) : Nat := fldAt s (0x140 + 4 * g) 5 4
/-- The lane groups of Nicen Link k, ascending (R19). -/
def linkGroups (s : State) (k : Nat) : List Nat :=
  (List.range 12).filter (fun g => lgRole s g == 2 && lgLink s g == k)
/-- The lane groups that seat n uses (R17). -/
def seatGroups (s : State) (n : Nat) : List Nat :=
  match seatWidth s n with
  | 0 => []
  | 3 => [2 * n, 2 * n + 1]
  | _ => [2 * n]
/-- Lane groups of port p. -/
def portGroups (s : State) (p : Nat) : List Nat := if p < 6 then seatGroups s p else linkGroups s (p - 6)
/-- The port is present in the live configuration. -/
def portPresent (s : State) (p : Nat) : Bool := !(portGroups s p).isEmpty
/-- The port that uses lane group g. -/
def groupPort (s : State) (g : Nat) : Option Nat := (List.range 10).find? (fun p => (portGroups s p).contains g)
/-- The effective button seat: `TBL.BUTTON_STAT.SEAT` (R570). -/
def buttonSeat (s : State) : Nat := fldAt s 0x190 2 0

/-- VF_FIRST and VF_TOTAL of seat n (R193). -/
def vfFirst (s : State) (n : Nat) : Nat := fldAt s (txnPg n + 0x140) 27 16
def vfTotal (s : State) (n : Nat) : Nat := fldAt s (txnPg n + 0x140) 12 0

/-- The seat that owns function slot f under the live configuration; none when unassigned (R178). -/
def fnSeat (s : State) (f : Nat) : Option Nat :=
  if f < 6 then (if seatPresent s f then some f else none)
  else (List.range 6).find? (fun n => seatPresent s n && decide (vfFirst s n ≤ f ∧ f < vfFirst s n + vfTotal s n))

/-- Index i of VF slot f in its seat's run, from 1; 0 for a PF or an unassigned slot (R178, R197). -/
def vfIndex (s : State) (f : Nat) : Nat :=
  if f < 6 then 0 else match fnSeat s f with
    | some n => f - vfFirst s n + 1
    | none => 0

/-- The PF of the seat that owns f. -/
def pfOf (s : State) (f : Nat) : Nat := (fnSeat s f).getD 7

/-- Functions assigned to seat n: its PF and its VF run. -/
def seatFns (s : State) (n : Nat) : List Nat :=
  if seatPresent s n then n :: (numsFrom (vfFirst s n) (vfTotal s n)).filter (fun f => decide (6 ≤ f ∧ f < 4096)) else []

/-- Port p is folded: `SAF.FOLD_CAUSE[p].FOLDED` (R438). -/
def portFolded (s : State) (p : Nat) : Bool := flagAt s (safPg + 0x140 + 4 * p) 31
/-- The table is folded. -/
def tableFolded (s : State) : Bool := portFolded s 10
/-- Seat n or the table is folded. -/
def folded (s : State) (p : Nat) : Bool := portFolded s p || tableFolded s

/-! ## Requesters (R48, R85, R86) -/

/-- The access came through PF n's BAR0 of the effective button seat n. -/
def fromButton (s : State) (r : Req) : Bool :=
  decide (r.code.val < 6) && decide (r.code.val = buttonSeat s) && decide (r.fn.val = r.code.val)

/-- The button PF, MGMT or House firmware. -/
def trusted (s : State) (r : Req) : Bool := fromButton s r || r.code.val == 6 || r.code.val == 7

/-- A bus error or refused write is logged in the page and sets EVT_STAT.ACCESS (R55, R59, R61, R75). DEDUCED
(log entry 105): the log is held while EVT_STAT.ACCESS reads 1, by whatever set it. -/
def logAccess (s : State) (pg : Nat) (r : Req) (kind : Nat) (write : Bool) (off : Nat) : State :=
  let v := setBits (setBits (setBits (setBits 0 31 28 r.code.val) 27 24 kind) 23 23 write.toNat) 11 0 off
  setEvt (logHold s (pg + 0x040) 22 (flagAt s (pg + 0x010) 0) v) pg 0

/-! ## The end of every command -/

/-- FAULT_N is asserted on GPIO0: before cut 0, in Off, under a table fold or the fold of a port in PORT_MASK, while FUNC is 0
(R436, R439, R576). -/
def faultLevel (s : State) : Bool :=
  !flagAt s (safPg + 0x170) 31 &&
  (fldAt s 0x1D4 31 28 != 7 || s.pwr.state == 4 || tableFolded s ||
    (List.range 10).any (fun p => flagAt s (safPg + 0x170) p && portFolded s p))

/-- FAULT_N follows the safety state (R430, R436). -/
def drivePins (s : State) : State :=
  if s.pins.faultN = faultLevel s then s
  else emit { s with pins := { s.pins with faultN := faultLevel s } } (.pin "FAULT_N" (b2n (!faultLevel s)))

/-- A command ends in the next state `s`, with FAULT_N as the safety state of `s` has it. -/
def finish (s : State) : Answer := .next (drivePins s)

/-- A TLP arrived on seat n (R491). -/
def rxTlp (s : State) (n : Nat) : State := { s with pwr := { s.pwr with rx := tabIns s.pwr.rx n s.time.toNat } }

end Sys2Proof.Machine
end

