-- ==== Sys2Proof/Machine/Books.lean ====
section
/-! DEFINITION. The books: Talon cards and their accounts (R256 to R262), seat and link credits (R154, R378), seat and link
tags (R158 to R160, R380), and putting a transaction before the Dealer. -/

namespace Sys2Proof.Machine

/-! ## Seats, links, functions, queues by number -/

def seatOf (s : State) (n : Nat) : Seat := tabGet Seat.down s.seats n
def seatMod (s : State) (n : Nat) (f : Seat → Seat) : State := { s with seats := tabMod Seat.down s.seats n f }
def linkTxOf (s : State) (k : Nat) : LinkTx := tabGet LinkTx.down s.links k
def linkTxMod (s : State) (k : Nat) (f : LinkTx → LinkTx) : State := { s with links := tabMod LinkTx.down s.links k f }
def fnOf (s : State) (f : Nat) : Fn := tabGet Fn.idle s.fns f
def fnMod (s : State) (f : Nat) (g : Fn → Fn) : State := { s with fns := tabMod Fn.idle s.fns f g }
def queueOf (s : State) (k : Nat) : Queue := tabGet Queue.idle s.queues k
def queueMod (s : State) (k : Nat) (g : Queue → Queue) : State := { s with queues := tabMod Queue.idle s.queues k g }

/-- Replace element `i` of a list. -/
def listSet {α : Type} : List α → Nat → α → List α
  | [], _, _ => []
  | _ :: r, 0, v => v :: r
  | a :: r, i + 1, v => a :: listSet r i v

/-- Add `n` to element `i` of a list of counts. -/
def addAt (l : List Nat) (i n : Nat) : List Nat := listSet l i (l.getD i 0 + n)
/-- Take `n` from element `i` of a list of counts, not below 0. -/
def subAt (l : List Nat) (i n : Nat) : List Nat := listSet l i (l.getD i 0 - n)

/-! ## Talon accounts -/

/-- Every assigned function (R178). -/
def assignedFns (s : State) : List Nat := (List.range 6).flatMap (fun n => seatFns s n)
/-- Ante the deck gives f; 0 when unassigned, because its STG fields have no effect (R178, R256). -/
def deckAnte (s : State) (f : Nat) : Nat := if (fnSeat s f).isSome then fldAt s (fnPg f + 0x128) 18 0 else 0
/-- Kitty cap of f (R256). -/
def kittyCap (s : State) (f : Nat) : Nat := if (fnSeat s f).isSome then fldAt s (fnPg f + 0x12C) 18 0 else 0

/-- `CRP.ACT_CFG[a]` (R473). -/
def actCfg (s : State) (a : Nat) : Word := regAt s (0x0F100 + 4 * a)
def actKind (w : Word) : Nat := bits w 27 24
def actTarget (w : Word) : Nat := bits w 23 12
def actBound (w : Word) : Nat := bits w 11 0
/-- clamp(x, lo, hi) of R473. -/
def clampTo (x lo hi : Nat) : Nat := min (max x lo) hi
/-- A Croupier value as a count: a negative one lies below every bound (R473). -/
def actVal (v : BitVec 12) : Nat := if v.msb then 0 else v.toNat
/-- Overrides of kind `kind` in force on f: BOUND and value (R474). -/
def overrides (s : State) (kind f : Nat) : List (Nat × Nat) :=
  (s.crp.ovr.filter (fun p => actKind (actCfg s p.1) == kind && actTarget (actCfg s p.1) == f)).map (fun p => (actBound (actCfg s p.1), actVal p.2))
/-- Ante of f in force: the lowest of the deck's and the Croupier's (R473, R474). -/
def ante (s : State) (f : Nat) : Nat :=
  let d := deckAnte s f
  (overrides s 2 f).foldl (fun m o => min m (clampTo (64 * o.2) (max (64 * o.1) (64 - kittyCap s f)) d)) d
/-- Landing reserve of a seat's SEAT.FC_CFG value (R151, R152). -/
def seatReserve (fc : Word) : Nat :=
  (32 * bits fc 9 0 + 4 * bits fc 15 10) / 4 + 4 * bits fc 31 24 + 4 * bits fc 23 16
/-- Landing reserve of port p under the live configuration (R152, R379). -/
def reserve (s : State) (p : Nat) : Nat :=
  if portPresent s p then
    if p < 6 then seatReserve (regAt s (linkPg p + 0x104))
    else fldAt s (txnPg p + 0x100) 15 0 + fldAt s (txnPg p + 0x104) 15 0 + fldAt s (txnPg p + 0x108) 15 0
  else 0
/-- LR: the landing total (R257). -/
def landingTotal (s : State) : Nat := ((List.range 10).map (reserve s)).sum
/-- Cards of the Talon (R44). -/
def talonCards : Nat := 262144
/-- S: the shared kitty (R257). -/
def sharedKitty (s : State) : Nat := talonCards - ((assignedFns s).map (deckAnte s)).sum - landingTotal s
/-- Cards function f holds. -/
def heldBy (s : State) (f : Nat) : Nat := tabGet 0 s.talon.held f
/-- Kitty cards f holds. -/
def kittyHeld (s : State) (f : Nat) : Nat := tabGet 0 s.talon.kitty f
/-- Ante cards f holds. -/
def anteHeld (s : State) (f : Nat) : Nat := heldBy s f - kittyHeld s f
/-- Cards held in all kitty shares together. -/
def kittyTotal (s : State) : Nat := (s.talon.kitty.map (fun p => p.2)).sum
/-- Cards in port p's landing reserve. -/
def landed (s : State) (p : Nat) : Nat := tabGet 0 s.talon.landing p

/-- How many of n cards charged to f now go to its kitty share: those for which its ante has no room (R258). -/
def kittyPart (s : State) (f n : Nat) : Nat := n - (ante s f - anteHeld s f)

/-- f's accounts take n cards: its ante, then its kitty share (R258). -/
def canHold (s : State) (f n : Nat) : Bool :=
  let k := kittyPart s f n
  decide (k = 0) || (decide (kittyHeld s f + k ≤ kittyCap s f) && decide (kittyTotal s + k ≤ sharedKitty s))

/-- The Talon can charge n free cards to f (R258). -/
def canCharge (s : State) (f n : Nat) : Bool := decide (n ≤ s.talon.free) && canHold s f n

def talonMod (s : State) (g : Talon → Talon) : State := { s with talon := g s.talon }

/-- f's accounts hold n cards more, k of them in its kitty share. -/
def heldAdd (t : Talon) (f n k : Nat) : Talon :=
  { t with held := tabMod 0 t.held f (· + n), kitty := tabMod 0 t.kitty f (· + k) }

/-- f's accounts hold n cards less, k of them of its kitty share; the kitty cards never exceed the cards held. -/
def heldSub (t : Talon) (f n k : Nat) : Talon :=
  let h := tabGet 0 t.held f - n
  { t with held := tabPut 0 t.held f h, kitty := tabMod 0 t.kitty f (fun c => min (c - k) h) }

/-- Charge n free cards to f; never more than are free. -/
def chargeFn (s : State) (f n : Nat) : State :=
  talonMod s (fun t => heldAdd { t with free := t.free - min n t.free } f (min n t.free) (kittyPart s f (min n t.free)))
/-- n free cards land in port p's reserve; never more than are free. -/
def chargeLanding (s : State) (p n : Nat) : State :=
  talonMod s (fun t => { t with free := t.free - min n t.free, landing := tabPut 0 t.landing p (tabGet 0 t.landing p + min n t.free) })
/-- n cards leave an account for the Dealer pipeline, k of them kitty cards; the next closing of the books frees them (R260). -/
def toFlight (s : State) (a : Acct) (n k : Nat) : State :=
  match a with
  | .fn f => talonMod s (fun t => let m := min n (tabGet 0 t.held f); { heldSub t f m k with flight := t.flight + m })
  | .landing p => talonMod s (fun t => let m := min n (tabGet 0 t.landing p); { t with landing := tabPut 0 t.landing p (tabGet 0 t.landing p - m), flight := t.flight + m })
  | .owed => s
/-- Cards of a landing reserve are re-charged to a function (R259); no data moves. -/
def recharge (s : State) (p f n : Nat) : State :=
  talonMod s (fun t => let m := min n (tabGet 0 t.landing p); heldAdd { t with landing := tabPut 0 t.landing p (tabGet 0 t.landing p - m) } f m (kittyPart s f m))
/-- Reserve n cards of f for a completion (R153, R361): held cards, counted as reserved. -/
def reserveCards (s : State) (f n : Nat) : State :=
  talonMod (chargeFn s f n) (fun t => { t with resv := tabMod 0 t.resv f (· + n) })
/-- Release a completion reservation of n cards, k of them kitty cards: they are free at the next closing (R163, R260). -/
def releaseCards (s : State) (f n k : Nat) : State :=
  talonMod (toFlight s (.fn f) n k) (fun t => { t with resv := tabMod 0 t.resv f (· - n) })
/-- A reservation holds the completion's cards from now on: they stay charged to f (R153). -/
def useReserve (s : State) (f n : Nat) : State := talonMod s (fun t => { t with resv := tabMod 0 t.resv f (· - n) })
/-- Close the book of the ending trick: what was in flight is free (R260). An armed phantom card is counted from now on, and its injection
is applied (R274). -/
def closeBooks (s : State) : State :=
  let s' := talonMod s (fun t => { t with free := t.free + t.flight, flight := 0, phantom := t.phantom || t.bookArm, bookArm := false })
  if s.talon.bookArm then fldPut s' (talPg + 0x1E0) 2 0 0 else s'
/-- Where an ante was lowered, the cards above it count as kitty cards (R196, R473). -/
def reAnte (s : State) : State :=
  talonMod s (fun t => { t with kitty := t.held.foldl (fun m p => tabMod 0 m p.1 (fun c => max c (p.2 - ante s p.1))) t.kitty })
/-- Cards that n payload bytes occupy (R243). -/
def cardsFor (n : Nat) : Nat := if n = 0 then 1 else (n + 63) / 64

/-! ## Credits of received transactions -/

/-- A landing transaction of port p gives up its credits: O falls and P rises (R154, R378). -/
def freeCredits (s : State) (p : Nat) (land : Option (Nat × Nat)) : State :=
  match land with
  | none => s
  | some (c, d) =>
    if p < 6 then
      seatMod s p (fun x => { x with
        credO := subAt (subAt x.credO (2 * c) 1) (2 * c + 1) d,
        credP := addAt (addAt x.credP (2 * c) 1) (2 * c + 1) d })
    else
      linkTxMod s (p - 6) (fun x => { x with
        held := subAt (subAt x.held (2 * c) 1) (2 * c + 1) d,
        freed := addAt (addAt x.freed (2 * c) 1) (2 * c + 1) d })

/-- A received transaction lands in port p's reserve: cards and credits (R152, R154, R378). -/
def land (s : State) (p cards c d : Nat) : State :=
  let s := chargeLanding s p cards
  if p < 6 then seatMod s p (fun x => { x with credO := addAt (addAt x.credO (2 * c) 1) (2 * c + 1) d })
  else linkTxMod s (p - 6) (fun x => { x with
    rcvd := addAt (addAt x.rcvd (2 * c) 1) (2 * c + 1) d,
    held := addAt (addAt x.held (2 * c) 1) (2 * c + 1) d })

/-- The port whose ingress slots the cards of x use (R248): the port it came from; for a DMA source toward a link, its seat; none
(15) for a DMA or MSI-X source toward its seat. -/
def ingressOf (s : State) (x : Xact) : Nat :=
  if x.src < 10 then x.src else if 6 ≤ x.dst then (fnSeat s x.fn).getD 15 else 15

/-- Work of port p (R265): it came from p, goes to p, or uses p's ingress slots. -/
def ofPort (s : State) (p : Nat) (x : Xact) : Bool := x.src == p || x.dst == p || ingressOf s x == p

/-- Put a transaction before the Dealer: its cards are written into the Talon. An armed injection of TAL.INJECT corrupts one and is
then applied (R274). -/
def enqueue (s : State) (x : Xact) : State :=
  let s' := { s with xacts := s.xacts ++ [{ x with stamp := s.dealer.stamp, bad := s.talon.eccArm }],
                     dealer := { s.dealer with stamp := s.dealer.stamp + 1 } }
  if s.talon.eccArm then fldPut (talonMod s' (fun t => { t with eccArm := false })) (talPg + 0x1E0) 2 0 0 else s'

/-- Arrival numbers that a received request keeps for what its look-up makes of it: no request becomes more than 33 pieces (R226). -/
def lookSpan : Nat := 64

/-- A received request waits for its look-up, which starts at the next boundary and takes two tricks (R24, R216): it is dealt from the third
boundary on. -/
def awaitLook (s : State) (x : Xact) : State :=
  let s := enqueue s { x with wait := 3 }
  { s with dealer := { s.dealer with stamp := s.dealer.stamp + (lookSpan - 1) } }

/-! ## Credits at egress (R251, R254, R376) -/

/-- Class index of a packet's credits: 0 posted, 1 non-posted, 2 completion; and its 16 B data credits. -/
def tlpCredit (t : Tlp) : Nat × Nat :=
  match t.kind with
  | .memWr | .msg => (0, (t.len + 15) / 16)
  | .memRd => (1, 0)
  | .cpl => (2, (t.data.length + 15) / 16)

/-- Card credits that a Nicen transaction takes (R356). -/
def txnCards (y : Txn) : Nat := cardsFor y.data.length

/-- A HINT is consumed in the device: it takes no credit, and nothing of it leaves. -/
def Xact.isHint (x : Xact) : Bool :=
  match x.after with
  | .hint _ _ _ _ => true
  | _ => false

/-- The credits of x change: spent when its first card is dealt (R254), given back when it is then discarded. -/
def creditMove (s : State) (x : Xact) (spend : Bool) : State :=
  let seat (n : Nat) (v : Option Nat) : Option Nat := v.map (fun c => if spend then c - n else c + n)
  let link (l : List Nat) (i n : Nat) : List Nat := if spend then addAt l i n else subAt l i n
  if x.isHint then s
  else match x.what with
  | .tlp n t =>
    let (k, d) := tlpCredit t
    seatMod s n (fun z => { z with grant := listSet (listSet z.grant (2 * k) (seat 1 (z.grant.getD (2 * k) none))) (2 * k + 1) (seat d (z.grant.getD (2 * k + 1) none)) })
  | .nicen k y => linkTxMod s k (fun t => { t with pUsed := link (link t.pUsed (2 * x.cls) 1) (2 * x.cls + 1) (txnCards y) })
  | _ => s

/-- The rest of a transaction leaves its account and it is no longer dealt (R245, R260, R265); credits that it had taken were not
used. -/
def burnXact (s : State) (x : Xact) : State :=
  let s := toFlight (if x.dealt = 0 then s else creditMove s x false) x.acct (x.cards - x.dealt) x.kit
  match x.acct with
  | .landing p => freeCredits s p x.land
  | .fn _ | .owed => s

/-- Burn every waiting transaction that `p` picks. -/
def burnXacts (s : State) (p : Xact → Bool) : State :=
  let gone := s.xacts.filter p
  gone.foldl burnXact { s with xacts := s.xacts.filter (fun x => !p x) }

/-! ## Seat tags (R158 to R160) -/

/-- Tags of function f in use on seat n, quarantined ones included. -/
def seatTagsOf (s : State) (n f : Nat) : Nat := ((seatOf s n).tags.filter (fun p => p.2.fn == f)).length
def tagAnte (s : State) (f : Nat) : Nat := fldAt s (fnPg f + 0x130) 12 0
def tagCap (s : State) (f : Nat) : Nat := fldAt s (fnPg f + 0x130) 28 16
/-- Shared tags of seat n: what the antes leave (R159). -/
def sharedTags (s : State) (n : Nat) : Nat := 4096 - ((seatFns s n).map (tagAnte s)).sum
/-- Shared tags in use (R159). -/
def sharedUsed (s : State) (n : Nat) : Nat := ((seatFns s n).map (fun f => seatTagsOf s n f - tagAnte s f)).sum

/-- Reset value of the writable bits of the configuration dword at byte offset `o`: Extended Tag Field Enable is 1 (R160);
PRESUMED, the reset values of the PCI Express specification: Relaxed Ordering, No Snoop and a 512 B MRRS in Device Control, the
AER masks and severities, the Target Link Speed, System Page Size 1. -/
def cfgReset (o : Nat) : Word :=
  match o with
  | 0x58 => 0x2910#32 | 0x80 => 7#32 | 0x10C => 0x00462010#32 | 0x114 => 0x2000#32 | 0x188 => 1#32
  | _ => 0
/-- A stored configuration dword of f, at byte offset `o`. -/
def cfgAt (s : State) (f o : Nat) : Word := tabGet (cfgReset o) (fnOf s f).cfg (o / 4)
def cfgPut (s : State) (f o : Nat) (v : Word) : State :=
  fnMod s f (fun x => { x with cfg := tabPut (cfgReset o) x.cfg (o / 4) v })

/-- Tag size in use: 14, 10, 8 or 5 bits (R160): Device Control bit 8, Device Control 2 bit 12, Device Control 3 bit 2. -/
def tagBits (s : State) (n f : Nat) : Nat :=
  if bitOf (cfgAt s f 0x228) 2 && flagAt s (linkPg n + 0x110) 13 then 14
  else if bitOf (cfgAt s f 0x78) 12 then 10
  else if bitOf (cfgAt s f 0x58) 8 then 8 else 5

/-- Outstanding reads a tag size allows (R160). -/
def tagLimit (b : Nat) : Nat := if b = 14 then 4096 else if b = 10 then 768 else if b = 8 then 256 else 32

/-- The first pool index of a table that is not in use. -/
def freeIndex (t : Tab TagEnt) : Nat := ((List.range (t.length + 1)).find? (fun i => !(t.any (fun p => p.1 == i)))).getD 0

/-- Wire tags of a size, ascending (R160). -/
def wireTags (b : Nat) : List Nat := if b = 10 then numsFrom 0x100 0x300 else numsFrom 0 (tagLimit b)

/-- The wire tag of the next request of f on seat n with pool index `i`, and its generation (R160). -/
def nextWire (s : State) (n f i : Nat) : Nat :=
  let x := seatOf s n
  let b := tagBits s n f
  if b = 14 then (tabGet 0 x.gen i % 3 + 1) * 4096 + i
  else
    let used := (x.tags.filter (fun p => p.2.fn == f)).map (fun p => p.2.wire)
    let old := tabGet [] x.freed f
    match (wireTags b).find? (fun w => !(used.contains w) && !(old.contains w)) with
    | some w => w
    | none => (old.find? (fun w => !(used.contains w) && (wireTags b).contains w)).getD 0

/-- A request of f may take a tag of seat n (R159, R160). -/
def canTag (s : State) (n f : Nat) : Bool :=
  let h := seatTagsOf s n f
  decide (h < tagLimit (tagBits s n f)) && decide ((seatOf s n).tags.length < 4096) &&
    (decide (h < tagAnte s f) || (decide (h < tagCap s f) && decide (sharedUsed s n < sharedTags s n)))

/-- Take a tag of seat n for a request; the entry's wire tag is filled in. -/
def takeTag (s : State) (n : Nat) (e : TagEnt) : Nat × State :=
  let i := freeIndex (seatOf s n).tags
  let w := nextWire s n e.fn i
  (w, seatMod s n (fun x => { x with
    tags := tabIns x.tags i { e with wire := w },
    gen := if tagBits s n e.fn = 14 then tabPut 0 x.gen i (tabGet 0 x.gen i % 3 + 1) else x.gen,
    freed := tabMod [] x.freed e.fn (fun l => l.filter (· != w)) }))

/-- A tag of seat n returns to free (R158, R164). -/
def freeTag (s : State) (n i : Nat) : State :=
  seatMod s n (fun x =>
    match x.tags.find? (fun p => p.1 == i) with
    | some (_, e) => { x with tags := tabDel x.tags i, freed := tabMod [] x.freed e.fn (fun l => l.filter (· != e.wire) ++ [e.wire]) }
    | none => x)

/-- A tag of seat n moves to quarantine (R163, R164); its reservation is its request's ending's to release. -/
def quarTag (s : State) (n i : Nat) : State :=
  seatMod s n (fun x => { x with tags := x.tags.map (fun p => if p.1 = i then (i, { p.2 with quar := true, cards := 0, kit := 0 }) else p) })

/-! ## Link tags (R380 to R383) -/

/-- Tags of function f in use on link k. -/
def linkTagsOf (s : State) (k f : Nat) : Nat := ((linkTxOf s k).tags.filter (fun p => p.2.fn == f)).length
/-- A request of f may take a tag of link k (R380). -/
def canLinkTag (s : State) (k f : Nat) : Bool :=
  decide (linkTagsOf s k f < fldAt s (txnPg (6 + k) + 0x110) 12 0) && decide ((linkTxOf s k).tags.length < 4096)
/-- Take a tag of link k. -/
def takeLinkTag (s : State) (k : Nat) (e : TagEnt) : Nat × State :=
  let i := freeIndex (linkTxOf s k).tags
  (i, linkTxMod s k (fun x => { x with tags := tabIns x.tags i { e with wire := i } }))
/-- A tag of link k returns to free. -/
def freeLinkTag (s : State) (k i : Nat) : State := linkTxMod s k (fun x => { x with tags := tabDel x.tags i })
/-- A tag of link k moves to quarantine (R382); its reservation is its request's ending's to release. -/
def quarLinkTag (s : State) (k i : Nat) : State :=
  linkTxMod s k (fun x => { x with tags := x.tags.map (fun p => if p.1 = i then (i, { p.2 with quar := true, cards := 0, kit := 0 }) else p) })

/-- TAG of the next posted request on link k: the low 12 bits of the count sent (R362). -/
def postedTag (s : State) (k : Nat) : Nat × State :=
  ((linkTxOf s k).posted % 4096, linkTxMod s k (fun x => { x with posted := x.posted + 1 }))

end Sys2Proof.Machine
end

