-- ==== Sys2Proof/Machine/Decks.lean ====
section
/-! DEFINITION. Decks: sessions, staging, the report registers, arming, applying and aborting a cut (R84 to R105, R636, R637). -/

namespace Sys2Proof.Machine

def deckOf (s : State) (d : Nat) : Deck := tabGet Deck.idle s.decks d
def deckMod (s : State) (d : Nat) (g : Deck → Deck) : State := { s with decks := tabMod Deck.idle s.decks d g }
/-- Table offset of a deck register. -/
def deckReg (d o : Nat) : Nat := deckPg d + o
/-- State code of deck d (R88): 0 IDLE, 1 OPEN, 2 CHECKED, 3 COMMITTED, 4 ARMED. -/
def deckState (s : State) (d : Nat) : Nat := fldAt s (deckReg d 0x1A4) 6 4
def deckBusy (s : State) (d : Nat) : Bool := flagAt s (deckReg d 0x1A4) 0
def deckToken (s : State) (d : Nat) : Nat := fldAt s (deckReg d 0x1A4) 31 20
def deckOwner (s : State) (d : Nat) : Nat := fldAt s (deckReg d 0x1A4) 19 16
def setDeckState (s : State) (d v : Nat) : State := fldPut s (deckReg d 0x1A4) 6 4 v

/-- The requester is the deck's owner on its access path (R86). -/
def deckOwns (s : State) (d : Nat) (r : Req) : Bool :=
  decide (deckState s d ≠ 0) && deckOwner s d == r.code.val && (decide (6 ≤ r.code.val) || (deckOf s d).ownerFn == r.fn.val)

/-- The requester may own deck d (R85). -/
def deckMay (s : State) (d : Nat) (r : Req) : Bool :=
  trusted s r || (decide (d ≠ 0) && r.code.val == d - 1 && r.fn.val == d - 1)

/-- The deck whose scope holds the register at Table offset `off` (R84). -/
def scopeOf (s : State) (off : Nat) : Nat :=
  if 0x1000000 ≤ off ∧ off < 0x2000000 then
    match fnSeat s ((off - 0x1000000) / 0x1000) with
    | some n => n + 1
    | none => 0
  else 0

/-- A command of deck d ends: the report registers and DECK_RESULT (R96, R637). -/
def deckReport (s : State) (d op result viol rule code at_ : Nat) : State :=
  let s := fldPut (fldPut s (deckReg d 0x1A4) 11 8 op) (deckReg d 0x1A4) 3 2 result
  let m := setBits (setBits (setBits 0 31 24 (satNat 255 viol)) 23 12 rule) 11 0 code
  let s := regPut (regPut s (deckReg d 0x1B4) m) (deckReg d 0x1B8) (BitVec.ofNat 32 at_)
  setEvt s (deckPg d) 8

/-- The command in progress ends: BUSY clears and DECK_CMD.OP reads 0 (R92, R93). -/
def deckUnbusy (s : State) (d : Nat) : State := fldPut (fldPut s (deckReg d 0x1A4) 0 0 0) (deckReg d 0x1A0) 3 0 0
/-- A command is in progress. -/
def deckSetBusy (s : State) (d op : Nat) : State := fldPut (fldPut s (deckReg d 0x1A4) 0 0 1) (deckReg d 0x1A0) 3 0 op
/-- A command ends with OK. -/
def deckOk (s : State) (d op : Nat) : State := deckReport s d op 1 0 0 0 0
/-- A command is refused with a class-0x1 code: only the report registers change (R637). -/
def deckRefuse (s : State) (d op code : Nat) : State := deckReport s d op 2 1 636 code (deckReg d 0x1A0)

/-- The shadow of deck d is discarded and the session is gone; a SAVE that runs goes on (R106). -/
def deckClear (s : State) (d : Nat) : State :=
  let offs := (deckOf s d).shadow.map (fun p => p.1)
  let s := deckMod { s with parShadow := s.parShadow.filter (fun o => !offs.contains o) } d (fun _ => Deck.idle)
  let s := fldPut (fldPut (setDeckState s d 0) (deckReg d 0x1A4) 31 20 0) (deckReg d 0x1A4) 19 16 0
  if d = 0 ∧ s.store.save.isSome then s else deckUnbusy s d

/-- The disarm deadline of deck d has passed: trick 4,032 or later of the hand before its cut (R102). -/
def pastDisarm (s : State) (d : Nat) : Bool :=
  deckState s d == 4 && ((handNo s + 1) % 2 ^ 40 == (deckOf s d).target) && decide (4031 < trickNo s)

/-- The device abandons deck d (R91, R102): `op` is the command's OP, 0 when no command caused it. -/
def deckAbandon (s : State) (d op : Nat) : State :=
  if deckState s d = 0 then s
  else if pastDisarm s d then deckRefuse s d op 0x103
  else deckReport (deckClear s d) d op 2 1 91 0x105 (deckReg d 0x1A0)

/-- Decks owned by a host of seat n are abandoned when the seat is lost (R91). -/
def deckLoseSeat (s : State) (n : Nat) : State :=
  (List.range 7).foldl (fun s d => if deckState s d ≠ 0 ∧ deckOwner s d = n then deckAbandon s d 0 else s) s

/-- Decks owned through PF f are abandoned at its FLR (R91). -/
def deckLosePf (s : State) (f : Nat) : State :=
  (List.range 7).foldl (fun s d =>
    if deckState s d ≠ 0 ∧ deckOwner s d < 6 ∧ (deckOf s d).ownerFn = f then deckAbandon s d 0 else s) s

/-- The next session token: a counter that skips 0 (R90). -/
def nextToken (t : Nat) : Nat := if t % 4096 + 1 = 4096 then 1 else t % 4096 + 1

/-- The target hand of CUT_AT, or the code that refuses it: (rule, code, offset) (R101). -/
def cutTarget (s : State) (d : Nat) : Nat ⊕ (Nat × Nat × Nat) :=
  let h := handNo s
  let gap := if trickNo s ≤ 4031 then 1 else 2
  let early := (h + gap) % 2 ^ 40
  let asked := fldAt s (deckReg d 0x1AC) 7 0 * 2 ^ 32 + (regAt s (deckReg d 0x1A8)).toNat
  let next := flagAt s (deckReg d 0x1AC) 31
  let dist := (asked + 2 ^ 40 - h) % 2 ^ 40
  let t := if next then early else asked
  if !next && (decide (dist < gap) || decide (65536 < dist)) then .inr (101, 0x502, deckReg d 0x1A8)
  else if (List.range 7).any (fun e => decide (e ≠ d) && deckState s e == 4 && (deckOf s e).target == t) then
    .inr (101, 0x503, deckReg d 0x1BC)
  else .inl t

/-- The judged command acts (R88, R97, R100, R101). -/
def deckAct (s : State) (d : Nat) (r : Req) (op : Nat) : State :=
  match op with
  | 1 =>
    let t := nextToken s.tokenCtr
    let s := deckMod { s with tokenCtr := t } d (fun _ => { Deck.idle with ownerFn := r.fn.val })
    let s := fldPut (fldPut (setDeckState s d 1) (deckReg d 0x1A4) 31 20 t) (deckReg d 0x1A4) 19 16 r.code.val
    deckOk (fldPut s (deckReg d 0x1A4) 1 1 0) d 1
  | 2 => deckSetBusy (deckMod s d (fun x => { x with touched := false, verdict := none })) d 2
  | 3 =>
    deckSetBusy (deckMod s d (fun x => { x with touched := false, ref := regAt s (deckReg d 0x1A8), ident := regAt s (deckReg d 0x1B0) })) d 3
  | 4 =>
    match cutTarget s d with
    | .inl t => deckOk (setDeckState (deckMod s d (fun x => { x with target := t })) d 4) d 4
    | .inr (rule, code, at_) => deckReport s d 4 2 1 rule code at_
  | 5 | 6 => deckReport (deckClear s d) d op 2 1 91 0x105 (deckReg d 0x1A0)
  | _ => deckSetBusy s d 7

/-- House firmware runs or restarts: in ROM service and in ROM_ONLY no CHECK, COMMIT_CRC or SAVE is served (R543). -/
def houseRuns (s : State) : Bool := decide (fldAt s (hsePg + 0x120) 31 28 ≠ 0 ∧ fldAt s (hsePg + 0x120) 31 28 ≠ 4)

/-- Conditions of a command that passed the first six checks (R88, R102, R106). -/
def deckCond (s : State) (d op : Nat) : Bool :=
  let st := deckState s d
  match op with
  | 1 => true
  | 2 => st == 1 && houseRuns s
  | 3 => st == 2 && houseRuns s
  | 4 => st == 3
  | 5 | 6 => !pastDisarm s d
  | _ => !(List.range 7).any (fun e => deckState s e == 4) && houseRuns s

/-- A command written to DECK_CMD of deck d is judged in the order of R636, then acts. -/
def deckCmd (s : State) (d : Nat) (r : Req) (op tok : Nat) : State :=
  let st := deckState s d
  let carries := decide (2 ≤ op ∧ op ≤ 5) || (op == 7 && decide (st ≠ 0))
  if deckBusy s d then deckRefuse s d op 0x103
  else if op = 0 ∨ 7 < op ∨ (op = 7 ∧ d ≠ 0) then deckRefuse s d op 0x103
  else if !deckMay s d r || (op == 6 && decide (r.code.val ≠ 6 ∧ r.code.val ≠ 7)) then deckRefuse s d op 0x104
  else if op = 1 ∧ st ≠ 0 then deckRefuse s d op 0x101
  else if op ≠ 1 ∧ op ≠ 7 ∧ st = 0 then deckRefuse s d op 0x103
  else if carries && (decide (tok ≠ deckToken s d) || !deckOwns s d r) then deckRefuse s d op 0x102
  else if !deckCond s d op then deckRefuse s d op 0x103
  else deckAct s d r op

/-- The word a masked write of `v` makes of `w`. -/
def maskWrite (w m v : Word) : Word := (w &&& ~~~m) ||| (v &&& m)

/-- The value of a register in the configuration that deck d would produce (R97). -/
def prospective (s : State) (d : Nat) (off : Nat) : Word :=
  match (deckOf s d).shadow.find? (fun p => p.1 == off) with
  | some (_, w) => maskWrite (regAt s off) (stgMask off) w
  | none => regAt s off

/-- Stage bits `m` of `v` in the register at `off` for the requester (R75, R86, R89, R97). Answers none where the write
is dropped. -/
def stage (s : State) (r : Req) (off : Nat) (m v : Word) : Option State :=
  let d := scopeOf s off
  let st := deckState s d
  if (st = 1 ∨ st = 2 ∨ st = 3) ∧ deckOwns s d r then
    let w := maskWrite (prospective s d off) m v
    let s := { s with parShadow := s.parShadow.filter (· != off) }
    some (setDeckState (deckMod s d (fun x => { x with shadow := tabIns x.shadow off w, touched := deckBusy s d })) d 1)
  else none

/-- What a read of DECK_IND_DATA returns (R94, R95). -/
def indRead (s : State) (d : Nat) (r : Req) : Word :=
  let off := fldAt s (deckReg d 0x1C0) 26 2 * 4
  if deckOwns s d r then prospective s d off else regAt s off

/-- A write of DECK_IND_DATA: staged, or none where it is dropped (R94, R95). -/
def indWrite (s : State) (d : Nat) (r : Req) (m v : Word) : Option State :=
  let off := fldAt s (deckReg d 0x1C0) 26 2 * 4
  if deckOwns s d r && decide (stgMask off ≠ 0) && scopeOf s off == d then stage s r off (m &&& stgMask off) v else none

/-- A register whose shadow copy in deck d holds a parity mismatch (R78). -/
def badShadow (s : State) (d : Nat) : Option Nat :=
  ((deckOf s d).shadow.find? (fun p => s.parShadow.contains p.1)).map (fun p => p.1)

/-- CHECK of deck d ends: a staged write that arrived meanwhile, a shadow mismatch, the violations found, or CHECKED
(R88, R97, R98, R99, R637). `v` is (count, rule, code, offset), count 0 for none. DESIGN CHOICE (log entry 106): the staged write reports
RULE 97 at DECK_CMD. -/
def checkFinish (s : State) (d : Nat) (v : Nat × Nat × Nat × Nat) (gen : Nat) : State :=
  let touched := (deckOf s d).touched
  let s := deckUnbusy (deckMod s d (fun x => { x with verdict := none, touched := false })) d
  if touched then deckReport (setDeckState s d 1) d 2 2 0 97 0x103 (deckReg d 0x1A0)
  else match badShadow s d with
  | some o => deckReport (setDeckState s d 1) d 2 2 1 78 0x701 o
  | none =>
    if v.1 = 0 then deckOk (fldPut (setDeckState s d 2) (deckReg d 0x1BC) 31 16 gen) d 2
    else deckReport (setDeckState s d 1) d 2 2 v.1 v.2.1 v.2.2.1 v.2.2.2

/-- CHECK_GEN of deck d (R94). -/
def checkGen (s : State) (d : Nat) : Nat := fldAt s (deckReg d 0x1BC) 31 16

/-- COMMIT_CRC of deck d ends, `crc` being R80 over the prospective configuration (R100). -/
def commitFinish (s : State) (d : Nat) (crc : Word) : State :=
  let x := deckOf s d
  let s := deckUnbusy (deckMod s d (fun x => { x with touched := false })) d
  if x.touched then deckReport (setDeckState s d 1) d 3 2 0 97 0x103 (deckReg d 0x1A0)
  else if s.gen ≠ checkGen s d then deckReport (setDeckState s d 1) d 3 2 1 100 0x503 (deckReg d 0x1BC)
  else if crc ≠ x.ref then deckReport (setDeckState s d 1) d 3 2 1 100 0x601 (deckReg d 0x1A8)
  else deckOk (setDeckState s d 3) d 3

/-- Why the armed cut of deck d is aborted: (rule, code, offset) (R103). -/
def cutBlock (s : State) (d : Nat) : Option (Nat × Nat × Nat) :=
  if s.gen ≠ checkGen s d then some (103, 0x503, deckReg d 0x1BC)
  else (badShadow s d).map (fun o => (78, 0x701, o))

/-- The cut of deck d is aborted: the shadow is kept and the deck is OPEN (R103). -/
def cutAbort (s : State) (d : Nat) (why : Nat × Nat × Nat) : State :=
  deckReport (setDeckState s d 1) d 4 2 1 why.1 why.2.1 why.2.2

/-- Every shadow value of deck d becomes live (R104). -/
def applyShadow (s : State) (sh : Tab Word) : State :=
  let offs := sh.map (fun p => p.1)
  let s := { s with parLive := s.parLive.filter (fun o => !offs.contains o), parShadow := s.parShadow.filter (fun o => !offs.contains o) }
  sh.foldl (fun s p => regPut s p.1 (maskWrite (regAt s p.1) (stgMask p.1) p.2)) s

/-- The cut of deck d applies (R104). -/
def cutApply (s : State) (d : Nat) : State :=
  let x := deckOf s d
  let s := applyShadow s x.shadow
  let s := fldPut (regPut s 0x180 x.ref) 0x188 31 31 0
  let s := { s with gen := (s.gen + 1) % 65536, activeId := x.ident }
  let s := fldPut (deckClear s d) (deckReg d 0x1A4) 1 1 1
  setEvt s (deckPg d) 8

/-! ## The configuration a deck would produce (R97), ports it holds down (R123) -/

/-- The state with the shadow of deck d in place: its registers are the configuration that d would produce (R97). -/
def wouldBe (s : State) (d : Nat) : State := applyShadow s (deckOf s d).shadow
/-- The deck moves group g (R21). -/
def groupMoves (s v : State) (g : Nat) : Bool :=
  lgRole s g != lgRole v g || ((lgRole s g == 2 || lgRole v g == 2) && lgLink s g != lgLink v g)
/-- Ports that a moved group leaves or joins. -/
def movedPorts (s v : State) (g : Nat) : List Nat :=
  if groupMoves s v g then (groupPort s g).toList ++ (groupPort v g).toList else []
/-- Port p is held down by the Table deck, which moves a lane group of it and has passed CHECK (R123). -/
def portHeld (s : State) (p : Nat) : Bool :=
  decide (2 ≤ deckState s 0) && (let v := wouldBe s 0; (List.range 12).any (fun g => (movedPorts s v g).contains p))

/-! ## Configuration CRC (R79, R80) -/

/-- One step of the bit loop of feed8 (R80). -/
def crcBit (c : Word) : Word := if bitOf c 0 then (c >>> 1) ^^^ 0x82F63B78#32 else c >>> 1
/-- feed8 (R80). -/
def crc8 (c : Word) (b : Byte) : Word :=
  let c := c ^^^ b.setWidth 32
  crcBit (crcBit (crcBit (crcBit (crcBit (crcBit (crcBit (crcBit c)))))))
/-- feed32: the four bytes, the least significant first (R80). -/
def crc32 (c w : Word) : Word := (wordBytes w).foldl crc8 c
/-- CRC-32C over bytes with initial value and final XOR of all ones (R106, R526). -/
def crcBytes (bs : List Byte) : Word := bs.foldl crc8 0xFFFFFFFF#32 ^^^ 0xFFFFFFFF#32

/-- Page numbers that the configuration CRC covers, ascending (R79). -/
def crcPages : List Nat := (List.range 0x200) ++ numsFrom 0x1000 0x1000

/-- Offsets of a page's registers with STG fields, ascending (R80). R413 makes every word of EVR.ROUTE such a register, those of reserved bytes
alone too (log entry 65). -/
def stgOffs (k : PageKind) : List Nat :=
  ((List.range 0x1C0).map (fun i => 0x100 + 4 * i)).filter (fun o =>
    match pageFlds k o with
    | some fs => decide (accMask fs [.stg] ≠ 0 ∨ (k = .evr ∧ 0x200 ≤ o ∧ o < 0x400))
    | none => false)

/-- Table offsets of every register the CRC feeds, in order (R80). -/
def crcOffs : List Nat :=
  crcPages.flatMap (fun pg => match pageKindOf pg with
    | some k => (stgOffs k).map (fun o => pg * 0x1000 + o)
    | none => [])

/-- The configuration CRC over the values `val` gives (R80). -/
def configCrc (val : Nat → Word) : Word :=
  crcOffs.foldl (fun c o => crc32 (crc32 c (BitVec.ofNat 32 o)) (val o &&& stgMask o)) 0xFFFFFFFF#32 ^^^ 0xFFFFFFFF#32

/-- The CRC of the live configuration. -/
def liveCrc (s : State) : Word := configCrc (regAt s)
/-- The CRC of the configuration deck d would produce (R100). -/
def deckCrc (s : State) (d : Nat) : Word := configCrc (prospective s d)

end Sys2Proof.Machine
end

