-- ==== Sys2Proof/Machine/Stream.lean ====
section
/-! DEFINITION. What a Nicen Link sends: control blocks and the quick burst (R322, R341), the transaction stream (R355 to R357), and
the frames that carry it (R332, R333, R336). -/

namespace Sys2Proof.Machine

/-! ## Checks and codes over bytes -/

/-- One bit of the CRC-16 of R322: polynomial 0x1021, most significant bit first. -/
def crc16Bit (c : Nat) : Nat := if c.testBit 15 then Nat.xor (2 * c) 0x1021 % 65536 else 2 * c
/-- One byte of the CRC-16 of R322. -/
def crc16Byte (c : Nat) (b : Byte) : Nat :=
  let c := Nat.xor c (b.toNat * 256)
  crc16Bit (crc16Bit (crc16Bit (crc16Bit (crc16Bit (crc16Bit (crc16Bit (crc16Bit c)))))))
/-- The CRC-16 of R322 and R244: initial value 0xFFFF, no final XOR. -/
def crc16 (l : List Byte) : Nat := l.foldl crc16Byte 0xFFFF

/-- One bit of the frame CRC-32 (R333): reflected polynomial 0xEDB88320. -/
def frameCrcBit (c : Nat) : Nat := if c.testBit 0 then Nat.xor (c / 2) 0xEDB88320 else c / 2
/-- One byte of the frame CRC-32. -/
def frameCrcByte (c : Nat) (b : Byte) : Nat :=
  frameCrcBit (frameCrcBit (frameCrcBit (frameCrcBit (frameCrcBit (frameCrcBit (frameCrcBit (frameCrcBit (Nat.xor c b.toNat))))))))
/-- The frame CRC-32 (R333). -/
def frameCrc (l : List Byte) : Nat := Nat.xor (l.foldl frameCrcByte 0xFFFFFFFF) 0xFFFFFFFF

/-- Multiply by α = 0x02 in GF(2^8) with x^8 + x^4 + x^3 + x^2 + 1 (R333). -/
def gfTwice (a : Nat) : Nat := if a.testBit 7 then Nat.xor (2 * a) 0x11D % 256 else 2 * a
/-- a · b in GF(2^8), over the `n` low bits of b, most significant first. -/
def gfMulBits (a b : Nat) : Nat → Nat
  | 0 => 0
  | n + 1 => Nat.xor (if b.testBit 0 then a else 0) (gfTwice (gfMulBits a (b / 2) n))
/-- a · b in GF(2^8) (R333). -/
def gfMul (a b : Nat) : Nat := gfMulBits a b 8

/-- A polynomial over GF(2^8), highest degree first, times (x − c). -/
def gfTimes (p : List Nat) (c : Nat) : List Nat := List.zipWith Nat.xor (p ++ [0]) (0 :: p.map (gfMul c))
/-- The generator (x − α^0)(x − α^1)(x − α^2)(x − α^3) without its leading 1 (R333). -/
def rsGen : List Nat := ([1, 2, 4, 8].foldl gfTimes [1]).drop 1
/-- One more symbol of a systematic codeword: the remainder of degree below 4, highest first. -/
def rsStep (r : List Nat) (b : Byte) : List Nat :=
  let f := Nat.xor (r.headD 0) b.toNat
  List.zipWith Nat.xor (r.drop 1 ++ [0]) (rsGen.map (gfMul f))
/-- The four parity symbols of one interleave (R333). -/
def rsParity (l : List Byte) : List Nat := l.foldl rsStep [0, 0, 0, 0]

/-- Every other byte of a list: the E interleave of R333; of the list without its first byte, the O interleave. -/
def everyOther : List Byte → List Byte
  | a :: _ :: r => a :: everyOther r
  | l => l
/-- The eight parity bytes P0 to P7 of 256 bytes (R333). -/
def frameParity (l : List Byte) : List Byte :=
  (List.zipWith (fun a b => [BitVec.ofNat 8 a, BitVec.ofNat 8 b]) (rsParity (everyOther l)) (rsParity (everyOther (l.drop 1)))).flatten

/-! ## Control blocks (R318, R322, R341) -/

/-- A control block's payload: TYPE, the fields, 0x00 to byte 29, the CRC-16 low byte first (R322). -/
def controlBlock (kind : Nat) (fields : List Byte) : List Byte :=
  let b := (BitVec.ofNat 8 kind :: fields ++ List.replicate 29 0#8).take 30
  b ++ natLe 2 (crc16 b)

/-- Send a control block of link k on some lanes. -/
def sendBlock (s : State) (k : Nat) (lanes : List Nat) (kind : Nat) (fields : List Byte) : State := emit s (.row k lanes (controlBlock kind fields))

/-- `n` more bits of PRBS13, x^13 + x^12 + x^2 + x + 1, after the last 13 (newest first). -/
def prbs13 : Nat → List Bool → List Bool
  | 0, _ => []
  | n + 1, r =>
    let b := (r.getD 0 false != r.getD 1 false) != (r.getD 11 false != r.getD 12 false)
    r.getD 12 false :: prbs13 n ((b :: r).take 13)
/-- The quick burst: 1,024 UI of PRBS13, seeded all ones; two bits in each UI at PAM4 (R341). DESIGN CHOICE (log entry 94): the seed is
what comes out first. -/
def quickBurst (pam4 : Bool) : List Bool := prbs13 (if pam4 then 2048 else 1024) (List.replicate 13 true)

/-! ## The transaction stream (R355 to R357) -/

/-- The 128-bit header of a transaction (R357). -/
def headerBits (x : Txn) : Nat :=
  x.type % 32 * 2 ^ 123 + x.cls % 4 * 2 ^ 121 + b2n x.poison * 2 ^ 120 + x.attr % 8 * 2 ^ 117 + x.status % 8 * 2 ^ 114 + x.seat % 8 * 2 ^ 111 +
  x.fn % 4096 * 2 ^ 99 + x.tag % 4096 * 2 ^ 87 + x.len % 128 * 2 ^ 80 + x.last % 64 * 2 ^ 74 + b2n x.posted * 2 ^ 73 + x.ep % 2 ^ 24 * 2 ^ 48 +
  x.off % 2 ^ 48

/-- The bytes of a transaction in the stream: header, payload, 0x00 to a multiple of 8 (R355). -/
def txnBytes (x : Txn) : List Byte :=
  natLe 16 (headerBits x) ++ x.data ++ List.replicate ((8 - x.data.length % 8) % 8) 0#8

/-! ## Frames (R332, R336, R337) -/

def physOf (s : State) (k : Nat) : LinkPhy := tabGet LinkPhy.idle s.phys k
def physMod (s : State) (k : Nat) (g : LinkPhy → LinkPhy) : State := { s with phys := tabMod LinkPhy.idle s.phys k g }
/-- NLK.LINK_STAT of link k. -/
def nlkStat (k : Nat) : Nat := linkPg (6 + k) + 0x110
/-- State code of Nicen Link k (R324): 5 is ACTIVE. -/
def nlkState (s : State) (k : Nat) : Nat := fldAt s (linkPg (6 + k) + 0x110) 31 28
/-- Link k is ACTIVE. -/
def linkActive (s : State) (k : Nat) : Bool := nlkState s k == 5

/-- Units of a frame (R332). -/
def frameUnits : Nat := 31
/-- Unacknowledged frames that the transmitter may hold (R336). -/
def replayLimit : Nat := 4095

/-- The 264 bytes of a frame: control word, units, CRC-32, parity (R332). -/
def frameBytes (seq ack : Nat) (nak empty : Bool) (data : List Byte) : List Byte :=
  let c := natLe 4 (seq % 4096 * 2 ^ 20 + ack % 4096 * 2 ^ 8 + b2n nak * 2 ^ 7 + b2n empty * 2 ^ 6 + data.length / 8 % 32)
  let b := c ++ (data ++ List.replicate (8 * frameUnits) 0#8).take (8 * frameUnits)
  let b := b ++ natLe 4 (frameCrc b)
  b ++ frameParity b

/-- A frame leaves link k. It carries the ACK that is owed, and the NAK, which is counted when it is sent (R336, R337, R353). -/
def frameOut (s : State) (k seq : Nat) (empty : Bool) (data : List Byte) : State :=
  let x := physOf s k
  let s := emit s (.frame k (frameBytes seq x.rxSeq x.nak empty data))
  let s := if x.nak then bump s (linkPg (6 + k) + 0x40C) else s
  physMod s k (fun y => { y with owe := false, nak := false, nakAt := if x.nak then s.time.toNat else y.nakAt })

/-- The next units of the stream leave in a frame, which waits in the replay buffer for its acknowledgement (R332, R336). -/
def sendFrame (s : State) (k : Nat) : State :=
  let x := physOf s k
  let d := x.stream.take (8 * frameUnits)
  let f : SentFrame := { seq := x.seq, time := s.time.toNat, last := x.framed + d.length / 8, data := d }
  frameOut (physMod s k (fun y => { y with stream := y.stream.drop (8 * frameUnits), framed := f.last, seq := (y.seq + 1) % 4096, unacked := y.unacked ++ [f] })) k f.seq false d

/-- `n` frames leave. -/
def sendFrames : Nat → State → Nat → State
  | 0, s, _ => s
  | n + 1, s, k => sendFrames n (sendFrame s k) k

/-- Link k sends frames: LINKUP or ACTIVE, its transmit direction not idle (R324, R340). -/
def linkSends (s : State) (k : Nat) : Bool := (nlkState s k == 4 || linkActive s k) && !flagAt s (nlkStat k) 9

/-- Send what is ready: frames while the replay buffer has room (R336); with no content, one EMPTY frame for an ACK or a NAK that is
owed (R332, R337). Further EMPTY frames, which fill the time, are not kept (log entry 39). -/
def pump (s : State) (k : Nat) : State :=
  if linkSends s k then
    let x := physOf s k
    let s := sendFrames (min (replayLimit - x.unacked.length) ((x.stream.length + 8 * frameUnits - 1) / (8 * frameUnits))) s k
    let y := physOf s k
    if y.owe || y.nak then frameOut s k y.seq true [] else s
  else s

/-- A transaction takes its place in link k's stream, right after the one before it (R355). -/
def nicenPut (s : State) (k : Nat) (x : Txn) : State :=
  let b := txnBytes x
  pump (physMod (emit s (.nicen k x)) k (fun y => { y with stream := y.stream ++ b, placed := y.placed + b.length / 8 })) k

/-- Every unacknowledged frame is sent again, with the ACK of now (R336, R338). -/
def replayFrames (s : State) (k : Nat) : State :=
  let x := physOf s k
  let n := x.unacked.length
  let s := physMod s k (fun y => { y with unacked := y.unacked.map (fun f => { f with time := s.time.toNat }), rttNow := (y.rttNow.1, y.rttNow.2.1, y.rttNow.2.2 + n) })
  x.unacked.foldl (fun s f => frameOut s k f.seq false f.data) (bumpBy s (linkPg (6 + k) + 0x414) n)

end Sys2Proof.Machine
end

