-- ==== Sys2Proof/Machine/Ends.lean ====
section
/-! DEFINITION. How requests end: AER reports (R434), answers to hosts and to the fabric, errors of running descriptors, and
what happens to outstanding requests when a timer, a fold, a link loss or an FLR ends them (R163, R166, R382, R384, R431). -/

namespace Sys2Proof.Machine

/-- LTSSM code of seat n (R174): 3 is L0. -/
def ltssm (s : State) (n : Nat) : Nat := fldAt s (linkPg n + 0x110) 31 28
/-- The seat's data link layer is DL_Active (R174). -/
def dlUp (s : State) (n : Nat) : Bool := flagAt s (linkPg n + 0x110) 0

/-- LINK_STAT of seat n. -/
def linkStat (n : Nat) : Nat := linkPg n + 0x110
/-- FLIT mode (R174). -/
def flitMode (s : State) (n : Nat) : Bool := flagAt s (linkStat n) 13

/-- Status bit of an AER error: true and the bit of Uncorrectable Error Status, or false and the bit of Correctable Error
Status. PRESUMED: the bit places of the PCI Express specification. -/
def aerBit : AerErr → Bool × Nat
  | .receiver => (false, 0) | .badTlp => (false, 6) | .badDllp => (false, 7) | .replayRollover => (false, 8)
  | .replayTimeout => (false, 12) | .advisory => (false, 13)
  | .dataLink => (true, 4) | .poisoned => (true, 12) | .flowControl => (true, 13) | .cplTimeout => (true, 14)
  | .completerAbort => (true, 15) | .unexpectedCpl => (true, 16) | .overflow => (true, 17) | .malformed => (true, 18)
  | .ecrc => (true, 19) | .unsupported => (true, 20) | .internal => (true, 22) | .ideCheck => (true, 28)
  | .ideMisrouted => (true, 29) | .idePcrc => (true, 30)

/-- The message that signals an AER error of f (R433): 0 ERR_COR, 1 ERR_NONFATAL, 2 ERR_FATAL; none where its mask or the reporting enables,
a VF's those of its PF, keep it back. PRESUMED: Device Control [2:0], SERR# Enable, the masks and severities of the PCI Express
specification. -/
def aerLevel (s : State) (f : Nat) (e : AerErr) : Option Nat :=
  let (unc, b) := aerBit e
  let ctl := cfgAt s (pfOf s f) 0x58
  let serr := bitOf (cfgAt s (pfOf s f) 0x04) 8
  if !unc then (if bitOf (cfgAt s f 0x114) b || !bitOf ctl 0 then none else some 0)
  else if bitOf (cfgAt s f 0x108) b then none
  else if bitOf (cfgAt s f 0x10C) b then (if bitOf ctl 2 || serr then some 2 else none)
  else if bitOf ctl 1 || serr then some 1 else none

/-- First Error Pointer and Header Log take an unmasked uncorrectable error while they hold none (R433). The header is an open value: no
command brings it. PRESUMED: the pointer's place, AER Capabilities and Control [4:0]. -/
def aerFirst (s : State) (f : Nat) (e : AerErr) : State :=
  let (unc, b) := aerBit e
  let w := cfgAt s f 0x118
  if !unc || bitOf (cfgAt s f 0x108) b || bitOf (cfgAt s f 0x104) (bits w 4 0) then s
  else
    let (n, s) := freshFree (cfgPut s f 0x118 (setBits w 4 0 b))
    fnMod s f (fun x => { x with header := n + 1 })

/-- Bits of Device Status that an error sets: correctable, non-fatal or fatal detected, unsupported request. PRESUMED, as above. -/
def aerDetected (s : State) (f : Nat) (e : AerErr) : Word :=
  let (unc, b) := aerBit e
  let k := if !unc then 16 else if bitOf (cfgAt s f 0x10C) b then 18 else 17
  setBit (maskOf k k) 19 (e == .unsupported)

/-- Report an AER error on function f (R433, R434): its status bits, the logs, and the message that signals it. -/
def aer (s : State) (f : Nat) (e : AerErr) : State :=
  let (unc, b) := aerBit e
  let o := if unc then 0x104 else 0x110
  let say := aerLevel s f e
  let s := aerFirst s f e
  let s := cfgPut s f 0x58 (cfgAt s f 0x58 ||| aerDetected s f e)
  let s := cfgPut s f o (cfgAt s f o ||| maskOf b b)
  say.elim s (fun l => emit s (.aer f e l))

/-- Report an error as an Advisory Non-Fatal one (R434). -/
def aerAdvisory (s : State) (f : Nat) (e : AerErr) : State :=
  let (_, b) := aerBit e
  aer (cfgPut s f 0x104 (cfgAt s f 0x104 ||| maskOf b b)) f .advisory

/-- A packet with nothing but kind, function and address. -/
def tlp0 (kind : TlpKind) (fn addr len : Nat) : Tlp :=
  { kind := kind, fn := fn, addr := addr, len := len, tag := 0, status := 0, poison := false, attr := 0, data := [] }

/-- A transaction that DMA or MSI-X presents. -/
def xact0 (dst fn cls cards : Nat) (what : Emit) : Xact :=
  { src := 15, dst := dst, fn := fn, cls := cls, cards := cards, dealt := 0, wait := 0, trump := false, isCpl := false, stamp := 0, posted := false, acct := .owed, land := none, what := what, ask := none, after := .none }

/-- Bytes of replay buffer that a packet takes (R156). PRESUMED, the PCI Express specification: a FLIT is 256 B with 236 B for TLPs; a TLP has
a header of 16 B, a sequence number and an LCRC. DESIGN CHOICE: a packet starts a FLIT of its own (log entry 100). -/
def sendBytes (s : State) (n : Nat) (t : Tlp) : List Nat :=
  if flitMode s n then List.replicate ((16 + t.data.length + 235) / 236) 256 else [16 + t.data.length + 8]

/-- Unacknowledged FLITs or TLPs that the sequence numbers permit. PRESUMED, the PCI Express specification: 1,024 numbers for FLITs, 4,096 for
TLPs, of which half may be outstanding. -/
def seqSpace (s : State) (n : Nat) : Nat := if flitMode s n then 512 else 2048

/-- A packet left the seat, as FLITs or as a TLP: each waits for its acknowledgement (R156). -/
def sentFlit (s : State) (n : Nat) (t : Tlp) : State :=
  let m := 2 * seqSpace s n
  (sendBytes s n t).foldl (fun s b => seatMod s n (fun x => { x with unacked := x.unacked ++ [(x.seq, s.time.toNat, b)], seq := (x.seq + 1) % m })) s

/-- The seat puts an ECRC on what it transmits: in non-FLIT mode, with ECRC Generation Enable in its PF (R167). PRESUMED: bit 6 of the AER
Capabilities and Control register, the PCI Express specification. -/
def genEcrc (s : State) (n : Nat) : Bool := !flitMode s n && bitOf (cfgAt s n 0x118) 6

/-- A packet leaves on seat n. -/
def sendTlp (s : State) (n : Nat) (t : Tlp) : State :=
  let t := { t with ecrc := genEcrc s n }
  sentFlit (emit s (.tlp n t)) n t

/-- Answer a register access of function f on seat n from the seat's own tile: completion status 0 SC, 1 UR, 2 RRS, 4 CA. -/
def hostCpl (s : State) (n f tag status : Nat) (poison : Bool) (data : List Byte) : State :=
  sendTlp s n { tlp0 .cpl f 0 data.length with tag := tag, status := status, poison := poison, data := data }

/-- An error completion for a host goes before the Dealer: one card of Completion class (R243, R250). The Dealer deals nothing to a
folded seat (R265): there the answer leaves at once (DEDUCED from R265 with R416), and its card is burned. With the link down nobody is
left to answer. -/
def errCpl (s : State) (n f tag status src : Nat) (acct : Acct) (kit : Nat) (land : Option (Nat × Nat)) : State :=
  let t : Tlp := { tlp0 .cpl f 0 0 with tag := tag, status := status }
  let x : Xact := { xact0 n f 2 1 (.tlp n t) with src := src, acct := acct, kit := kit, land := land, bare := true }
  if !dlUp s n then burnXact s x
  else if folded s n then burnXact (sendTlp s n t) x
  else enqueue s x

/-- A host request of seat n that the device refuses as it arrives: its own card carries the answer (R215, R250). -/
def refuseCpl (s : State) (n f tag status c d : Nat) : State := errCpl (land s n 1 c d) n f tag status n (.landing n) 0 (some (c, d))

/-- A Nicen header with nothing in it but type, class, source and tag. -/
def txn0 (type cls seat fn tag : Nat) : Txn :=
  { type := type, cls := cls, poison := false, attr := 0, status := 0, seat := seat, fn := fn, tag := tag, len := 0, last := 0, posted := false, ep := 0, off := 0, data := [] }

/-- LEN and LAST of n payload or requested bytes (R356). -/
def lenOf (n : Nat) : Nat := (n + 63) / 64
def lastOf (n : Nat) : Nat := n % 64

/-- The answer CPL of the device to an HRD or to a refused posted request (R366, R367). -/
def answerCpl (cls seat fn tag status reason : Nat) (posted poison : Bool) (data : List Byte) : Txn :=
  { txn0 0x03 cls seat fn tag with status := status, posted := posted, poison := poison, ep := reason * 2 ^ 20, len := lenOf data.length, last := lastOf data.length, data := data }

/-- Link k is ACTIVE or retrains: what it is to send then leaves with the first frames after the retrain (R348, R432). -/
def linkUp (s : State) (k : Nat) : Bool := linkActive s k || flagAt s (nlkStat k) 10

/-- Send a transaction on link k while it is ACTIVE. -/
def nicenSend (s : State) (k : Nat) (x : Txn) : State := if linkActive s k then nicenPut s k x else s

/-- An answer of the device on link k goes before the Dealer: one card of Completion class, or trump where it answers a trump request
(R243, R250, R252). A folded link, and an answer that a fold causes, do not wait for the Dealer, which deals nothing there (DEDUCED from
R265 with R389); with the link not ACTIVE nobody is left to answer. -/
def linkAnswer (s : State) (k src f : Nat) (acct : Acct) (kit : Nat) (land : Option (Nat × Nat)) (y : Txn) : State :=
  let x : Xact := { xact0 (6 + k) f 2 1 (.nicen k y) with src := src, acct := acct, kit := kit, land := land, isCpl := y.cls == 0, trump := y.cls == 0, bare := true }
  if !linkActive s k then burnXact s x
  else if folded s (6 + k) || (y.status == 6 && y.ep == 8 * 2 ^ 20) then burnXact (nicenPut s k y) x
  else enqueue s x

/-- A trump transaction of ingress port `i` is demoted (R251, R271, R277): its reason's counter. -/
def countDemote (s : State) (i cnt : Nat) : State :=
  let s := tally (setEvt (bump s (dlrPg + cnt)) dlrPg 8) 6 i 1
  { s with dealer := { s.dealer with demoted := tabMod 0 s.dealer.demoted i (· + 1) } }

/-- The reservation of a request that has ended is released (R163, R382). -/
def endCards (s : State) (e : TagEnt) : State := if e.cards = 0 then s else releaseCards s e.fn e.cards e.kit

/-- One card of an ended request's reservation stays and carries its answer: the card's account and kitty part. -/
def keepCard (s : State) (e : TagEnt) : (Acct × Nat) × State :=
  if e.cards = 0 then ((.owed, 0), s)
  else
    let k := if e.kit = e.cards then 1 else 0
    ((.fn e.fn, k), releaseCards (useReserve s e.fn 1) e.fn (e.cards - 1) (e.kit - k))

/-- Cards that hold data of an HRD from now on. -/
def hrdHold (s : State) (k tag : Nat) (e : TagEnt) : State :=
  if (linkTxOf s k).hrds.any (fun h => h.tag == tag) then
    linkTxMod (useReserve s e.fn e.cards) k (fun x => { x with hrds := x.hrds.map (fun h => if h.tag == tag then { h with cards := h.cards + e.cards, kit := h.kit + e.kit } else h) })
  else endCards s e

/-- An HRD is answered without data and its tag is no longer outstanding (R368, R369); one of its cards carries the answer. An HRD that
is answered already is not answered again. -/
def hrdAnswer (s : State) (k tag f status reason : Nat) : State :=
  match (linkTxOf s k).hrds.find? (fun h => h.tag == tag) with
  | some h =>
    let s := linkTxMod s k (fun x => { x with hrds := x.hrds.filter (fun h => h.tag != tag) })
    let kit := if h.kit = h.cards then min 1 h.cards else 0
    let s := toFlight s (.fn f) (h.cards - 1) (h.kit - kit)
    linkAnswer s k 15 f (if h.cards = 0 then .owed else .fn f) kit none
      (answerCpl (if h.cls = 0 then 0 else 2) ((fnSeat s f).getD 7) f tag status reason false false [])
  | none => s

/-! ## Running descriptors -/

/-- Change the started descriptor with SQ index `i` of queue pair k. -/
def runMod (s : State) (k i : Nat) (g : Run → Run) : State :=
  queueMod s k (fun q => { q with running := q.running.map (fun r => if r.desc.idx = i then g r else r) })

/-- The boundary at which what happens in this trick is accounted for (R293). -/
def nextBoundary (s : State) : Nat := (s.time + 40).toNat

/-- A started descriptor ends with an error at place `o` of its data (R215, R299): what lies before it still moves, nothing at it or after
it does. The first error gives the status. -/
def runErr (s : State) (k i o status reason : Nat) : State :=
  let s := burnXacts s (fun x => x.ofRun k i o)
  runMod s k i (fun r =>
    if r.done.isSome then r
    else match r.stop with
    | some p => { r with stop := some (min p o), last := nextBoundary s }
    | none => { r with status := status, reason := reason, stop := some o, last := nextBoundary s })

/-- `bytes` of a started descriptor have reached their destination (R299). -/
def runMoved (s : State) (k i bytes : Nat) : State :=
  runMod s k i (fun r => { r with moved := r.moved + bytes, last := nextBoundary s })

/-- Data of a started descriptor was delivered poisoned (R299). -/
def runPoisoned (s : State) (k i : Nat) : State :=
  runMod s k i (fun r => if r.status = 0 ∧ r.done.isNone then { r with status := 0x08 } else r)

/-- Frames of link k are acknowledged up to unit `u` of its stream: the transactions that end there or before have been delivered
(R293, R299). -/
def framesAcked (s : State) (k u : Nat) : State :=
  let hit (f : Nat × Nat × Nat × Nat) : Bool := f.1 == k && decide (f.2.1 ≤ u)
  { s with queues := s.queues.map (fun p => (p.1, { p.2 with running := p.2.running.map (fun r =>
      if r.frames.any hit then { r with frames := r.frames.filter (fun f => !hit f), moved := r.moved + ((r.frames.filter hit).map (fun f => f.2.2.2)).sum, last := nextBoundary s }
      else r) })) }

/-- Link k went down or folded with transactions of started descriptors that no acknowledged frame covers: they end with FABRIC_DOWN
(R299, R306). -/
def framesLost (s : State) (k : Nat) : State :=
  s.queues.foldl (fun s p => p.2.running.foldl (fun s r =>
    match (r.frames.filter (fun f => f.1 == k)).map (fun f => f.2.2.1) with
    | [] => s
    | o :: l => runMod (runErr s p.1 r.desc.idx (l.foldl min o) 0x0A 0) p.1 r.desc.idx (fun x => { x with frames := x.frames.filter (fun f => f.1 != k) })) s) s

/-- A fetch ended badly (R290). A fetch that RESUME, an FLR or a fold has given up (count 0) ends nothing. -/
def fetchFail (s : State) (k i cnt : Nat) : State :=
  if cnt = 0 then s else queueMod s k (fun q => if q.fetching = 0 then q else { q with arrived := some (i, none) })

/-- The opcode of a descriptor (R287). -/
def Desc.op (d : Desc) : Nat := leNat (d.raw.take 4) % 256

/-- Function f lost dirty bits: LOST, and LOG_LOST for every LOG_BARRIER of f that has started and is not reported (R237,
R238). -/
def logLost (s : State) (f : Nat) : State :=
  let s := hwSetBits s (fnPg f + 0x158) (maskOf 30 30)
  let s := { s with queues := s.queues.map (fun p => if p.2.fn = f then (p.1, { p.2 with running := p.2.running.map (fun r => if r.desc.op = 5 then { r with status := 0x0C } else r) }) else p) }
  bump (setEvt s xltPg 12) (xltPg + 0x428)

/-- The bits of the dirty line with number `ser` are discarded: they count as flushed (R237). -/
def loseSer (s : State) (f ser : Nat) : State :=
  if s.xlt.lines.any (fun d => d.ser == ser) then
    logLost { s with xlt := { s.xlt with lines := s.xlt.lines.filter (fun d => d.ser != ser) } } f
  else s

/-- How a request can end other than by its completion. -/
inductive Ending | timeout | fold | down | flr | hostUr | hostCa
  deriving DecidableEq, Repr

/-- Report the ending of a seat request to what asked for it (R163, R166, R204, R368, R290, R284, R237). -/
def endSeatReq (s : State) (e : TagEnt) (x : Ending) : State :=
  match e.why with
  | .dma k i o =>
    let s := endCards s e
    match x with
    | .timeout => runErr s k i o 0x04 0
    | .hostUr | .hostCa => runErr s k i o 0x05 0
    | .fold | .flr => s
    | .down => runErr s k i o 0x05 0
  | .fetch k i c =>
    let s := endCards s e
    match x with
    | .fold | .flr => queueMod s k (fun q => { q with fetching := 0 })
    | _ => fetchFail s k i c
  | .ctx k =>
    let s := endCards s e
    match x with
    | .flr => s
    | _ => queueMod s k (fun q => if q.st = 1 then { q with loaded := some none } else q)
  | .hrd k t _ =>
    let s := hrdHold s k t e
    match x with
    | .timeout => hrdAnswer s k t e.fn 3 0
    | .fold => hrdAnswer s k t e.fn 6 8
    | .flr => hrdAnswer s k t e.fn 6 9
    | .down => hrdAnswer s k t e.fn 7 0xA
    | .hostUr => hrdAnswer s k t e.fn 4 0xB
    | .hostCa => hrdAnswer s k t e.fn 4 0xC
  | .logRead _ _ ser =>
    let s := endCards s e
    { s with xlt := { s.xlt with lines := s.xlt.lines.map (fun d => if d.ser == ser && d.reading then { d with data := some none } else d) } }
  | .window _ _ _ => endCards s e

/-- Report the ending of a Nicen request to what asked for it (R382, R384). -/
def endLinkReq (s : State) (e : TagEnt) (x : Ending) : State :=
  match e.why with
  | .window n _ tag =>
    match x with
    | .flr => endCards s e
    | _ =>
      let (a, s) := keepCard s e
      aer (errCpl s n e.fn tag 4 15 a.1 a.2 none) e.fn .completerAbort
  | .hrd k t _ => hrdAnswer (endCards s e) k t e.fn 6 8
  | .dma k i o =>
    let s := endCards s e
    match x with
    | .timeout => runErr s k i o 0x06 0
    | .fold | .down => runErr s k i o 0x0A 0
    | _ => s
  | _ => endCards s e

/-- What the discarding of a waiting transaction ends beside its request (R237, R299, R367, R368). -/
def burnAfter (s : State) (x : Xact) (e : Ending) : State :=
  let refuse (k c t status reason : Nat) : State :=
    linkAnswer s k 15 x.fn .owed 0 none (answerCpl (if c = 0 then 0 else 2) ((fnSeat s x.fn).getD 7) x.fn t status reason true false [])
  match x.after, e with
  | .hwr k c t, .fold | .hint _ k c t, .fold => refuse k c t 6 8
  | .hwr k c t, .down | .hint _ k c t, .down => refuse k c t 7 0xA
  | .bitmap f _ ser, _ => loseSer s f ser
  | .part k i o _ _, .down => runErr s k i o (if x.dst < 6 then 0x05 else 0x0A) 0
  | .part k i o _ _, .fold => if x.dst < 6 then s else runErr s k i o 0x0A 0
  | _, _ => s

/-- Burn every waiting transaction that `p` picks, and report what each of them was for (R166, R237, R299, R368, R384). -/
def burnAll (s : State) (p : Xact → Bool) (e : Ending) : State :=
  let gone := s.xacts.filter p
  gone.foldl (fun s x =>
    let s := match x.ask with
      | some a => if x.dst < 6 then endSeatReq s { a with cards := 0, kit := 0 } e else endLinkReq s { a with cards := 0, kit := 0 } e
      | none => s
    burnAfter s x e) (burnXacts s p)

/-- Outstanding requests of seat n that `p` picks end by a fold, an FLR or a timeout: reported once, tag quarantined. -/
def endSeatTags (s : State) (n : Nat) (p : TagEnt → Bool) (x : Ending) : State :=
  ((seatOf s n).tags.filter (fun t => !t.2.quar && p t.2)).foldl (fun s t => endSeatReq (quarTag s n t.1) t.2 x) s

/-- Link down of seat n: every outstanding request is reported once and its tag is free at once; a tag in
quarantine stays there (R166). -/
def downSeatTags (s : State) (n : Nat) : State :=
  ((seatOf s n).tags.filter (fun t => !t.2.quar)).foldl (fun s t => endSeatReq (freeTag s n t.1) t.2 .down) s

/-- Outstanding requests of link k that `p` picks end: reported once, tag quarantined (R382, R384, R387). -/
def endLinkTags (s : State) (k : Nat) (p : TagEnt → Bool) (x : Ending) : State :=
  ((linkTxOf s k).tags.filter (fun t => !t.2.quar && p t.2)).foldl (fun s t => endLinkReq (quarLinkTag s k t.1) t.2 x) s

/-- Outstanding requests of link k that `pick` picks are burned: they end with `x` and wait for the exchange `i` (R387, R388). -/
def burnTags (s : State) (k i : Nat) (pick : TagEnt → Bool) (x : Ending) : State :=
  let s' := endLinkTags s k pick x
  linkTxMod s' k (fun y => { y with tags := y.tags.map (fun t => if pick t.2 && ((linkTxOf s k).tags.any (fun u => u.1 == t.1 && !u.2.quar)) then (t.1, { t.2 with burn := i + 1 }) else t) })

/-- Link down of Nicen Link k: reported once as link-down, tags free at once (R384). -/
def downLinkTags (s : State) (k : Nat) : State :=
  ((linkTxOf s k).tags.filter (fun t => !t.2.quar)).foldl (fun s t => endLinkReq (freeLinkTag s k t.1) t.2 .down) s

end Sys2Proof.Machine
end

