-- ==== Sys2Proof/Machine/Wake.lean ====
section
/-! DEFINITION. Leaving a power state (R489, R497) and the always-on watcher's wake sources (R411). -/

namespace Sys2Proof.Machine

def pwrMod (s : State) (g : Power → Power) : State := { s with pwr := g s.pwr }
/-- STATE of TIM.STAT (R445): 0 FREE_RUN, 1 ACQUIRING, 2 LOCKED, 3 HOLDOVER. -/
def timState (s : State) : Nat := fldAt s (timPg + 0x140) 31 29
def setTimState (s : State) (v : Nat) : State := fldPut s (timPg + 0x140) 31 29 v
/-- The device is in Sleep or Deep sleep (R486). -/
def asleep (s : State) : Bool := s.pwr.state == 2 || s.pwr.state == 3

/-- The device is in Off (R486, R495). -/
def isOff (s : State) : Bool := s.pwr.state == 4

/-- A state is left for Run (R489, R497): LAST_WAKE, the events; after Deep sleep the last Run command and the time unit's state. -/
def powerExit (s : State) (src : Nat) : State :=
  let left := s.pwr.state
  let s := pwrMod s (fun p => { p with state := 0, entering := 0, idle := 0, floor := 0, wake := (s.time.toNat, src, left, handNo s) })
  let s := setEvt s pwrPg 8
  let s := if 2 ≤ left then setEvt s pwrPg 9 else s
  if left = 3 then
    let s := emit (pwrMod s (fun p => { p with cmd := p.runCmd })) (.pin "AVS" s.pwr.runCmd)
    if s.pwr.srcOk then (if timState s = 3 then s else setEvt (setTimState s 3) timPg 9) else setTimState s 0
  else s

/-- WAKE: a source enabled in EVR.WAKE_EN ends Sleep or Deep sleep (R411, R497). -/
def wake (s : State) (w : Nat) : State :=
  if asleep s ∧ s.pwr.entering ≠ 4 ∧ flagAt s (evrPg + 0x180) w then powerExit s (0x1E0 + w) else s
/-- A wake source at the lanes (RX), which acts only in Sleep (R411). -/
def wakeRx (s : State) (w : Nat) : State := if s.pwr.state = 2 then wake s w else s

end Sys2Proof.Machine
end

