-- ==== Sys2Proof/Machine/Fold.lean ====
section
/-! DEFINITION. Faults and folds (R415 to R422, R430, R437, R438), a seat's link going down (R166), a Nicen Link going down
(R349), and raising a block error (R57). -/

namespace Sys2Proof.Machine

/-- Table offset of `SAF.FOLD_CAUSE[p]`. -/
def foldReg (p : Nat) : Nat := safPg + 0x140 + 4 * p

/-- Record a safety-class fault: FAULT_STAT, the logs under the OVF rule, the injected mark (R420, R437, R438). `port` is 0
to 9, or 15 for the table or no port. -/
def faultLog (s : State) (cause port off : Nat) (inj : Bool) : State :=
  let held := decide (fldAt s (safPg + 0x104) 31 27 ≠ 0)
  let v := setBits (setBits (setBits (setBits 0 31 27 cause) 26 23 port) 22 22 inj.toNat) 11 0 (handNo s % 4096)
  let s := logHold s (safPg + 0x104) 21 held v
  let s := if held then s else regPut s (safPg + 0x108) (BitVec.ofNat 32 off)
  let s := hwSetBits s (safPg + 0x100) (maskOf cause cause)
  if inj then bump s (safPg + 0x414) else s

/-- Queue a record for the fault ring (R526). -/
def putRec (s : State) (kind len : Nat) (body : List Word) : State :=
  { s with recs := s.recs ++ [{ kind := kind, time := s.time.toNat, hand := handNo s, len := len, body := body }] }

/-- FOLD_STAT: the folded ports and the table (R438). -/
def foldStat (s : State) : Word :=
  BitVec.ofNat 32 (((List.range 10).map (fun p => if portFolded s p then 2 ^ p else 0)).sum + if tableFolded s then 2 ^ 31 else 0)

/-- A FAULT record is queued (R526). -/
def faultRec (s : State) : State := putRec s 1 64 [regAt s (safPg + 0x104), regAt s (safPg + 0x108), foldStat s]

/-- Send FOLD on every ACTIVE link; that of a seat fold opens an exchange, as the partner must answer it alone (R388). On one that retrains it goes in front of what the Dealer deals after it
(R432). -/
def sendFold (s : State) (seat scope state : Nat) (only : Option Nat) : State :=
  (List.range 4).foldl (fun s k =>
    if linkUp s k && (only.isNone || only == some k) then
      let i := (linkTxOf s k).nextId
      let s := linkTxMod s k (fun x => { x with nextId := (i + 1) % 4096, exchs := if state = 1 ∧ scope = 0 then x.exchs ++ [{ isFold := true, ident := i, seat := seat, fn := 0 }] else x.exchs })
      let s := if state = 1 ∧ scope = 0 then bump s (txnPg (6 + k) + 0x414) else s
      nicenPut s k { txn0 0x13 0 seat 0 i with off := 2 * scope + 8 * state }
    else s) s

/-- Queues of the functions of seat n stop: started work is burned, no records are written (R304, R416). The entry read of an ENABLING
queue ends as the fold ends every host read (R284). -/
def foldQueues (s : State) (n : Nat) : State :=
  { s with queues := s.queues.map (fun p =>
      if (seatFns s n).contains p.2.fn then (p.1, { p.2 with running := [], fetched := [], fetching := 0, burnt := [], badFetch := none, arrived := none }) else p) }

/-- EVR.SEAT_ALERT bit n: seat n folded, its link went down, or it was removed (R413). -/
def seatAlert (s : State) (n : Nat) : State := hwSetBits s (evrPg + 0x108) (maskOf n n)

/-- The Nicen requests of seat n's functions are burned by the FOLD about to be sent (R388). -/
def foldBurn (s : State) (n : Nat) : State :=
  (List.range 4).foldl (fun s k => if linkUp s k then burnTags s k (linkTxOf s k).nextId (fun e => (seatFns s n).contains e.fn) .fold else s) s

/-- What a fold of port p does to its work (R265, R416, R417, R388). -/
def foldWork (s : State) (p : Nat) : State :=
  let s := burnAll s (ofPort s p) .fold
  if p < 6 then
    let s := seatAlert (foldBurn (foldQueues (endSeatTags s p (fun _ => true) .fold) p) p) p
    aer (sendFold s p 0 1 none) p .internal
  else
    sendFold (framesLost (endLinkTags s (p - 6) (fun _ => true) .fold) (p - 6)) 0 2 1 (some (p - 6))

/-- Port p folds with a cause; a port that is folded keeps its cause, but for a lower code in the same trick (R420). -/
def foldPort (s : State) (p cause : Nat) : State :=
  if portFolded s p then
    if s.foldFresh.contains p ∧ cause < fldAt s (foldReg p) 4 0 then fldPut s (foldReg p) 4 0 cause else s
  else
    let s := regPut { s with foldFresh := p :: s.foldFresh } (foldReg p) (setBits 0x80000000#32 4 0 cause)
    let s := bump (setEvt s safPg 8) (safPg + (if p < 6 then 0x400 else 0x404))
    faultRec (foldWork s p)

/-- IDE streams of seat n lose their keys and are Insecure; its secure sessions end (R169, R536), and its DOE mailbox is
empty. -/
def ideZeroize (s : State) (n : Nat) : State := seatMod s n (fun x => { x with ide := [], sessions := [], doe := Doe.idle })

/-- The seat's published PTM offset is no longer valid; an open dialog is discarded (R453). -/
def ptmStale (s : State) (n : Nat) : State :=
  let was := (seatOf s n).ptmOk
  let s := seatMod s n (fun x => { x with ptmOk := false, ptmOpen := false })
  if was then setEvt s timPg 12 else s

/-- The link of seat n is down: LINK_STAT, the outstanding work, the decks its host owns, its keys, its PTM context
(R91, R166, R169, R174, R453). `ltssmCode` is the state it enters: 0 DETECT unless a reset says otherwise.
DESIGN CHOICE (log entry 109): READY falls at every link down. -/
def seatLinkDown (s : State) (n ltssmCode : Nat) : State :=
  if dlUp s n ∨ ltssm s n ≠ ltssmCode then
    let wasUp := dlUp s n
    let s := regPut s (linkPg n + 0x110) (setBits 0 31 28 ltssmCode)
    let s := downSeatTags (burnAll s (fun x => x.src == n || x.dst == n) .down) n
    let s := if wasUp then setEvt s (linkPg n) 9 else s
    let s := ptmStale (seatAlert (ideZeroize (deckLoseSeat s n) n) n) n
    seatMod s n (fun x => { x with credO := [0, 0, 0, 0], credP := [0, 0, 0, 0], grant := [some 0, some 0, some 0, some 0, some 0, some 0],
                                   unacked := [], ltr := none })
  else s

/-! ## Lanes go down -/

/-- Lanes of the WIDTH code (R23). -/
def widthLanes (c : Nat) : Nat := match c with
  | 1 => 4 | 2 => 8 | 3 => 16 | _ => 0

/-- Table offsets of LANE_CFG, LANE_STAT and LANE_TXEQ of lane i of port p (R119, R125, R126). -/
def laneCfg (p i : Nat) : Nat := lanePg p + 0x100 + 4 * i
def laneStat (p i : Nat) : Nat := lanePg p + 0x180 + 4 * i
def laneTxeq (p i : Nat) : Nat := lanePg p + 0x200 + 4 * i

/-- Lanes that port p owns under the live configuration (R17, R19). -/
def portLanes (s : State) (p : Nat) : Nat := if p < 6 then widthLanes (seatWidth s p) else 8 * (linkGroups s (p - 6)).length
/-- Lane i of port p is in use: its port owns it. -/
def laneUsed (s : State) (p i : Nat) : Bool := decide (i < portLanes s p)
/-- The lane cell under lane i of port p: its lane group × 8 + its place; none where the port has no such lane. -/
def laneCell (s : State) (p i : Nat) : Option Nat := if laneUsed s p i then ((portGroups s p)[i / 8]?).map (fun g => g * 8 + i % 8) else none
def laneOf (s : State) (p i : Nat) : Lane := (laneCell s p i).elim Lane.idle (tabGet Lane.idle s.lanes)
def laneMod (s : State) (p i : Nat) (g : Lane → Lane) : State :=
  (laneCell s p i).elim s (fun c => { s with lanes := tabMod Lane.idle s.lanes c g })

/-- Every lane of a port goes to idle and unlocked; LANE_PORT_STAT reads DOWN (R122, R124). FAILED stays until the port next trains. -/
def lanesDown (s : State) (p : Nat) : State :=
  let s := (List.range (if p < 6 then 16 else 32)).foldl (fun s i =>
    if regAt s (laneStat p i) = 0x20000000#32 then s
    else laneMod (regPut s (laneStat p i) (regAt s (laneStat p i) &&& 0x08000000#32 ||| 0x20000000#32)) p i (fun x => { x with block := false, swept := false, eye := none, margin := none })) s
  let held := regAt s (lanePg p + 0x304) &&& 0x60000000#32
  regPut s (lanePg p + 0x304) (held ||| 0x80000000#32)

/-- Nicen Link k leaves for DETECT: its outstanding work is reported once as link-down, its maps are empty, a shed exchange ends
(R349, R351, R384). `why` is LAST_FAIL. -/
def nlkDown (s : State) (k why : Nat) : State :=
  let wasUp := linkActive s k || flagAt s (linkPg (6 + k) + 0x110) 10
  let s := [0x120, 0x124, 0x128].foldl (fun s o => regPut s (linkPg (6 + k) + o) 0) (regPut s (linkPg (6 + k) + 0x110) (setBits 0 3 0 why))
  let s := framesLost (downLinkTags (burnAll s (fun x => x.src == 6 + k || x.dst == 6 + k) .down) k) k
  let s := fldPut s (linkPg (6 + k) + 0x130) 8 8 0
  let s := linkTxMod s k (fun x => { LinkTx.down with shedRpt := x.shedRpt, nextId := x.nextId, posted := x.posted, tags := x.tags.filter (fun t => t.2.quar) })
  let s := { s with phys := tabMod LinkPhy.idle s.phys k (fun x => { LinkPhy.idle with rttLast := x.rttLast, rttHand := x.rttHand, symLast := x.symLast, symAll := x.symAll, nextEx := x.nextEx, share := x.share }) }
  if wasUp then setEvt s (linkPg (6 + k)) 9 else s

/-- Under CLOCK, SUPPLY, THERMAL and PWR_FAIL every lane goes idle or off (R420): every link is down, and its outstanding work is
reported once, as link-down. -/
def linksIdle (s : State) (cause : Nat) : State :=
  if cause = 0x08 ∨ cause = 0x09 ∨ cause = 0x0A ∨ cause = 0x0B then
    (List.range 10).reverse.foldl (fun s p => lanesDown (if p < 6 then seatLinkDown s p 0 else nlkDown s (p - 6) 0) p) s
  else s

/-- What a table fold does to the work of port p that a link down has not ended (R416, R417). -/
def tableWork (s : State) (p : Nat) : State :=
  let s := burnAll s (ofPort s p) .fold
  if p < 6 then aer (seatAlert (foldQueues (endSeatTags s p (fun _ => true) .fold) p) p) p .internal
  else framesLost (endLinkTags s (p - 6) (fun _ => true) .fold) (p - 6)

/-- The table folds with a cause (R418, R420): every port folds too. A later cause that idles the lanes idles them in a table already
folded. -/
def foldTable (s : State) (cause : Nat) : State :=
  if tableFolded s then
    linksIdle (if s.foldFresh.contains 10 ∧ cause < fldAt s (foldReg 10) 4 0 then fldPut s (foldReg 10) 4 0 cause else s) cause
  else
    let s := regPut { s with foldFresh := 10 :: s.foldFresh } (foldReg 10) (setBits 0x80000000#32 4 0 cause)
    let s := bump (setEvt s safPg 8) (safPg + 0x408)
    let ps := (List.range 10).filter (fun p => !portFolded s p)
    let s := ps.foldl (fun s p => regPut { s with foldFresh := p :: s.foldFresh } (foldReg p) (setBits 0x80000000#32 4 0 cause)) s
    let s := sendFold (linksIdle s cause) 0 1 1 none
    faultRec (ps.foldl tableWork s)

/-- A safety-class fault that folds the table (R419, R420). -/
def faultTable (s : State) (cause off : Nat) (inj : Bool) : State := foldTable (faultLog s cause 15 off inj) cause
/-- A safety-class fault that folds port p. -/
def faultPort (s : State) (p cause off : Nat) (inj : Bool) : State := foldPort (faultLog s cause p off inj) p cause

/-- The fold scope of a fault in the page at Table offset `off` (R76): a port, or the table (10). -/
def pageScope (s : State) (off : Nat) : Nat :=
  if 0x100000 ≤ off ∧ off < 0x1A0000 then (off - 0x100000) / 0x10000
  else if 0x1000000 ≤ off ∧ off < 0x2000000 then (fnSeat s ((off - 0x1000000) / 0x1000)).getD 10
  else 10

/-- The ERR_STAT bit of a page that raised the fold of port p, when the fold that has just been recorded is its (R422). -/
def foldCause (old s : State) (p cause pg i : Nat) : State :=
  if (!portFolded old p || (old.foldFresh.contains p && decide (cause < fldAt old (foldReg p) 4 0))) && portFolded s p then
    { s with foldBy := tabIns s.foldBy p (pg, i) }
  else s

/-- A fault with the scope of its page, whose ERR_STAT bit `i` it set (R76, R420, R422). -/
def faultPage (s : State) (cause off i : Nat) (inj : Bool) : State :=
  let p := pageScope s off
  if p = 10 then faultTable s cause off inj
  else foldCause s (faultPort s p cause off inj) p cause (off / 0x1000 * 0x1000) i

/-- Raise block error `i` of a page: its ERR_STAT bit, and, with its ERR_SEV bit at 1, the fold BLOCK_ERR (R57, R420). One that an
injection raised is counted (R437). -/
def raiseErrBy (s : State) (pg i : Nat) (inj : Bool) : State :=
  let s := setErrBit s pg i
  if flagAt s (pg + 0x024) i then faultPage s 0x0E pg i inj else if inj then bump s (safPg + 0x414) else s

/-- Raise block error `i` of a page (R57). -/
def raiseErr (s : State) (pg i : Nat) : State := raiseErrBy s pg i false

/-- Port p holds no card and no exchange of its fold is open (R422). -/
def isDrained (s : State) (p : Nat) : Bool :=
  let clear (p : Nat) : Bool :=
    landed s p == 0 && !s.xacts.any (ofPort s p) &&
    (List.range 4).all (fun k => (linkTxOf s k).exchs.all (fun e => !(e.isFold && e.seat == p)))
  if p = 10 then (List.range 10).all clear else clear p

/-- The ERR_STAT bit that raised port p's fold, or POISON of its page, still stands (R422). -/
def causePresent (s : State) (p : Nat) : Bool :=
  let (pg, i) := tabGet (0, 0) s.foldBy p
  match fldAt s (foldReg p) 4 0 with
  | 0x02 => flagAt s (dlrPg + 0x01C) 8
  | 0x03 => flagAt s (dlrPg + 0x01C) 10
  | 0x04 => flagAt s (pg + 0x01C) 0 || s.parLive.any (fun o => o / 0x1000 * 0x1000 == pg)
  | 0x07 => flagAt s (talPg + 0x01C) 9
  | 0x0E => flagAt s (pg + 0x01C) i
  | 0x0F => flagAt s (idePg p + 0x01C) 8
  | 0x10 => flagAt s (txnPg p + 0x01C) 8
  | _ => false

/-- The STATUS a CLEAR of port p ends with: 0 OK, else the refusal of R422. Rows are judged in the order BAD_PORT, TABLE, CAUSE_RESET,
CAUSE_PRESENT, DRAINING (DEDUCED, log entry 102). -/
def clearStatus (s : State) (p : Nat) : Nat :=
  let c := fldAt s (foldReg p) 4 0
  if 10 < p then 5
  else if p = 10 ∨ tableFolded s then 3
  else if !portFolded s p then 0
  else if c = 0x13 ∨ c = 0x08 ∨ c = 0x09 ∨ c = 0x0A ∨ c = 0x0B then 4
  else if causePresent s p then 1
  else if !flagAt s (foldReg p) 30 then 2
  else 0

/-- Queues of seat n that were ACTIVE, DRAINING or HALTED are HALTED with LAST_ERR FOLDED (R304). -/
def unfoldQueues (s : State) (n : Nat) : State :=
  { s with queues := s.queues.map (fun p =>
      if (seatFns s n).contains p.2.fn && decide (2 ≤ p.2.st) then (p.1, { p.2 with st := 4, op := 0, lastErr := 0x12 }) else p) }

/-- The fold of port p ends (R422). -/
def endFold (s : State) (p : Nat) : State :=
  let s := regPut { s with foldBy := tabDel s.foldBy p } (foldReg p) 0
  let s := if p < 6 then sendFold (unfoldQueues s p) p 0 0 none else sendFold s 0 2 0 (some (p - 6))
  setEvt s safPg 9

end Sys2Proof.Machine
end

