-- ==== Sys2Proof/Machine/Xlate.lean ====
section
/-! DEFINITION. Translation: XT and return lookups and refusals (R208 to R217, R226 to R228), the halves of a direct access
(R219), the indirect port (R223, R224), the scrubber (R229), and the dirty log (R233 to R239). -/

namespace Sys2Proof.Machine

def xltMod (s : State) (g : Xlt → Xlt) : State := { s with xlt := g s.xlt }

/-- Bytes of a granule code (R194, R225). -/
def granBytes (g : Nat) : Nat := if g = 0 then 4096 else if g = 1 then 65536 else if g = 2 then 2097152 else 1073741824

/-- Bits [hi:lo] of an entry. -/
def dbits (w : Dword) (hi lo : Nat) : Nat := (w.toNat >>> lo) % 2 ^ (hi + 1 - lo)

/-- Key of an entry: table (0 XT, 1 return) × 2^23 + index. -/
def entKey (t i : Nat) : Nat := t * 2 ^ 23 + i
/-- The committed value of an entry (R219). -/
def entAt (s : State) (key : Nat) : Dword :=
  if key < 2 ^ 23 then tabGet 0 s.xlt.xt key else tabGet 0 s.xlt.ret (key - 2 ^ 23)
/-- Errors in a pattern of check bits (R228, R241). -/
def errsOf (m : Nat) : Nat := if m = 0 then 0 else if m = 3 then 2 else 1
/-- Number of errors among the entry's check bits (R228, R241). -/
def entErrs (s : State) (key : Nat) : Nat := errsOf (tabGet 0 s.xlt.ecc key)
/-- Commit an entry: it stands whole and its ECC is fresh (R219, R220). Until the next boundary look-ups use the entry as it stood (R27,
R216). -/
def commitEnt (s : State) (key : Nat) (v : Dword) : State :=
  let was := (entAt s key, tabGet 0 s.xlt.ecc key)
  xltMod s (fun x =>
    let x := { x with ecc := tabDel x.ecc key, pend := if x.pend.any (fun p => p.1 == key) then x.pend else tabIns x.pend key was }
    if key < 2 ^ 23 then { x with xt := tabPut 0 x.xt key v } else { x with ret := tabPut 0 x.ret (key - 2 ^ 23) v })
/-- The value and the errors of an entry that a look-up sees: those in force since the last boundary (R216). What a host asks of the window
is looked up at the boundary after it came, hence after every entry write that the host sent before it (R217). -/
def entSeen (s : State) (key : Nat) : Dword × Nat :=
  match s.xlt.pend.find? (fun p => p.1 == key) with
  | some p => (p.2.1, errsOf p.2.2)
  | none => (entAt s key, entErrs s key)
/-- The entries committed in the ended trick come into force (R27). -/
def entForce (s : State) : State := xltMod s (fun x => { x with pend := [] })

/-- Report an uncorrectable entry (R228, R229, R241): entries come to errors by injection alone (R437). -/
def eccReport (s : State) (key : Nat) (scrub : Bool) : State :=
  let v := setBits (setBits (setBits 0 31 31 (key / 2 ^ 23)) 29 29 scrub.toNat) 22 0 (key % 2 ^ 23)
  let s := logHold s (xltPg + 0x108) 30 (flagAt s (xltPg + 0x01C) 8) v
  raiseErrBy (bump s (xltPg + 0x41C)) xltPg 8 true

/-- A correctable error was corrected: it is counted (R228). The write-back is a step of its own. -/
def eccCorrected (s : State) : State := setEvt (bump s (xltPg + 0x418)) xltPg 9

/-- Counter of a refusal reason (R242). -/
def refuseCnt (reason : Nat) : Option Nat :=
  match reason with
  | 1 => some 0x400 | 2 => some 0x404 | 3 => some 0x408 | 4 => some 0x40C | 6 => some 0x410 | 7 => some 0x414
  | _ => none

/-- Count and log a refusal: path 0 window, 1 DMA, 2 return (R215, R227, R241). -/
def refuse (s : State) (path reason f idx : Nat) : State :=
  let s := match refuseCnt reason with
    | some o => bump s (xltPg + o)
    | none => s
  let s := tally s 4 f 1
  let held := flagAt s (xltPg + 0x010) 8
  let v := setBits (setBits (setBits 0 31 28 reason) 27 26 path) 11 0 f
  let s := logHold s (xltPg + 0x100) 25 held v
  let s := if held then s else regPut s (xltPg + 0x104) (BitVec.ofNat 32 (idx % 2 ^ 23))
  setEvt s xltPg 8

/-- What a lookup answers: endpoint, fabric offset and trump class, or the refusal reason and the index it is logged with. -/
inductive Looked
  | ok (ep off : Nat) (trump : Bool)
  | no (reason idx : Nat)
  deriving DecidableEq, Repr

/-- Look window offset `o` of function f up and check the access in the order of R214 (R208, R209, R212, R213). The state carries the ECC
reports of the look-up (R228). -/
def lookup (s : State) (f o : Nat) (p : Perm) : Looked × State :=
  let base := fldAt s (fnPg f + 0x118) 22 0
  let len := fldAt s (fnPg f + 0x11C) 22 0
  let gc := fldAt s (fnPg f + 0x11C) 31 30
  let g := granBytes gc
  let i := base + o / g
  if (fnSeat s f).isNone ∨ len * g ≤ o then (.no 1 i, s)
  else
    let (e, n) := entSeen s i
    if n = 2 then (.no 5 i, eccReport s i false)
    else
      let s := if n = 1 then eccCorrected s else s
      let page := dbits e 31 0
      let perm := match p with
        | .read => dbits e 58 58
        | .write => dbits e 59 59
        | .atom => dbits e 60 60
      if dbits e 63 63 = 0 then (.no 2 i, s)
      else if dbits e 62 61 ≠ gc ∨ page % (g / 4096) ≠ 0 then (.no 3 i, s)
      else if perm = 0 then (.no 4 i, s)
      else (.ok (dbits e 55 32) (page * 4096 + o % g) (dbits e 57 56 == 1), s)

/-- The link that carries a request to an endpoint: one of the present links (free value); none with no link at all. -/
def linkFor (s : State) (ep : Nat) : Option Nat :=
  let ls := (List.range 4).filter (fun k => portPresent s (6 + k))
  ls[Config.route ep % ls.length]?

/-- Check an HWR or HRD of function f against return entry r (R226): the host address, or (status, reason, index). A header
seat that does not own f fails check 5 (R368). -/
def retCheck (s : State) (f seat r x n : Nat) (write : Bool) : (Nat ⊕ (Nat × Nat × Nat)) × State :=
  let base := fldAt s (fnPg f + 0x120) 19 0
  let cnt := fldAt s (fnPg f + 0x124) 20 0
  let key := entKey 1 r
  if !(fnOf s f).master then (.inr (2, 7, r), s)
  else if r < base ∨ base + cnt ≤ r then (.inr (1, 1, r), s)
  else
    let (e, errs) := entSeen s key
    if errs = 2 then (.inr (1, 5, r), eccReport s key false)
    else
      let s := if errs = 1 then eccCorrected s else s
      let g := granBytes (dbits e 60 59)
      let page := dbits e 43 0
      if dbits e 63 63 = 0 then (.inr (1, 2, r), s)
      else if dbits e 55 44 ≠ f ∨ some (dbits e 58 56) ≠ fnSeat s f ∨ seat ≠ dbits e 58 56 then (.inr (1, 6, r), s)
      else if page % (g / 4096) ≠ 0 then (.inr (1, 3, r), s)
      else if g < x + n then (.inr (1, 1, r), s)
      else if (if write then dbits e 62 62 else dbits e 61 61) = 0 then (.inr (1, 4, r), s)
      else (.inl (page * 4096 + x), s)

/-! ## Direct access to entries (R218, R219) -/

/-- Which entry word a Table offset names: key and half (0 low, 1 high). -/
def entOff (off : Nat) : Option (Nat × Nat) :=
  if 0x2000000 ≤ off ∧ off < 0x2800000 then some (entKey 1 ((off - 0x2000000) / 8), off / 4 % 2)
  else if 0x4000000 ≤ off ∧ off < 0x6800000 then some (entKey 0 ((off - 0x4000000) / 8), off / 4 % 2)
  else none

/-- Slot of the per-requester halves: requester code × 2 + table (R219). -/
def halfSlot (r : Req) (key : Nat) : Nat := r.code.val * 2 + key / 2 ^ 23

/-- A 32-bit write of an entry's word (R219). -/
def entWrite (s : State) (r : Req) (key half : Nat) (v : Word) : State :=
  let sl := halfSlot r key
  let low := tabGet (0, 0) s.xlt.heldLow sl
  let had := s.xlt.heldLow.any (fun p => p.1 == sl)
  let s := xltMod s (fun x => { x with heldLow := tabDel x.heldLow sl, capHigh := tabDel x.capHigh sl })
  if half = 0 then xltMod s (fun x => { x with heldLow := tabIns x.heldLow sl (key, v) })
  else
    let lo := if had && low.1 == key then low.2 else (entAt s key).setWidth 32
    commitEnt s key (v ++ lo)

/-- A 32-bit read of an entry's word (R219). -/
def entRead (s : State) (r : Req) (key half : Nat) : Word × State :=
  let sl := halfSlot r key
  let cap := tabGet (0, 0) s.xlt.capHigh sl
  let had := s.xlt.capHigh.any (fun p => p.1 == sl)
  let e := entAt s key
  let hi : Word := (e >>> 32).setWidth 32
  let s := xltMod s (fun x => { x with heldLow := tabDel x.heldLow sl, capHigh := tabDel x.capHigh sl })
  if half = 0 then (e.setWidth 32, xltMod s (fun x => { x with capHigh := tabIns x.capHigh sl (key, hi) }))
  else (if had && cap.1 == key then cap.2 else hi, s)

/-! ## The indirect port (R222 to R224) -/

/-- End an indirect command of PF n: STATUS, BUSY, OP (R222). -/
def indEnd (s : State) (n status : Nat) : State :=
  fldPut (fldPut (fldPut s (fnPg n + 0x20C) 31 28 status) (fnPg n + 0x20C) 8 8 0) (fnPg n + 0x20C) 1 0 0

/-- INDEX lies in the live budget of PF n's seat (R223). -/
def inBudget (s : State) (n t i : Nat) : Bool :=
  let b := if t = 0 then 0x150 else 0x158
  let base := (regAt s (txnPg n + b)).toNat
  let len := (regAt s (txnPg n + b + 4)).toNat
  seatPresent s n && decide (base ≤ i ∧ i < base + len)

/-- A command written to FN.ENT_IND_CMD of PF n (R222, R223): 1 READ, 2 WRITE, 3 SYNC. -/
def indCmd (s : State) (n op : Nat) : State :=
  let idx := regAt s (fnPg n + 0x200)
  let t := bits idx 31 31
  let i := bits idx 22 0
  let key := entKey t i
  if op = 0 then s
  else if flagAt s (fnPg n + 0x20C) 8 then fldPut s (fnPg n + 0x20C) 31 28 3
  else if op = 3 then
    let s := fldPut (fldPut s (fnPg n + 0x20C) 8 8 1) (fnPg n + 0x20C) 1 0 3
    xltMod s (fun x => { x with sync := tabIns x.sync n none })
  else if !inBudget s n t i then indEnd s n 1
  else if op = 2 then
    indEnd (commitEnt s key ((regAt s (fnPg n + 0x208)) ++ (regAt s (fnPg n + 0x204)))) n 0
  else
    let e := entAt s key
    let errs := entErrs s key
    let s := regPut (regPut s (fnPg n + 0x204) (e.setWidth 32)) (fnPg n + 0x208) ((e >>> 32).setWidth 32)
    if errs = 1 then indEnd (eccCorrected s) n 0
    else indEnd s n (if errs = 2 then 2 else 0)

/-- Arrival numbers of the transactions of seat n's functions that were checked against an entry (R224). -/
def checked (s : State) (n : Nat) : List Nat := (s.xacts.filter (fun x => x.chk && fnSeat s x.fn == some n)).map (fun x => x.stamp)

/-- SYNC takes effect at the boundary: it waits for every card checked before it (R224). -/
def syncStart (s : State) : State :=
  xltMod s (fun x => { x with sync := x.sync.map (fun p => (p.1, some (p.2.getD (checked s p.1)))) })

/-- None of the transactions with the arrival numbers `l` is left (R224). -/
def syncClear (s : State) (l : List Nat) : Bool := !s.xacts.any (fun x => l.contains x.stamp)

/-- SYNC of PF n completes when its condition holds (R224). DEDUCED (log entry 112): its OK then stands in STATUS, also over a BAD_OP that a
later command met. -/
def syncDone (s : State) (n : Nat) : State :=
  match tabGet none s.xlt.sync n with
  | some l => if syncClear s l then indEnd (xltMod s (fun x => { x with sync := tabDel x.sync n })) n 0 else s
  | none => s

/-! ## ECC injection and scrubbing (R228, R229, R241) -/

/-- The armed flips are applied to the stored check bits (R241). -/
def eccApply (s : State) : State :=
  let s := s.xlt.inject.foldl (fun s p => xltMod s (fun x => { x with ecc := tabPut 0 x.ecc p.1 (Nat.xor (tabGet 0 x.ecc p.1) p.2) })) s
  let used := !s.xlt.inject.isEmpty
  let s := xltMod s (fun x => { x with inject := [] })
  if used then fldPut s (xltPg + 0x110) 30 29 0 else s

/-- The scrubber reads entry `key` (R229). -/
def scrubEnt (s : State) (key : Nat) : State :=
  match entErrs s key with
  | 0 => s
  | 1 => eccCorrected (xltMod s (fun x => { x with ecc := tabDel x.ecc key }))
  | _ => eccReport s key true

/-- One trick of the scrub pass: entries with errors among those this trick visits; the end of a pass (R41, R229). -/
def scrubTrick (s : State) : State :=
  match s.xlt.scrub with
  | none => s
  | some k =>
    let hit (key : Nat) : Bool :=
      if key < 2 ^ 23 then decide (20 * k ≤ key ∧ key < 20 * k + 20)
      else decide (4 * k ≤ key - 2 ^ 23 ∧ key - 2 ^ 23 < 4 * k + 4)
    let s := ((s.xlt.ecc.map (fun p => p.1)).filter hit).foldl scrubEnt s
    if k + 1 < 262144 then xltMod s (fun x => { x with scrub := some (k + 1) })
    else
      let s := xltMod s (fun x => { x with scrub := some 0 })
      setEvt (fldPut s (xltPg + 0x10C) 31 16 (fldAt s (xltPg + 0x10C) 31 16 + 1)) xltPg 10

/-! ## Dirty log (R231 to R239) -/

/-- The function is logged: live EN (R231). -/
def logged (s : State) (f : Nat) : Bool := (fnSeat s f).isSome && flagAt s (fnPg f + 0x140) 31
/-- Tracked base, span in bytes, bitmap address (R231, R233). -/
def logBase (s : State) (f : Nat) : Nat := (regAt s (fnPg f + 0x148)).toNat * 2 ^ 32 + fldAt s (fnPg f + 0x144) 31 21 * 2 ^ 21
def logSpan (s : State) (f : Nat) : Nat := fldAt s (fnPg f + 0x14C) 25 0 * 2 ^ 21
def logMap (s : State) (f : Nat) : Nat := (regAt s (fnPg f + 0x154)).toNat * 2 ^ 32 + fldAt s (fnPg f + 0x150) 31 6 * 64

/-- The host address of bitmap line l of function f (R231, R233). -/
def lineAddr (s : State) (f l : Nat) : Nat := logMap s f + 64 * l

/-- The line that gathers bits of bitmap line l of f: its flush has not begun, and it was opened under the same configuration (R235). -/
def gathers (s : State) (f l : Nat) (d : DirtyLine) : Bool :=
  d.fn == f && d.line == l && d.addr == lineAddr s f l && !d.reading && !d.writing

/-- Set dirty bits `m` in the line of function f (R233, R235). -/
def markLine (s : State) (f l m : Nat) : State :=
  if s.xlt.lines.any (gathers s f l) then
    xltMod s (fun x => { x with lines := x.lines.map (fun d => if gathers s f l d then { d with dirty := Nat.lor d.dirty m } else d) })
  else
    xltMod s (fun x => { x with
      lines := x.lines ++ [{ fn := f, line := l, ser := x.lineSer, dirty := m, age := 0, addr := lineAddr s f l, queued := false, reading := false, writing := false, data := none }],
      lineSer := x.lineSer + 1 })

/-- Host pages, numbered from the tracked base, that a write of n bytes at a touches inside the span (R233, R234). -/
def logPages (s : State) (f a n : Nat) : List Nat :=
  let b := logBase s f
  let lo := max a b
  let hi := min (a + n) (b + logSpan s f)
  if hi ≤ lo then [] else numsFrom ((lo - b) / 4096) ((hi - 1 - b) / 4096 + 1 - (lo - b) / 4096)

/-- Log a write of n bytes at host address a with f's Requester ID (R233, R234). `msi`: an MSI-X message wholly outside the
span is neither logged nor flagged. -/
def logWrite (s : State) (f a n : Nat) (msi : Bool) : State :=
  if !logged s f ∨ n = 0 then s
  else
    let ps := logPages s f a n
    let outside := decide (a < logBase s f) || decide (logBase s f + logSpan s f < a + n)
    let s := if outside && !(msi && ps.isEmpty) then setEvt (hwSetBits s (fnPg f + 0x158) (maskOf 31 31)) xltPg 11 else s
    ps.foldl (fun s p => markLine s f (p / 512) (2 ^ (p % 512))) s

/-- Lines of the dirty cache (R235, R239). -/
def cacheLines : Nat := 4096

/-- The cache has room for the lines that a write of n bytes at a would open (R235, R239). -/
def lineRoom (s : State) (f a n : Nat) : Bool :=
  if !logged s f then true
  else
    let need := (((logPages s f a n).map (fun p => p / 512)).eraseDups.filter (fun l => !s.xlt.lines.any (gathers s f l))).length
    decide (s.xlt.lines.length + need ≤ cacheLines)

/-- A line can be flushed: PF n masters and its seat is up and not folded (R237). -/
def canFlush (s : State) (f : Nat) : Bool :=
  match fnSeat s f with
  | some n => (fnOf s n).master && dlUp s n && !folded s n
  | none => false

/-- Change the dirty line with number `ser`. -/
def lineMod (s : State) (ser : Nat) (g : DirtyLine → DirtyLine) : State :=
  xltMod s (fun x => { x with lines := x.lines.map (fun d => if d.ser = ser then g d else d) })

/-- The transaction belongs to the flush of the line with number `ser` and can still be called back: its merge read has no tag yet, or it
is the write of the merged line. -/
def ofFlush (ser : Nat) (x : Xact) : Bool :=
  match x.after, x.ask with
  | .bitmap _ _ n, _ => n == ser
  | _, some e => (match e.why with
    | .logRead _ _ n => n == ser
    | _ => false)
  | _, none => false

/-- The device drops a line's bits: they count as flushed (R237). A flush read that holds a tag runs on, and its outcome is ignored. -/
def loseLine (s : State) (d : DirtyLine) : State := loseSer (burnXacts s (ofFlush d.ser)) d.fn d.ser

/-- The flush of a queued line starts: its merge read waits for a tag and a card, or its bits are lost (R235, R237). Two flushes of one
line are never outstanding. -/
def flushLine (s : State) (d : DirtyLine) : State :=
  match fnSeat s d.fn with
  | none => loseLine s d
  | some n =>
    if !canFlush s d.fn then loseLine s d
    else if s.xlt.lines.any (fun e => e.fn == d.fn && e.line == d.line && (e.reading || e.writing)) then s
    else enqueue (lineMod s d.ser (fun e => { e with reading := true })) { xact0 n n 1 1 (.tlp n (tlp0 .memRd n d.addr 64)) with ask := some (TagEnt.ask n (.logRead d.fn d.line d.ser) d.addr 64 1 1) }

/-- The merge of a line: OR the cached bits into the 64 bytes read and write the line back (R235). -/
def mergeLine (s : State) (d : DirtyLine) (data : List Byte) : State :=
  let n := pfOf s d.fn
  enqueue (lineMod s d.ser (fun e => { e with reading := false, writing := true })) { xact0 n n 3 1 (.tlp n { tlp0 .memWr n d.addr 64 with data := natLe 64 (Nat.lor (leNat data) d.dirty) }) with posted := true, after := .bitmap d.fn d.line d.ser }

/-- The flush write of a line has been sent: the line is free (R235, R239, R242). -/
def lineSent (s : State) (ser : Nat) : State :=
  bump (xltMod s (fun x => { x with lines := x.lines.filter (fun d => d.ser != ser) })) (xltPg + 0x420)

/-- The end of a hand (R38 step 3, R235, R237): lines with bits of the hand before it are at their deadline and lose them; every other
line is queued for flush. -/
def linesHandEnd (s : State) : State :=
  let s := (s.xlt.lines.filter (fun d => decide (1 ≤ d.age))).foldl loseLine s
  xltMod s (fun x => { x with lines := x.lines.map (fun d => { d with age := d.age + 1, queued := true }) })

/-- Evict the first line that `p` picks, if its flush is not due already: it is flushed at once (R235, R239). -/
def evictFirst (s : State) (p : DirtyLine → Bool) : State :=
  match s.xlt.lines.find? (fun d => !d.queued && p d) with
  | some d =>
    flushLine (xltMod (lineMod s d.ser (fun e => { e with queued := true })) (fun x => { x with evicts := x.evicts + 1 })) { d with queued := true }
  | none => s

/-- Dirty bits of f's writes are still unflushed (R205, R232). -/
def logPending (s : State) (f : Nat) : Bool := s.xlt.lines.any (fun d => d.fn == f)

/-- Every dirty bit of f that stood when the dirty cache's next line had number `mark` has been written or lost (R238). -/
def barrierDone (s : State) (f mark : Nat) : Bool := s.xlt.lines.all (fun d => !(d.fn == f && decide (d.ser < mark)))

end Sys2Proof.Machine
end

