-- ==== Sys2Proof/Machine/Traffic.lean ====
section
/-! DEFINITION. Issuing traffic: host reads and writes of a function on its seat (R226, R292), Nicen requests on a link (R360),
completions to hosts, and the completion of what waits for a host read. -/

namespace Sys2Proof.Machine

/-- Max_Payload_Size and Max_Read_Request_Size in bytes; a VF uses its PF's. PRESUMED: the Device Control of the PCI Express
specification, bits [7:5] and [14:12]. -/
def mps (s : State) (f : Nat) : Nat := min 4096 (128 * 2 ^ bits (cfgAt s (pfOf s f) 0x58) 7 5)
def mrrs (s : State) (f : Nat) : Nat := min 4096 (128 * 2 ^ bits (cfgAt s (pfOf s f) 0x58) 14 12)

/-- Bytes of the first piece of n bytes at address a: at most `lim`, and not across a 4 KiB boundary (R226, R292, R360). -/
def piece (a n lim : Nat) : Nat := min n (min lim (4096 - a % 4096))

/-- The pieces (offset, length) of n bytes at a; `fuel` bounds their number. -/
def pieces (a n lim : Nat) : Nat → Nat → List (Nat × Nat)
  | 0, _ => []
  | fuel + 1, o => if n ≤ o then [] else
      let l := piece (a + o) (n - o) lim
      (o, l) :: pieces a n lim fuel (o + l)

/-- Cards of each piece of n bytes held in `cardsFor n` cards: those that start in it; a piece that starts no card of its own
takes one more. -/
def pieceCards (p : Nat × Nat) : Nat × Bool :=
  let c := cardsFor (p.1 + p.2) - (if p.1 = 0 then 0 else cardsFor p.1)
  if c = 0 then (1, true) else (c, false)

/-- The attributes that a request of function f carries on its seat: its own Device Control masks Relaxed Ordering (bit 0, by its bit 4)
and No Snoop (bit 2, by its bit 11) (R287, R360). PRESUMED: these bit places of the PCI Express specification. -/
def hostAttr (s : State) (f attr : Nat) : Nat :=
  let c := cfgAt s f 0x58
  b2n (attr.testBit 0 && bitOf c 4) + 2 * b2n (attr.testBit 1) + 4 * b2n (attr.testBit 2 && bitOf c 11)

/-- RO and No Snoop of a descriptor: RLX and NS (R287, R360). -/
def Desc.attr (d : Desc) : Nat := leNat (d.raw.take 4) / 2048 % 2 + 4 * (leNat (d.raw.take 4) / 4096 % 2)

/-- Present a host read of function f: it waits for a tag and for cards for itself and its whole completion (R153, R159). -/
def askRead (s : State) (f a n attr src : Nat) (cls : Nat) (why : Why) : State :=
  match fnSeat s f with
  | none => s
  | some seat =>
    enqueue s { xact0 seat f cls 1 (.tlp seat { tlp0 .memRd f a n with attr := hostAttr s f attr }) with src := src, ask := some (TagEnt.ask f why a n (cardsFor n) cls) }

/-- What host writes carry over from the transaction that they come from: its account and how many of its cards are kitty cards. -/
structure Held where
  acct : Acct
  kit  : Nat

/-- Present the host writes of n bytes of function f at address a, split by MPS and 4 KiB boundaries (R226, R292). `of_` gives a piece's
end of sending by its offset and length; `base` is the transaction they are like. The pieces share the kitty cards of `base` in order, and are
charged together where `base` waits for its cards. -/
def sendWrites (s : State) (f a : Nat) (data : List Byte) (poison : Bool) (attr : Nat) (base : Xact) (of_ : Nat × Nat → After) : State :=
  match fnSeat s f with
  | none => s
  | some seat =>
    ((pieces a data.length (mps s f) (data.length + 1) 0).foldl (fun (q : Nat × State) p =>
      let (c, extra) := pieceCards p
      let kit := if extra then 0 else min c q.1
      (q.1 - kit, enqueue q.2 { base with
        dst := seat, fn := f, cards := c, need := if p.1 = 0 then base.need else 0, acct := if extra then .owed else base.acct, kit := kit, posted := true, trump := base.trump && p.1 == 0,
        what := .tlp seat { tlp0 .memWr f (a + p.1) p.2 with poison := poison, attr := hostAttr s f attr, data := (data.drop p.1).take p.2 },
        land := if p.1 + p.2 = data.length then base.land else none, after := of_ p })) (base.kit, s)).2

/-- Present a Nicen request or message on link k that passed its XT entry (R360): translation takes two tricks (R24). -/
def sendNicen (s : State) (k f cls cards : Nat) (posted trump : Bool) (held : Held) (x : Txn) (ask : Option TagEnt) (after : After) : State :=
  enqueue s { xact0 (6 + k) f cls cards (.nicen k x) with posted := posted, trump := trump, acct := held.acct, kit := held.kit, ask := ask, after := after, wait := 2, chk := true }

/-- The queue pair of queue q of function f (R194). -/
def pairOf (s : State) (f q : Nat) : Nat := fldAt s (fnPg f + 0x110) 29 16 + q
/-- Number of queues of f. -/
def queueCount (s : State) (f : Nat) : Nat := fldAt s (fnPg f + 0x110) 8 0
/-- The function that queue pair k belongs to, and its queue number, if there is one: of a queue that is not DISABLED the one that enabled it;
of a DISABLED one the function whose queues the configuration places there. -/
def pairFn (s : State) (k : Nat) : Option (Nat × Nat) :=
  let q := queueOf s k
  let owns (f : Nat) : Bool := decide (pairOf s f 0 ≤ k ∧ k < pairOf s f 0 + queueCount s f)
  if q.st ≠ 0 then some (q.fn, q.q) else ((List.range 4096).find? owns).map (fun f => (f, k - pairOf s f 0))

/-- The same, and the last one where there is none (log entry 104). -/
def pairOwner (s : State) (k : Nat) : Nat × Nat :=
  let q := queueOf s k
  (pairFn s k).getD (q.fn, q.q)
/-- Number of vectors of f. -/
def vectorCount (s : State) (f : Nat) : Nat := fldAt s (fnPg f + 0x114) 11 0

/-- A field of a descriptor at byte offset o, n bytes (R286). -/
def Desc.num (d : Desc) (o n : Nat) : Nat := leNat ((d.raw.drop o).take n)

/-- Reverse each group of `n` bytes (R288). -/
def swapGroups (n : Nat) : Nat → List Byte → List Byte
  | 0, l => l
  | fuel + 1, l => if l.isEmpty then [] else (l.take n).reverse ++ swapGroups n fuel (l.drop n)

/-- The swap of R288 on whole 64-bit words: modes 1 to 3 reverse bytes within 2, 4 and 8; modes 4 and 5 reverse half-words
within 4 and 8. -/
def swapBytes (mode : Nat) (l : List Byte) : List Byte :=
  let n := l.length
  match mode with
  | 1 => swapGroups 2 n l
  | 2 => swapGroups 4 n l
  | 3 => swapGroups 8 n l
  | 4 => swapGroups 2 n (swapGroups 4 n l)
  | 5 => swapGroups 2 n (swapGroups 8 n l)
  | _ => l

/-- A started descriptor that still moves data at place `o` (R215, R299). -/
def liveRun (s : State) (k i o : Nat) : Option Run :=
  (queueOf s k).running.find? (fun r => decide (r.desc.idx = i) && r.done.isNone && r.stop.all (fun p => decide (o < p)))

/-- Where a DMA access to window offset `o` of function f goes (R214, R306): the link, the endpoint, the fabric offset and the trump class;
or the status and the reason with which it ends its descriptor. -/
def dmaPath (s : State) (f o : Nat) (p : Perm) : ((Nat × Nat × Nat × Bool) ⊕ (Nat × Nat)) × State :=
  match lookup s f o p with
  | (.no reason idx, s) => (.inr (0x03, reason), refuse s 1 reason f idx)
  | (.ok ep off trump, s) =>
    match linkFor s ep with
    | none => (.inr (0x0A, 0), s)
    | some l => (if folded s (6 + l) || !linkActive s l then .inr (0x0A, 0) else .inl (l, ep, off, trump), s)

/-- A chunk of a COPY_TO_FABRIC has arrived whole from the host, for place `o` of its data: swap it, translate it and send it as one WR
(R288, R292); its completion cards become the WR's cards. A refused translation ends the descriptor at this place (R215). -/
def copyOut (s : State) (k i o : Nat) (e : TagEnt) (data : List Byte) (poison : Bool) : State :=
  match liveRun s k i o with
  | none => endCards s e
  | some r =>
    match dmaPath s e.fn (r.desc.num 0x18 8 + o) .write with
    | (.inr (status, reason), s) => runErr (endCards s e) k i o status reason
    | (.inl (l, ep, off, trump), s) =>
      let x := { txn0 0x01 3 ((fnSeat s e.fn).getD 7) e.fn 0 with poison := poison, attr := r.desc.attr, len := lenOf data.length, last := lastOf data.length, ep := ep, off := off, data := swapBytes (r.desc.num 0 4 / 65536 % 8) data }
      sendNicen (useReserve s e.fn e.cards) l e.fn 3 e.cards true trump { acct := .fn e.fn, kit := e.kit } x none (.part k i o data.length poison)

/-- One host read of an HRD has ended well: keep its data, and answer when it was the last (R368). The answer of a trump HRD is presented
as trump; demoted, it goes as Completion (R252). -/
def hrdPart (s : State) (k tag : Nat) (e : TagEnt) (off : Nat) (data : List Byte) (poison : Bool) : State :=
  match (linkTxOf s k).hrds.find? (fun h => h.tag == tag) with
  | none => endCards s e
  | some h =>
    let h' := { h with left := h.left - 1, data := h.data ++ [(off, data)], cards := h.cards + e.cards, kit := h.kit + e.kit, poison := h.poison || poison }
    let s := useReserve s e.fn e.cards
    if 0 < h'.left then
      linkTxMod s k (fun x => { x with hrds := x.hrds.map (fun g => if g.tag == tag then h' else g) })
    else
      let whole := (h'.data.mergeSort (fun a b => decide (a.1 ≤ b.1))).flatMap (fun p => p.2)
      let s := linkTxMod s k (fun x => { x with hrds := x.hrds.filter (fun g => g.tag != tag) })
      let n := cardsFor whole.length
      let more := h'.cards - n
      let s := toFlight s (.fn h.fn) more (min h'.kit more)
      enqueue s { xact0 (6 + k) h.fn 2 n (.nicen k (answerCpl (if h.cls = 0 then 0 else 2) ((fnSeat s h.fn).getD 7) h.fn tag 0 0 false h'.poison whole)) with
        src := (fnSeat s h.fn).getD 15, isCpl := h.cls == 0, trump := h.cls == 0, acct := .fn h.fn, kit := h'.kit - more }

/-- A host read has ended with all its data: hand it to what asked for it. The tag is free already and its completion cards are
still reserved (R292, R290, R284, R368, R235). -/
def deliver (s : State) (e : TagEnt) (data : List Byte) (poison : Bool) : State :=
  match e.why with
  | .dma k i o => copyOut s k i o e data poison
  | .fetch k i c =>
    let s := endCards s e
    if c = 0 then s
    else queueMod s k (fun q => if q.fetching = 0 then q else { q with arrived := some (i, if poison then none else some data) })
  | .ctx k =>
    queueMod (endCards s e) k (fun q => if q.st = 1 then { q with loaded := some (if poison then none else some data) } else q)
  | .hrd k t _ => hrdPart s k t e e.addr data poison
  | .logRead _ _ ser =>
    let s := endCards s e
    { s with xlt := { s.xlt with lines := s.xlt.lines.map (fun d => if d.ser == ser && d.reading then { d with data := some (if poison then none else some data) } else d) } }
  | .window _ _ _ => endCards s e

end Sys2Proof.Machine
end

