-- ==== Sys2Proof/Machine/Interrupts.lean ====
section
/-! DEFINITION. MSI-X vectors and the pool, page events and the Table event router (R396 to R411, R413). -/

namespace Sys2Proof.Machine

def intrMod (s : State) (g : Intr → Intr) : State := { s with intr := g s.intr }
def poolOf (s : State) (e : Nat) : PoolEnt := tabGet PoolEnt.free s.intr.pool e
def poolMod (s : State) (e : Nat) (g : PoolEnt → PoolEnt) : State :=
  intrMod s (fun x => { x with pool := tabMod PoolEnt.free x.pool e g })
/-- Pool entry of vector v of function f (R194, R396). -/
def vecEntry (s : State) (f v : Nat) : Nat := fldAt s (fnPg f + 0x114) 31 16 + v
/-- The function whose range holds pool entry e; none for a free entry (R396). -/
def entryOwner (s : State) (e : Nat) : Option Nat :=
  (assignedFns s).find? (fun f => decide (vecEntry s f 0 ≤ e ∧ e < vecEntry s f 0 + vectorCount s f))

/-- Vector v of function f fires: it is judged at the next boundary (R398, R399). -/
def fire (s : State) (f v : Nat) : State := intrMod s (fun x => { x with fired := x.fired ++ [(f, v)] })

/-- Number of errors in word w of a pool entry (R402, R413). -/
def poolErrs (p : PoolEnt) (w : Nat) : Nat :=
  let m := tabGet 0 p.ecc w
  if m = 0 then 0 else if m = 3 then 2 else 1

/-- The entry holds an uncorrectable error (R402). -/
def poolBad (p : PoolEnt) : Bool := (List.range 4).any (fun w => poolErrs p w == 2)

/-- An uncorrectable pool word is reported (R402, R413): pool words come to errors by injection alone (R437). -/
def poolReport (s : State) (e w : Nat) : State :=
  let s := logHold s (msxPg + 0x100) 31 (flagAt s (msxPg + 0x01C) 8) (setBits (setBits 0 17 16 w) 15 0 e)
  raiseErrBy s msxPg 8 true

/-- A single-bit error of a pool word was corrected (R402). -/
def poolCorrected (s : State) : State := setEvt (bump s (msxPg + 0x404)) msxPg 8

/-- The words of an entry are used: errors in them are corrected and counted, or reported (R402). -/
def poolUse (s : State) (e : Nat) : State :=
  (List.range 4).foldl (fun s w =>
    match poolErrs (poolOf s e) w with
    | 0 => s
    | 1 => poolCorrected s
    | _ => poolReport s e w) s

/-- A firing is judged at the boundary (R399): discarded, or the pending bit is set; a message goes out while nothing holds it
back. A vector that a cut of this boundary took away is discarded like one that is not enabled (DEDUCED, log entry 101). -/
def judgeFiring (s : State) (p : Nat × Nat) : State :=
  let x := fnOf s p.1
  if !x.msixOn || x.flr || decide (vectorCount s p.1 ≤ p.2) then bump s (msxPg + 0x400)
  else
    let e := vecEntry s p.1 p.2
    poolMod (poolUse s e) e (fun q => { q with pend := true, fn := p.1 })

/-- Nothing holds the pending message of entry e back (R399, R401). -/
def msiReady (s : State) (e : Nat) : Bool :=
  let p := poolOf s e
  let x := fnOf s p.fn
  match fnSeat s p.fn with
  | none => false
  | some n => p.pend && x.msixOn && !x.flr && x.master && !folded s n && !p.mask && !x.msixMsk && !poolBad p

/-- The message of entry e waits for the Dealer and something holds it back again (R399, R401). -/
def msiHeld (s : State) (x : Xact) : Bool :=
  match x.after with
  | .msi e => x.dealt == 0 && !msiReady s e
  | _ => false

/-- Put the message of every ready pending vector before the Dealer, once, for the next boundary (R400, R401); a message that waits there and
may no longer be sent is taken back. -/
def sendPending (s : State) : State :=
  let s := burnXacts s (msiHeld s)
  (s.intr.pool.filter (fun p => p.2.pend)).foldl (fun s p =>
    match fnSeat s p.2.fn with
    | some n =>
      if msiReady s p.1 && !s.xacts.any (fun x => x.after == .msi p.1) then
        enqueue s { xact0 n p.2.fn 3 1 (.tlp n (tlp0 .memWr p.2.fn 0 4)) with posted := true, wait := 2, after := .msi p.1 }
      else s
    | none => s) s

/-- The message of entry e as it is dealt (R400). -/
def msiTlp (s : State) (e : Nat) : Tlp :=
  let p := poolOf s e
  { tlp0 .memWr p.fn (p.hi.toNat * 2 ^ 32 + bits p.lo 31 2 * 4) 4 with data := wordBytes p.data }

/-- Pool writes of the ended trick come into force (R398, R27). -/
def poolCommit (s : State) : State :=
  intrMod s (fun x => { x with pool := x.pool.map (fun p => (p.1, { p.2 with lo := p.2.nlo, hi := p.2.nhi, data := p.2.ndata, mask := p.2.nmask })) })

/-- MSI-X Enable and Function Mask as last written: bits 31 and 30 of the dword at 0xB0 (PRESUMED: Message Control of the PCI
Express specification). Clearing Enable clears the pending bits (R401). -/
def msixCommit (s : State) (f : Nat) : State :=
  let c := cfgAt s f 0xB0
  let on := bitOf c 31
  let s := fnMod s f (fun x => { x with msixOn := on, msixMsk := bitOf c 30 })
  if on then s else intrMod s (fun x => { x with pool := x.pool.map (fun p => if p.2.fn == f then (p.1, { p.2 with pend := false }) else p) })

/-- A host writes word w (0 to 3) of pool entry e under byte mask m (R397, R398): PENDING is not writable; fresh check bits. -/
def poolWrite (s : State) (e w : Nat) (m v : Word) : State :=
  poolMod s e (fun p =>
    let p := { p with ecc := tabDel p.ecc w }
    match w with
    | 0 => { p with nlo := maskWrite p.nlo (m &&& 0xFFFFFFFC#32) v }
    | 1 => { p with nhi := maskWrite p.nhi m v }
    | 2 => { p with ndata := maskWrite p.ndata m v }
    | _ => if bitOf m 0 then { p with nmask := bitOf v 0 } else p)

/-- A read of word w of pool entry e; PENDING shows in the Table view alone (R397). -/
def poolRead (s : State) (e w : Nat) (table : Bool) : Word :=
  let p := poolOf s e
  match w with
  | 0 => p.nlo
  | 1 => p.nhi
  | 2 => p.ndata
  | _ => setBit (setBit 0 0 p.nmask) 16 (table && p.pend)

/-- Word j of function f's PBA (R398). -/
def pbaWord (s : State) (f j : Nat) : Word :=
  BitVec.ofNat 32 (((List.range 32).map (fun i =>
    let v := 32 * j + i
    if decide (v < vectorCount s f) && (poolOf s (vecEntry s f v)).pend then 2 ^ i else 0)).sum)

/-- At a cut, an entry that leaves a function's range loses its pending bit and is masked (R397). -/
def poolCut (old s : State) : State :=
  let cut (p : Nat × PoolEnt) : Nat × PoolEnt :=
    match entryOwner old p.1 with
    | some f => if entryOwner s p.1 = some f then p else (p.1, { p.2 with pend := false, mask := true, nmask := true })
    | none => p
  intrMod s (fun x => { x with pool := (x.pool.map cut).filter (fun p => p.2 ≠ PoolEnt.free) })

/-- FLR of f: every vector masked, nothing pending (R206); a firing of this boundary finds the function in its FLR (R403). -/
def poolFlr (s : State) (f : Nat) : State :=
  let b := vecEntry s f 0
  let left (p : PoolEnt) : PoolEnt := { p with pend := false, mask := true, nmask := true }
  let pool := s.intr.pool.map (fun p => if decide (b ≤ p.1 ∧ p.1 < b + vectorCount s f) then (p.1, left p.2) else p)
  intrMod s (fun x => { x with pool := pool.filter (fun p => p.2 ≠ PoolEnt.free) })

/-- MSX.ECC_INJECT takes effect: flips of check bits of one word (R413). -/
def poolInject (s : State) : State :=
  let c := regAt s (msxPg + 0x110)
  let m := bits c 30 29
  let flip := if m = 1 then 1 else if m = 2 then 3 else 0
  if flip = 0 then s
  else
    let s := regPut s (msxPg + 0x110) (setBits c 30 29 0)
    poolMod s (bits c 15 0) (fun p => { p with ecc := tabMod 0 p.ecc (bits c 17 16) (fun x => Nat.xor x flip) })

/-- The scrub of the pool: single-bit errors are written back, others reported (R41, R402). -/
def scrubPool (s : State) : State :=
  s.intr.pool.foldl (fun s p =>
    p.2.ecc.foldl (fun s w =>
      match poolErrs (poolOf s p.1) w.1 with
      | 0 => s
      | 1 => poolCorrected (poolMod s p.1 (fun q => { q with ecc := tabDel q.ecc w.1 }))
      | _ => poolReport s p.1 w.1) s) s

/-! ## Page events (R404) -/

/-- The bits of a page's event output: enabled events, enabled errors. -/
def evtNow (s : State) (pg : Nat) : Nat × Nat :=
  ((regAt s (pg * 0x1000 + 0x010) &&& regAt s (pg * 0x1000 + 0x014)).toNat, (regAt s (pg * 0x1000 + 0x01C) &&& regAt s (pg * 0x1000 + 0x020)).toNat)

/-- The page's event output is asserted (R404). -/
def evtOut (s : State) (pg : Nat) : Bool := decide (evtNow s pg ≠ (0, 0))

/-- Pages whose header holds anything but its reset value. -/
def evtPages (s : State) : List Nat :=
  (s.regs.filter (fun p => decide (p.1 % 0x1000 < 0x028))).foldl (fun l p => setIns (p.1 / 0x1000) l) (s.intr.seen.map (fun p => p.1))

/-- Where a page's new events go: the function whose vector 0 fires (R404). -/
def evtFn (pg : Nat) : Option Nat :=
  if 0x1000 ≤ pg ∧ pg < 0x2000 then some (pg - 0x1000)
  else if 0x100 ≤ pg ∧ pg < 0x160 then some ((pg - 0x100) / 16)
  else none

/-- New events of this boundary fire (R404). -/
def pageEvents (s : State) : State :=
  (evtPages s).foldl (fun s pg =>
    let was := tabGet (0, 0) s.intr.seen pg
    let now := evtNow s pg
    let fresh := decide (now.1 - Nat.land now.1 was.1 ≠ 0) || decide (now.2 - Nat.land now.2 was.2 ≠ 0)
    let s := intrMod s (fun x => { x with seen := tabPut (0, 0) x.seen pg now })
    match fresh, evtFn pg with
    | true, some f => fire s f 0
    | _, _ => s) s

/-! ## The Table event router (R406 to R410) -/

/-- Every router source that can be routed (R406). -/
def sources : List Nat := List.range 0x15 ++ numsFrom 0x160 0x40 ++ numsFrom 0x1C0 6

/-- Source i is asserted (R406). -/
def srcAsserted (s : State) (i : Nat) : Bool :=
  if i < 0x100 then evtOut s i
  else if i < 0x1C0 then evtOut s i
  else flagAt s (evrPg + 0x108) (i - 0x1C0)

/-- Route of source i: one byte, a bit for each target (R407). -/
def route (s : State) (i : Nat) : Nat := fldAt s (evrPg + 0x200 + i / 4 * 4) (i % 4 * 8 + 7) (i % 4 * 8)

/-- Seat n is folded with cause REMOVAL (R566). -/
def removed (s : State) (n : Nat) : Bool := portFolded s n && fldAt s (foldReg n) 4 0 == 0x13

/-- Source i is routed to target t; bits for absent seats are ignored (R407). A removed seat's alert is offered to House firmware and
the effective button PF too (R566); with no effective button, what is routed to the BUTTON PF is offered to House firmware (R569). -/
def routed (s : State) (i t : Nat) : Bool :=
  ((route s i).testBit t && (decide (6 ≤ t) || seatPresent s t)) ||
  (decide (0x1C0 ≤ i) && removed s (i - 0x1C0) && (t == 6 || t == buttonSeat s)) ||
  (t == 6 && buttonSeat s == 7 && (route s i).testBit (fldAt s 0x130 26 24))

/-- Target t has a PENDING source. -/
def pendingFor (s : State) (t : Nat) : Bool := s.intr.srcs.any (fun i => routed s i t)

/-- The table vector of PF t (R408). -/
def tableVector (s : State) (t : Nat) : Nat := if 2 ≤ vectorCount s t then 1 else 0

/-- The router at a trick boundary (R408): sources change state, targets are notified. -/
def routerStep (s : State) : State :=
  let alert := pendingFor s 7
  let s := sources.foldl (fun s i =>
    if s.intr.claims.any (fun c => c.1 == i) then s
    else
      let a := srcAsserted s i
      if s.intr.srcs.contains i then
        (if a then s else intrMod s (fun x => { x with srcs := setDel i x.srcs }))
      else if a then
        let s := intrMod s (fun x => { x with srcs := setIns i x.srcs })
        let s := (List.range 6).foldl (fun s t => if routed s i t then fire s t (tableVector s t) else s) s
        if routed s i 6 then emit s (.mgmt "HOUSE_IRQ" [i]) else s
      else s) s
  if pendingFor s 7 = alert then s else emit s (.pin "MGMT_ALERT_N" (b2n alert))

/-- MGMT_ALERT_N follows the sources PENDING for MGMT (R408). -/
def alertEdge (old s : State) : State :=
  if pendingFor s 7 = pendingFor old 7 then s else emit s (.pin "MGMT_ALERT_N" (b2n (pendingFor old 7)))

/-- A claim by target t (R409): the word the claim register answers. -/
def claim (s : State) (t : Nat) : Word × State :=
  match s.intr.srcs.find? (fun i => routed s i t) with
  | none => (0xFFF#32, s)
  | some i =>
    let s' := intrMod s (fun x => { x with srcs := setDel i x.srcs, claims := tabIns x.claims i (t, s.time.toNat) })
    (setBit (BitVec.ofNat 32 i) 31 (pendingFor s' t), alertEdge s s')

/-- Target t completes source i (R409): it becomes IDLE when t holds it. -/
def claimDone (s : State) (t i : Nat) : State :=
  if s.intr.claims.any (fun c => c.1 == i && c.2.1 == t) then intrMod s (fun x => { x with claims := tabDel x.claims i }) else s

/-- Every claim of target t is released (R410). -/
def releaseClaims (s : State) (t : Nat) : State := intrMod s (fun x => { x with claims := x.claims.filter (fun c => c.2.1 != t) })

end Sys2Proof.Machine
end

