-- ==== Sys2Proof/Machine/Dma.lean ====
section
/-! DEFINITION. DMA queues (R278 to R313): doorbells, queue commands, fetching, starting and running descriptors, completion
records, interrupts and coalescing, halts, placement. -/

namespace Sys2Proof.Machine

/-! ## A queue's configuration entry and rings (R279, R307) -/

def Queue.num (q : Queue) (o n : Nat) : Nat := leNat ((q.entry.drop o).take n)
/-- Word 0x10 of the entry: IRQ_EN, VECTOR, the sizes. -/
def Queue.ctl (q : Queue) : Word := BitVec.ofNat 32 (q.num 0x10 4)
def Queue.sqBase (q : Queue) : Nat := q.num 0x00 8
def Queue.cqBase (q : Queue) : Nat := q.num 0x08 8
def Queue.irqEn (q : Queue) : Bool := bitOf q.ctl 31
def Queue.vector (q : Queue) : Nat := bits q.ctl 26 16
/-- N and M of R307. -/
def Queue.sqSize (q : Queue) : Nat := 2 ^ bits q.ctl 4 0
def Queue.cqSize (q : Queue) : Nat := 2 ^ bits q.ctl 12 8
def Queue.coalHands (q : Queue) : Nat := q.num 0x15 1
def Queue.coalCount (q : Queue) : Nat := max 1 (q.num 0x14 1)
/-- (a − b) mod n. -/
def ringSub (a b n : Nat) : Nat := (a + n - b % n) % n
/-- Rung descriptors (R282). -/
def Queue.rung (q : Queue) : Nat := ringSub q.tail q.sqHead q.sqSize
/-- Descriptors fetched, being fetched, started or waiting to be reported without a start. -/
def Queue.taken (q : Queue) : Nat := q.running.length + q.fetched.length + q.fetching + q.burnt.length + b2n q.badFetch.isSome
/-- CQ slots free: neither reserved nor written and not released (R307). -/
def Queue.cqFree (q : Queue) : Nat := q.cqSize - 1 - q.running.length - ringSub q.cqW q.cqHead q.cqSize

/-- Statuses that halt the queue (R299). -/
def haltsWith (status : Nat) : Bool := [0x01, 0x02, 0x03, 0x0A, 0x0B, 0x0D].contains status
/-- A halting record is on its way: nothing more starts (R301). -/
def Queue.halting (q : Queue) : Bool := q.running.any (fun r => r.done.isSome && haltsWith r.status) || q.burnt.any (fun b => haltsWith b.status)

/-- The queue is HELD, BENCHED, FOLDED (R280). -/
def qHeld (s : State) (q : Queue) : Bool := !(fnOf s q.fn).master
def qFolded (s : State) (q : Queue) : Bool := match fnSeat s q.fn with
  | some n => folded s n
  | none => false

/-- The fields of Q_STATUS that are the queue's own (R280). -/
def qOwnStat (q : Queue) : Word := setBits (setBits (setBits 0 31 29 q.st) 23 16 q.lastErr) 15 0 q.sqHead

/-- Q_STATUS of a queue of function f (R280). -/
def qStatus (s : State) (f : Nat) (q : Queue) : Word :=
  let q := { q with fn := f }
  let w := qOwnStat q
  setBit (setBit (setBit w 28 (qHeld s q)) 27 (fnOf s f).bench) 26 (qFolded s q)

/-- The four doorbell words of queue q of function f as they read (R280). -/
def doorbellRead (s : State) (f q w : Nat) : Word :=
  let x := queueOf s (pairOf s f q)
  match w with
  | 0 => BitVec.ofNat 32 x.tail
  | 1 => BitVec.ofNat 32 x.cqHead
  | 2 => BitVec.ofNat 32 x.op
  | _ => qStatus s f x

/-- FN.Q_HALTED[j] of function f (R309). -/
def qHaltedWord (s : State) (f j : Nat) : Word :=
  BitVec.ofNat 32 (((List.range 32).map (fun i =>
    if decide (32 * j + i < queueCount s f) && (queueOf s (pairOf s f (32 * j + i))).st == 4 then 2 ^ i else 0)).sum)

/-- A word of the queue context view (R310). HELD, BENCHED and FOLDED tell of a function: they read 0 on a pair that belongs to none (log
entry 104). -/
def ctxWord (s : State) (k o : Nat) : Word :=
  let q := queueOf s k
  let f := (pairOwner s k).1
  if o < 0x40 then BitVec.ofNat 32 (q.num o 4)
  else if o = 0x40 then (if (pairFn s k).isSome then qStatus s f q else qOwnStat q)
  else if o = 0x44 then BitVec.ofNat 32 (f * 65536 + q.tail)
  else if o = 0x48 then BitVec.ofNat 32 (q.cqW * 65536 + q.cqHead)
  else if o = 0x4C then BitVec.ofNat 32 q.cell
  else 0

/-! ## Doorbells (R280 to R282, R284, R306) -/

/-- A doorbell write that is applied: it is sampled at the boundary that ends this trick; the last write wins (R281). While the
seat is folded it is dropped (R416). -/
def doorbell (s : State) (f q w v : Nat) : State :=
  match fnSeat s f with
  | none => s
  | some n =>
    if folded s n || decide (queueCount s f ≤ q) then s
    else queueMod s (pairOf s f q) (fun x =>
      let x := if x.st = 0 then { x with fn := f, q := q } else x
      match w with
      | 0 => { x with pTail := some (v % 65536) }
      | 1 => { x with pHead := some (v % 65536) }
      | 2 => { x with pCmd := some (v % 16) }
      | _ => x)

/-- A bad doorbell (R282). -/
def badDoorbell (s : State) : State := setEvt (bump s (dmaPg + 0x414)) dmaPg 10
/-- An ignored command (R284). -/
def badCmd (s : State) (k : Nat) : State := bump (queueMod s k (fun q => { q with lastErr := 0x13 })) (dmaPg + 0x418)

/-- Fetch reads of queue pair k still on their way end in nothing (R284 RESUME, R306). -/
def killFetch (s : State) (k : Nat) : State :=
  let dead (w : Why) : Why := match w with
    | .fetch j i c => if j = k then .fetch j i 0 else .fetch j i c
    | w => w
  let kill (e : TagEnt) : TagEnt := { e with why := dead e.why }
  let seat (x : Seat) : Seat := { x with tags := x.tags.map (fun t => (t.1, kill t.2)) }
  let xact (x : Xact) : Xact := { x with ask := x.ask.map kill }
  { s with xacts := s.xacts.map xact, seats := s.seats.map (fun p => (p.1, seat p.2)) }

/-- A deck that has passed CHECK would change the queue pair of queue q of f, or the vector count below `v` (R285). -/
def deckPending (s : State) (f q : Nat) (vec : Option Nat) : Bool :=
  (List.range 7).any (fun d =>
    decide (2 ≤ deckState s d ∧ deckState s d ≤ 4) &&
    (let n := prospective s d (fnPg f + 0x110)
     let o := regAt s (fnPg f + 0x110)
     (vec.isNone && (decide (bits n 29 16 ≠ bits o 29 16) || decide (bits n 8 0 ≤ q))) ||
     (match vec with
      | some v => decide (bits (prospective s d (fnPg f + 0x114)) 11 0 ≤ v)
      | none => false)))

/-- The cell that started the fewest cards in the last complete hand, the lowest number on a tie (R308). -/
def idlestCell (s : State) : Nat :=
  (List.range 48).foldl (fun b c => if tabGet 0 s.cells.last c < tabGet 0 s.cells.last b then c else b) 0

/-- Table address of the configuration entry of queue q of f (R278). -/
def qctxAddr (s : State) (f q : Nat) : Nat := (regAt s (fnPg f + 0x164)).toNat * 2 ^ 32 + fldAt s (fnPg f + 0x160) 31 12 * 4096 + 64 * q

/-- What ABORT reports: every rung descriptor not started, in ring order, with status BURNED (R284). The COOKIE of one that has not been
fetched is not known to the device: a free value. -/
def abortList (s : State) (q : Queue) : List Burnt :=
  let first := q.running.length + q.burnt.length
  (List.range (q.rung - first)).map (fun i =>
    let idx := (q.sqHead + first + i) % q.sqSize
    { idx := idx, status := 0x09, time := nextBoundary s,
      cookie := match q.fetched.find? (fun d => d.idx == idx) with
        | some d => d.num 8 8
        | none => Config.freeValue (s.freeCtr + i) % 2 ^ 64 })

/-- What a queue holds of descriptors not started is discarded (R284, R306). -/
def Queue.unfetch (q : Queue) : Queue := { q with fetched := [], fetching := 0, arrived := none, badFetch := none }

/-- A command acts (R284): its OP is shown already. -/
def qAct (s : State) (k op : Nat) : State :=
  let q := queueOf s k
  match op, q.st with
  | 1, 0 =>
    if deckPending s q.fn q.q none then queueMod s k (fun q => { q with op := 0, lastErr := 0x11 })
    else askRead (queueMod s k (fun q => { q with st := 1, loaded := none })) q.fn (qctxAddr s q.fn q.q) 64 0 15 1 (.ctx k)
  | 2, 2 | 2, 4 => killFetch (queueMod s k (fun q => { q.unfetch with st := 3 })) k
  | 3, 2 | 3, 4 =>
    let gone := abortList s q
    let s := { s with freeCtr := s.freeCtr + gone.length }
    killFetch (queueMod s k (fun q => { q.unfetch with st := 3, burnt := q.burnt ++ gone })) k
  | 4, 4 => killFetch (queueMod s k (fun q => { q.unfetch with st := 2, op := 0 })) k
  | _, _ => badCmd (queueMod s k (fun q => { q with op := 0 })) k

/-- The command has an action in this state (R284). -/
def qCmdFits (op st : Nat) : Bool :=
  (op == 1 && st == 0) || ((op == 2 || op == 3) && (st == 2 || st == 4)) || (op == 4 && st == 4)

/-- A sampled command (R284): ignored, waiting while the queue is HELD, or acting. -/
def qSampleCmd (s : State) (k op : Nat) : State :=
  let q := queueOf s k
  if q.op ≠ 0 ∨ !qCmdFits op q.st then badCmd s k
  else
    let s := queueMod s k (fun q => { q with op := op })
    if qHeld s q then s else qAct s k op

/-- A sampled tail (R282). -/
def qSampleTail (s : State) (k v : Nat) : State :=
  let q := queueOf s k
  if q.st ≤ 1 ∨ q.sqSize ≤ v ∨ ringSub v q.sqHead q.sqSize < q.taken then badDoorbell s
  else queueMod s k (fun q => { q with tail := v })

/-- A sampled head (R282). -/
def qSampleHead (s : State) (k v : Nat) : State :=
  let q := queueOf s k
  if q.st ≤ 1 ∨ q.cqSize ≤ v ∨ ringSub q.cqW q.cqHead q.cqSize < ringSub v q.cqHead q.cqSize then badDoorbell s
  else queueMod s k (fun q => { q with cqHead := v })

/-- What queue pair k sampled at a boundary acts: Q_CMD, then SQ_TAIL, then CQ_HEAD (R281); a waiting command acts once the
queue is no longer HELD (R284). -/
def qSample (s : State) (k : Nat) : State :=
  let q := queueOf s k
  let s := queueMod s k (fun q => { q with pCmd := none, pTail := none, pHead := none })
  let s := if q.op ≠ 0 && qCmdFits q.op q.st && !qHeld s q then qAct s k q.op else s
  let s := match q.pCmd with
    | some v => qSampleCmd s k v
    | none => s
  let s := match q.pTail with
    | some v => qSampleTail s k v
    | none => s
  match q.pHead with
  | some v => qSampleHead s k v
  | none => s

/-- Step 3 of a trick boundary: all doorbells are sampled (R37). -/
def sampleDoorbells (s : State) : State :=
  (s.queues.filter (fun p => p.2.pCmd.isSome || p.2.pTail.isSome || p.2.pHead.isSome || decide (p.2.op ≠ 0))).foldl (fun s p => qSample s p.1) s

/-! ## Loading the entry, fetching (R284, R285, R290) -/

/-- The read of a queue's configuration entry has ended (R284, R285). -/
def configLoaded (s : State) (k : Nat) : State :=
  let q := queueOf s k
  match q.st, q.loaded with
  | 1, some none => queueMod s k (fun q => { q with st := 0, op := 0, loaded := none, lastErr := 0x0D })
  | 1, some (some d) =>
    let x := { q with entry := d }
    let sz (n : Nat) : Bool := decide (6 ≤ n ∧ n ≤ 16)
    let ok := sz (bits x.ctl 4 0) && sz (bits x.ctl 12 8) && decide (x.sqBase % 4096 = 0 ∧ x.cqBase % 4096 = 0) &&
      (!x.irqEn || decide (x.vector < vectorCount s q.fn))
    if !ok then queueMod s k (fun q => { q with st := 0, op := 0, loaded := none, lastErr := 0x10 })
    else if x.irqEn && deckPending s q.fn q.q (some x.vector) then
      queueMod s k (fun q => { q with st := 0, op := 0, loaded := none, lastErr := 0x11 })
    else
      let c := idlestCell s
      queueMod s k (fun q => { Queue.idle with fn := q.fn, q := q.q, st := 2, entry := d, cell := c, pTail := q.pTail, pHead := q.pHead, pCmd := q.pCmd })
  | _, _ => s

/-- The next fetch of queue pair k: first index and count; 0 where nothing is to be fetched (R290): at most 512 B, not past the
ring's end, at most 16 fetched and not started. -/
def nextFetch (q : Queue) : Nat × Nat :=
  let i := (q.sqHead + q.taken) % q.sqSize
  (i, min (min 8 (q.sqSize - i)) (min (q.rung - q.taken) (16 - q.fetched.length - q.fetching)))

/-- The device issues a host read for rung descriptors (R290). -/
def fetch (s : State) (k : Nat) : State :=
  let q := queueOf s k
  let (i, n) := nextFetch q
  if q.st ≠ 2 ∨ n = 0 ∨ q.fetching ≠ 0 ∨ q.badFetch.isSome ∨ qHeld s q ∨ qFolded s q ∨ q.halting then s
  else askRead (queueMod s k (fun q => { q with fetching := n })) q.fn (q.sqBase + 64 * i) (64 * n) 0 15 1 (.fetch k i n)

/-- The descriptors in the bytes of a fetch. -/
def splitDescs (n : Nat) : Nat → Nat → List Byte → List Desc
  | 0, _, _ => []
  | c + 1, i, d => { idx := i % n, raw := d.take 64 } :: splitDescs n c (i + 1) (d.drop 64)

/-- A fetch has ended (R290): its descriptors are held, or the first is to be reported with FETCH_ERROR after every earlier one. The device
has not read that descriptor's COOKIE: a free value. -/
def fetchDone (s : State) (k : Nat) : State :=
  let q := queueOf s k
  match q.arrived with
  | none => s
  | some (i, some d) => queueMod s k (fun q => { q with arrived := none, fetching := 0, fetched := q.fetched ++ splitDescs q.sqSize (d.length / 64) i d })
  | some (i, none) =>
    let (c, s) := freshFree s
    queueMod s k (fun q => { q with arrived := none, fetching := 0, badFetch := some { idx := i, status := 0x0D, time := nextBoundary s, cookie := Config.freeValue c % 2 ^ 64 } })

/-! ## Starting a descriptor (R289, R291) -/

/-- The start checks of R289: the status of the first that fails, 0 for none. -/
def startCheck (d : Desc) : Nat :=
  let ctrl := d.num 0 4
  let op := ctrl % 256
  let len := d.num 4 4
  if 5 < op ∨ ctrl / 65536 % 8 = 6 ∨ ctrl / 65536 % 8 = 7 then 0x02
  else if (op = 1 ∨ op = 2) ∧ (d.num 0x10 8 % 64 ≠ 0 ∨ d.num 0x18 8 % 64 ≠ 0 ∨ len % 64 ≠ 0 ∨ len = 0 ∨ 2 ^ 24 < len) then 0x01
  else if op = 3 ∧ (d.num 0x18 8 % 64 ≠ 0 ∨ len = 0 ∨ 32 < len) then 0x01
  else 0

/-- The conditions of R291 for the next fetched descriptor. -/
def canStart (s : State) (k : Nat) : Option Desc :=
  let q := queueOf s k
  match q.fetched with
  | [] => none
  | d :: _ =>
    if q.st = 2 && !qHeld s q && !(fnOf s q.fn).bench && !qFolded s q && !q.halting && decide (q.running.length < 16) && decide (0 < q.cqFree)
       && (!(d.op == 4 || d.op == 5) || (q.running.isEmpty && q.burnt.isEmpty)) then some d else none

/-- Status and reason a descriptor completes with when it starts; none when it goes on (R289, R293, R295). -/
def startEnds (q : Queue) (d : Desc) : Option Nat :=
  let c := startCheck d
  if c ≠ 0 then some c
  else if d.op = 0 then some 0
  else if d.op = 4 then some (if bitOf (BitVec.ofNat 32 (d.num 0 4)) 10 && q.erred then 0x0B else 0)
  else none

/-- Start the next descriptor of queue pair k (R291): a CQ slot is reserved by its place among the started ones. A FENCE starts
a new interval for R295. -/
def startDesc (s : State) (k : Nat) (d : Desc) : State :=
  let e := startEnds (queueOf s k) d
  queueMod s k (fun q => { q with
    fetched := q.fetched.drop 1, erred := if d.op = 4 && startCheck d == 0 then false else q.erred,
    running := q.running ++ [{ desc := d, start := s.time.toNat, issued := 0, moved := 0, status := e.getD 0, reason := 0, mark := s.xlt.lineSer, done := e.map (fun _ => s.time.toNat) }] })

/-- Start the next descriptor if it may start and `op` picks it. -/
def startIf (s : State) (k : Nat) (p : Desc → Bool) : State :=
  match canStart s k with
  | some d => if p d then startDesc s k d else s
  | none => s

/-! ## Moving data (R292) -/

/-- Cards that a descriptor's cell starts, toward the fabric (`dir` 0) or the host (1) (R308, R313). -/
def countCards (s : State) (k dir n bytes : Nat) : State :=
  let c := (queueOf s k).cell
  let s := queueMod s k (fun q => { q with handCards := q.handCards + n, bytes := q.bytes + bytes })
  { s with cells := { s.cells with now := tabMod 0 s.cells.now c (· + n), load := tabMod 0 s.cells.load (2 * c + dir) (· + n) } }

/-- A trick ends: each cell had room to start 20 cards in each direction (R308). -/
def drainCells (s : State) : State := { s with cells := { s.cells with load := (s.cells.load.map (fun p => (p.1, p.2 - 20))).filter (fun p => p.2 != 0) } }

/-- The started descriptor with SQ index i may issue its next part: not HELD, not FOLDED, not ended, and its cell has room in this trick: it
starts at most 20 cards in each direction (R308); the part that fills it goes on in the next tricks. -/
def mayIssue (s : State) (k i dir : Nat) : Option Run :=
  let q := queueOf s k
  if qHeld s q || qFolded s q || decide (20 ≤ tabGet 0 s.cells.load (2 * q.cell + dir)) then none
  else (q.running.find? (fun r => r.desc.idx == i)).bind (fun r => liveRun s k i r.issued)

/-- `n` more bytes of a started descriptor's data have been asked for or sent. -/
def runIssued (s : State) (k i n : Nat) : State := runMod s k i (fun r => { r with issued := r.issued + n })

/-- The next host read of a COPY_TO_FABRIC (R292): it respects MRRS, 4 KiB boundaries and the XT granule. -/
def copyToFabric (s : State) (k i : Nat) : State :=
  match mayIssue s k i 0 with
  | none => s
  | some r =>
    let q := queueOf s k
    let len := r.desc.num 4 4
    if r.desc.op ≠ 1 ∨ len ≤ r.issued then s
    else
      let a := r.desc.num 0x10 8 + r.issued
      let o := r.desc.num 0x18 8 + r.issued
      let n := min (piece a (len - r.issued) (mrrs s q.fn)) (4096 - o % 4096)
      askRead (countCards (runIssued s k i n) k 0 (cardsFor n) n) q.fn a n r.desc.attr 15 1 (.dma k i r.issued)

/-- The next Nicen RD of a COPY_FROM_FABRIC (R292, R360): at most 4,096 B, within one XT entry and 4 KiB of OFFSET. -/
def copyFromFabric (s : State) (k i : Nat) : State :=
  match mayIssue s k i 1 with
  | none => s
  | some r =>
    let q := queueOf s k
    let len := r.desc.num 4 4
    if r.desc.op ≠ 2 ∨ len ≤ r.issued then s
    else
      let o := r.desc.num 0x18 8 + r.issued
      let n := min (len - r.issued) (4096 - o % 4096)
      match dmaPath s q.fn o .read with
      | (.inr (status, reason), s) => runErr s k i r.issued status reason
      | (.inl (l, ep, off, trump), s) =>
        let x := { txn0 0x02 1 ((fnSeat s q.fn).getD 7) q.fn 0 with attr := r.desc.attr, len := lenOf n, last := lastOf n, ep := ep, off := off }
        sendNicen (countCards (runIssued s k i n) k 1 (cardsFor n) n) l q.fn 1 1 false trump { acct := .owed, kit := 0 } x (some (TagEnt.ask q.fn (.dma k i r.issued) r.issued n (cardsFor n) 1)) .none

/-- MSG_SEND sends its one card (R288, R292). -/
def msgSend (s : State) (k i : Nat) : State :=
  match mayIssue s k i 0 with
  | none => s
  | some r =>
    let q := queueOf s k
    let len := r.desc.num 4 4
    if r.desc.op ≠ 3 ∨ r.issued ≠ 0 then s
    else match dmaPath s q.fn (r.desc.num 0x18 8) .write with
    | (.inr (status, reason), s) => runErr s k i 0 status reason
    | (.inl (l, ep, off, trump), s) =>
      let d := (swapBytes (r.desc.num 0 4 / 65536 % 8) ((r.desc.raw.drop 0x20).take 32)).take len
      let x := { txn0 0x08 3 ((fnSeat s q.fn).getD 7) q.fn 0 with attr := r.desc.attr, len := 1, last := len, ep := ep, off := off, data := d }
      sendNicen (countCards (runIssued s k i len) k 0 1 len) l q.fn 3 1 true trump { acct := .owed, kit := 0 } x none (.part k i 0 len false)

/-- Data of a COPY_FROM_FABRIC has come back from the fabric for place `o` (R292, R364): swapped, it becomes host writes; the
completion's cards hold them. -/
def copyIn (s : State) (k i o : Nat) (e : TagEnt) (data : List Byte) (poison : Bool) : State :=
  match liveRun s k i o with
  | none => endCards s e
  | some r =>
    sendWrites (useReserve s e.fn e.cards) e.fn (r.desc.num 0x10 8 + o) (swapBytes (r.desc.num 0 4 / 65536 % 8) data) poison r.desc.attr
      { xact0 0 e.fn 3 1 (.tlp 0 (tlp0 .memWr e.fn 0 0)) with acct := .fn e.fn, kit := e.kit }
      (fun p => .part k i (o + p.1) p.2 poison)

/-! ## Completing and reporting (R293 to R301) -/

/-- A part of the started descriptor with SQ index i is still on its way: a waiting or outstanding request, a waiting write or message. -/
def runBusy (s : State) (k i : Nat) (stop : Option Nat) : Bool :=
  let mine (e : TagEnt) : Bool := !e.quar && (match e.why with
    | .dma k' i' o => k' == k && i' == i && stop.all (fun p => decide (o < p))
    | _ => false)
  s.xacts.any (fun x => x.ofRun k i 0) || s.seats.any (fun p => p.2.tags.any (fun t => mine t.2)) || s.links.any (fun p => p.2.tags.any (fun t => mine t.2))

/-- A started descriptor completes at the boundary at which its last card was accounted for (R293): all of it was issued, or an error ended
it, and nothing of it is on its way or unacknowledged. -/
def descComplete (s : State) (k i : Nat) : State :=
  match (queueOf s k).running.find? (fun r => r.desc.idx == i) with
  | some r =>
    if r.done.isNone ∧ (r.desc.op = 1 ∨ r.desc.op = 2 ∨ r.desc.op = 3) ∧ (r.issued = r.desc.num 4 4 ∨ r.stop.isSome) ∧ r.frames = [] ∧
       !runBusy s k i r.stop ∧ r.last ≤ s.time.toNat then
      runMod s k i (fun r => { r with done := some r.last })
    else s
  | none => s

/-- A started LOG_BARRIER completes when its condition holds (R238, R296). -/
def logBarrier (s : State) (k : Nat) : State :=
  match (queueOf s k).running.find? (fun r => r.desc.op == 5 && r.done.isNone) with
  | some r => if barrierDone s (queueOf s k).fn r.mark then runMod s k r.desc.idx (fun r => { r with done := some (nextBoundary s) }) else s
  | none => s

/-- The 32 bytes of a completion record (R297). -/
def recordBytes (q : Queue) (idx status reason bytes time cookie : Nat) : List Byte :=
  natLe 4 (b2n q.phase * 2 ^ 31 + status * 65536 + reason * 4096 + q.q) ++ natLe 4 idx ++ natLe 4 bytes ++ natLe 4 0 ++
    natLe 8 time ++ natLe 8 cookie

/-- The counter a record's status advances (R312). -/
def recordCnt (status : Nat) : Option Nat :=
  match status with
  | 0x01 => some 0x404 | 0x03 => some 0x408 | 0x04 => some 0x40C | 0x09 => some 0x410
  | _ => none

/-- The queue halts with a status (R301). A queue that drains goes on draining: the command acts from HALTED (R306). -/
def qHalt (s : State) (k status : Nat) : State :=
  let q := queueOf s k
  let s := queueMod s k (fun q => { q with st := if q.st = 3 then 3 else 4, lastErr := status })
  setEvt (setEvt (bump s (dmaPg + 0x400)) dmaPg 8) (fnPg q.fn) 11

/-- The CQ interrupt is sent; count and timer restart (R300). -/
def qInterrupt (s : State) (k : Nat) : State :=
  let q := queueOf s k
  fire (queueMod s k (fun q => { q with coal := 0, coalHand := none })) q.fn q.vector

/-- A record has been dealt: does it raise the interrupt now (R300)? -/
def qSignal (s : State) (k status : Nat) (now : Bool) : State :=
  let q := queueOf s k
  if !q.irqEn then s
  else if now || decide (status ≠ 0) || decide (q.coalCount ≤ q.coal + 1) then qInterrupt s k
  else queueMod s k (fun q => { q with coal := q.coal + 1, coalHand := some (q.coalHand.getD (handNo s)) })

/-- What a record says (R297): its descriptor's index, status, reason, bytes delivered, boundary of completion, COOKIE; IRQ (R300); and
whether it is a FENCE's own (R295). -/
structure Report where
  idx    : Nat
  status : Nat
  reason : Nat := 0
  bytes  : Nat := 0
  time   : Nat
  cookie : Nat
  irq    : Bool := false
  fence  : Bool := false

/-- What is to be reported next in ring order: the descriptor at SQ_HEAD, if it has completed (R294). -/
def nextReport (q : Queue) : Option Report :=
  match q.running.find? (fun r => r.desc.idx == q.sqHead) with
  | some r => r.done.map (fun t =>
      { idx := r.desc.idx, status := r.status, reason := r.reason, bytes := r.moved, time := t, cookie := r.desc.num 8 8,
        irq := bitOf (BitVec.ofNat 32 (r.desc.num 0 4)) 8, fence := r.desc.op == 4 && startCheck r.desc == 0 })
  | none =>
    match (q.burnt ++ q.badFetch.toList).find? (fun b => b.idx == q.sqHead) with
    | some b => some { idx := b.idx, status := b.status, time := b.time, cookie := b.cookie }
    | none => none

/-- The record that waits, as it is dealt: the next of the queue's CQ, the report of the descriptor at SQ_HEAD (R294, R297). -/
def recordTlp (s : State) (k : Nat) (t : Tlp) : Tlp :=
  let q := queueOf s k
  match nextReport q with
  | some r => { t with addr := q.cqBase + 32 * q.cqW, data := recordBytes q r.idx r.status r.reason r.bytes r.time r.cookie }
  | none => t

/-- The descriptor with SQ index `idx` is reported: SQ_HEAD passes it (R294). -/
def Queue.pass (q : Queue) (idx : Nat) : Queue :=
  { q with sqHead := (idx + 1) % q.sqSize, reported := q.reported + 1, running := q.running.filter (fun r => r.desc.idx != idx),
           burnt := q.burnt.filter (fun b => b.idx != idx), badFetch := q.badFetch.filter (fun b => b.idx != idx) }

/-- The record of queue pair k has been dealt (R294, R298, R300, R301, R312). -/
def recordSent (s : State) (k : Nat) : State :=
  match nextReport (queueOf s k) with
  | none => s
  | some r =>
    let s := queueMod (tally s 3 (queueOf s k).fn (b2n (decide (r.status ≠ 0)))) k (fun q =>
      let w := (q.cqW + 1) % q.cqSize
      { q.pass r.idx with cqW := w, phase := if w = 0 then !q.phase else q.phase, erred := q.erred || (decide (r.status ≠ 0) && !r.fence) })
    let s := match recordCnt r.status with
      | some o => bump s (dmaPg + o)
      | none => s
    let s := if haltsWith r.status then qHalt s k r.status else s
    qSignal s k r.status r.irq

/-- The transaction is a completion record of queue pair k. -/
def Xact.isRecord (x : Xact) (k : Nat) : Bool :=
  match x.after with
  | .record k' _ => k' == k
  | _ => false

/-- The report that is next in ring order (R294): a SUCCESS with NOREC is passed; any other is put before the Dealer as a 32 B posted write
of Bulk class, Relaxed Ordering clear, No Snoop as the descriptor says (R287), one at a time. -/
def completionRecord (s : State) (k : Nat) : State :=
  let q := queueOf s k
  if qFolded s q || s.xacts.any (fun x => x.isRecord k) then s
  else match nextReport q, fnSeat s q.fn with
  | some r, some n =>
    let d := (q.running.find? (fun x => x.desc.idx == q.sqHead)).map (fun x => x.desc)
    if r.status = 0 ∧ (d.elim false (fun d => bitOf (BitVec.ofNat 32 (d.num 0 4)) 9 && decide (d.op < 4))) then queueMod s k (fun q => q.pass r.idx)
    else if qHeld s q = true ∨ (d.isNone ∧ q.cqFree = 0) then s
    else
      let attr := (d.elim 0 (fun d => d.attr)) / 4 * 4
      enqueue s { xact0 n q.fn 3 1 (.tlp n { tlp0 .memWr q.fn (q.cqBase + 32 * q.cqW) 32 with attr := hostAttr s q.fn attr }) with posted := true, after := .record k r.idx }
  | _, _ => s

/-- A DRAINING queue with nothing left to report reaches DISABLED (R284). -/
def qDrained (s : State) (k : Nat) : State :=
  let q := queueOf s k
  if q.st = 3 ∧ q.running = [] ∧ q.burnt = [] then queueMod s k (fun q => { q with st := 0, op := 0 }) else s

/-- Everything of queue pair k that waits for the Dealer and is not being dealt is burned. -/
def qBurn (s : State) (k : Nat) : State :=
  burnXacts s (fun x => x.dealt == 0 && (x.isRecord k || (match x.run with
    | some (k', _, _) => k' == k
    | none => false)))

/-- An uncorrectable queue context (R305), `inj` by injection. DESIGN CHOICE (log entry 103): the halt writes the context afresh. -/
def ctxEcc (s : State) (k : Nat) (inj : Bool) : State :=
  let q := queueOf s k
  let s := killFetch (queueMod (qBurn s k) k (fun q => { q.unfetch with st := 4, op := 0, lastErr := 0x14, running := [], burnt := [], ecc := 0 })) k
  raiseErrBy (setEvt (setEvt (bump s (dmaPg + 0x400)) dmaPg 8) (fnPg q.fn) 11) dmaPg 8 inj

/-- An injected flip of two bits of a context (R439). It is found at once where a cell serves the queue, and by the scrubber otherwise. -/
def ctxFlip (s : State) (k : Nat) : State :=
  let q := queueOf s k
  if q.st = 0 then queueMod s k (fun q => { q with ecc := if q.ecc = 2 then 0 else 2 }) else ctxEcc s k true

/-- The scrub of the queue contexts (R41, R305, R312). -/
def scrubQueues (s : State) : State :=
  (s.queues.filter (fun p => decide (p.2.ecc ≠ 0))).foldl (fun s p =>
    if p.2.ecc = 1 then bump (queueMod s p.1 (fun q => { q with ecc := 0 })) (dmaPg + 0x420) else ctxEcc s p.1 true) s

/-- FLR of f: its queues are DISABLED; rung and fetched descriptors not started are burned and counted (R204, R306). Answers how
many. -/
def qFlr (s : State) (f : Nat) : State × Nat :=
  let s := burnXacts s (fun x => x.src == 15 && x.fn == f && x.dealt == 0 && !x.bare && x.ask.isNone && (match x.after with
    | .bitmap _ _ _ => false
    | _ => true))
  (s.queues.filter (fun p => p.2.fn == f && decide (p.2.st ≠ 0))).foldl (fun a p =>
    let q := p.2
    let n := if q.st = 1 then 0 else q.rung - q.running.length
    let s := killFetch (queueMod a.1 p.1 (fun q => { q.unfetch with st := 0, op := 0, lastErr := 0x09, running := [], loaded := none, burnt := [], pCmd := none, pTail := none, pHead := none })) p.1
    (bumpBy s (dmaPg + 0x410) n, a.2 + n)) (s, 0)

/-! ## Placement (R308) -/

/-- The busiest cell, the lowest number on a tie. -/
def busiestCell (t : Tab Nat) : Nat := (List.range 48).foldl (fun b c => if tabGet 0 t b < tabGet 0 t c then c else b) 0
/-- The least busy cell. -/
def laziestCell (t : Tab Nat) : Nat := (List.range 48).foldl (fun b c => if tabGet 0 t c < tabGet 0 t b then c else b) 0

/-- At most n placement moves: (R308). The moved queue's cards go with it for the next comparison. -/
def placeMoves : Nat → Tab Nat → State → State
  | 0, _, s => s
  | n + 1, t, s =>
    let b := busiestCell t
    let l := laziestCell t
    if tabGet 0 t b ≤ 65536 ∨ 32768 ≤ tabGet 0 t l then s
    else
      let cand := s.queues.filter (fun p => decide (p.2.st ≠ 0) && p.2.cell == b && p.2.running.isEmpty && p.2.burnt.isEmpty && p.2.badFetch.isNone)
      match cand.foldl (fun m p => match m with
          | none => some p
          | some x => if p.2.handCards < x.2.handCards then some p else some x) (none : Option (Nat × Queue)) with
      | none => s
      | some (k, q) =>
        let s := queueMod s k (fun q => { q with cell := l })
        let s := { s with cells := { s.cells with moves := tabMod 0 (tabMod 0 s.cells.moves b (· + 1)) l (· + 1) } }
        let s := setEvt (bump s (dmaPg + 0x41C)) dmaPg 9
        placeMoves n (tabPut 0 (tabPut 0 t b (tabGet 0 t b - q.handCards)) l (tabGet 0 t l + q.handCards)) s

/-- The placement inspection of a hand boundary (R308, R313). -/
def placement (s : State) : State :=
  let t := s.cells.now
  let s := placeMoves 4 t { s with cells := { s.cells with last := t, now := [], hand := handNo s } }
  { s with queues := s.queues.map (fun p => (p.1, { p.2 with handCards := 0 })) }

/-! ## Commands -/

/-- The coalescing timer of a queue runs out (R300): COAL_HANDS hand boundaries have passed since the first record after the last
interrupt. -/
def coalExpire (s : State) (k : Nat) : State :=
  let q := queueOf s k
  match q.coalHand with
  | some h => if q.irqEn ∧ q.coalHands ≠ 0 ∧ q.coalHands ≤ (handNo s + 2 ^ 40 - h) % 2 ^ 40 then qInterrupt s k else s
  | none => s

/-- COAL_TIMER_EXPIRE (R300). -/
def execCoalTimerExpire (q : Fin 16384) (s : State) : Answer := finish (coalExpire s q.val)

/-- SQ_TAIL_WRITE (R280, R281). -/
def execSqTailWrite (f : Fin 4096) (q : Fin 256) (v : Word) (s : State) : Answer := finish (doorbell s f.val q.val 0 v.toNat)
/-- CQ_HEAD_WRITE (R280, R281). -/
def execCqHeadWrite (f : Fin 4096) (q : Fin 256) (v : Word) (s : State) : Answer := finish (doorbell s f.val q.val 1 v.toNat)
/-- QUEUE_ENABLE: OP ENABLE written to Q_CMD (R284). -/
def execQueueEnable (f : Fin 4096) (q : Fin 256) (s : State) : Answer := finish (doorbell s f.val q.val 2 1)
/-- QUEUE_DISABLE: OP DISABLE written to Q_CMD (R284). -/
def execQueueDisable (f : Fin 4096) (q : Fin 256) (s : State) : Answer := finish (doorbell s f.val q.val 2 2)
/-- QUEUE_ABORT: OP ABORT written to Q_CMD (R284). -/
def execQueueAbort (f : Fin 4096) (q : Fin 256) (s : State) : Answer := finish (doorbell s f.val q.val 2 3)
/-- QUEUE_RESUME: OP RESUME written to Q_CMD (R284). -/
def execQueueResume (f : Fin 4096) (q : Fin 256) (s : State) : Answer := finish (doorbell s f.val q.val 2 4)
/-- QUEUE_CONFIG_LOADED (R284). -/
def execQueueConfigLoaded (k : Fin 16384) (s : State) : Answer := finish (configLoaded s k.val)
/-- QUEUE_DRAINED (R284). -/
def execQueueDrained (k : Fin 16384) (s : State) : Answer := finish (qDrained s k.val)
/-- DESC_FETCH (R290). -/
def execDescFetch (k : Fin 16384) (s : State) : Answer := finish (fetch s k.val)
/-- DESC_FETCH_DONE (R290). -/
def execDescFetchDone (k : Fin 16384) (s : State) : Answer := finish (fetchDone s k.val)
/-- DESC_START (R289, R291): the next descriptor, whatever its opcode. -/
def execDescStart (k : Fin 16384) (s : State) : Answer := finish (startIf s k.val (fun _ => true))
/-- DESC_NOP (R293): the next descriptor is a NOP and completes when it starts. -/
def execDescNop (k : Fin 16384) (s : State) : Answer := finish (startIf s k.val (fun d => d.op == 0))
/-- COPY_TO_FABRIC (R292): the next part of a started copy. -/
def execCopyToFabric (k : Fin 16384) (i : Fin 65536) (s : State) : Answer := finish (copyToFabric s k.val i.val)
/-- COPY_FROM_FABRIC (R292): the next part of a started copy. -/
def execCopyFromFabric (k : Fin 16384) (i : Fin 65536) (s : State) : Answer := finish (copyFromFabric s k.val i.val)
/-- MSG_SEND (R292). -/
def execMsgSend (k : Fin 16384) (i : Fin 65536) (s : State) : Answer := finish (msgSend s k.val i.val)
/-- FENCE (R295): the next descriptor is a FENCE and completes when it starts. -/
def execFence (k : Fin 16384) (s : State) : Answer := finish (startIf s k.val (fun d => d.op == 4))
/-- LOG_BARRIER (R238, R296). -/
def execLogBarrier (k : Fin 16384) (s : State) : Answer := finish (logBarrier s k.val)
/-- DESC_COMPLETE (R293). -/
def execDescComplete (k : Fin 16384) (i : Fin 65536) (s : State) : Answer := finish (descComplete s k.val i.val)
/-- COMPLETION_RECORD (R294). -/
def execCompletionRecord (k : Fin 16384) (s : State) : Answer := finish (completionRecord s k.val)
/-- QCTX_ECC (R305). -/
def execQctxEcc (k : Fin 16384) (s : State) : Answer := finish (ctxEcc s k.val false)

end Sys2Proof.Machine
end

