-- ==== Sys2Proof/Machine/Functions.lean ====
section
/-! DEFINITION. Functions (R178 to R207): presence, configuration space, BARs, master enable and memory space, Function Level
Reset. Places of fields inside the capabilities are PRESUMED from the PCI Express specification; the manual gives the
capabilities' offsets and their values. -/

namespace Sys2Proof.Machine

/-- f is a VF slot. -/
def isVf (f : Nat) : Bool := decide (6 ≤ f)

/-- f is present: the PF of a present seat, or a VF that VF Enable enables (R181). -/
def fnPresent (s : State) (f : Nat) : Bool :=
  match fnSeat s f with
  | none => false
  | some n => !isVf f || decide (1 ≤ vfIndex s f ∧ vfIndex s f ≤ (fnOf s n).vfs)

/-- Memory space is enabled for f (R192, R202). -/
def fnMemory (s : State) (f : Nat) : Bool := if isVf f then (fnOf s (pfOf s f)).vfMem else (fnOf s f).memory

/-- The BARs of f answer: the first row of R192 does not match. -/
def barsOn (s : State) (f : Nat) : Bool := fnPresent s f && !(fnOf s f).flr && !(fnOf s f).d3 && fnMemory s f

/-- The function of seat n that Routing ID index i names: 0 the PF, i the VF of that index (R178, R179). -/
def seatFn (s : State) (n i : Nat) : Nat := if i = 0 then n else vfFirst s n + i - 1

/-- Routing ID of f (R179). -/
def routingId (s : State) (f : Nat) : Nat :=
  let n := pfOf s f
  ((seatOf s n).bus * 256 + vfIndex s f) % 65536

/-! ## Configuration space (R182 to R190) -/

/-- Extended capabilities a PF and a VF implement, ascending: offset, ID, version (R184). -/
def extCaps : List (Nat × Nat × Nat) :=
  [(0x100, 0x0001, 3), (0x160, 0x000E, 1), (0x168, 0x0010, 1), (0x1A8, 0x000D, 1), (0x1B0, 0x0018, 1), (0x1B8, 0x001E, 2), (0x1C8, 0x001F, 1), (0x1D8, 0x002E, 2), (0x1F0, 0x0025, 1), (0x200, 0x0015, 1), (0x210, 0x0024, 1), (0x220, 0x002F, 1), (0x230, 0x0026, 1), (0x270, 0x002A, 1), (0x2B0, 0x0031, 1), (0x2D0, Config.pl128 % 65536, Config.pl128 / 65536 % 16), (0x2F0, 0x0027, 1), (0x340, 0x0032, 1), (0x360, 0x0030, 1)]

/-- Offsets of the extended capabilities of f, ascending (R184). -/
def extOffs (f : Nat) : List Nat :=
  if isVf f then [0x100, 0x160, 0x1A8, 0x220]
  else [0x100, 0x160, 0x168, 0x1A8, 0x1B0, 0x1B8, 0x1C8, 0x1D8, 0x1F0, 0x200, 0x210, 0x220, 0x230, 0x270, 0x2B0, 0x2D0, 0x2F0, 0x340, 0x360]

/-- The header dword of the extended capability at o: ID, version, next (R184). -/
def extHead (f o : Nat) : Word :=
  match extCaps.find? (fun c => c.1 == o) with
  | some (_, id, ver) => BitVec.ofNat 32 (((extOffs f).find? (fun x => decide (o < x))).getD 0 * 2 ^ 20 + ver * 65536 + id)
  | none => 0

/-- Highest rate code of the orderable code: 7 or 6 (R3, R46). -/
def gradeRate (s : State) : Nat := if fldAt s 0x104 19 16 = 2 then 7 else 6

/-- The link rate and width of seat n (R174). -/
def seatRate (s : State) (n : Nat) : Nat := fldAt s (linkPg n + 0x110) 27 24
def seatLanes (s : State) (n : Nat) : Nat := fldAt s (linkPg n + 0x110) 23 19

/-- A window size k in force: what the host wrote, marked by bit 30 of the stored control word, else the largest (R190). -/
def barK (s : State) (n ctl hi lo : Nat) : Nat :=
  let c := cfgAt s n ctl
  if bitOf c 30 then bits c 13 8 else fldAt s (fnPg n + 0x138) hi lo
/-- BAR2 size exponent of PF n, and of its VFs (R190). -/
def pfBarK (s : State) (n : Nat) : Nat := barK s n 0x208 12 8
def vfBarK (s : State) (n : Nat) : Nat := barK s n 0x218 28 24
/-- Sizes that FN.WINDOW supports, as the capability's bit mask (R190). -/
def barSizes (lo hi : Nat) : Nat := ((numsFrom lo (hi + 1 - lo)).map (fun k => 2 ^ (k + 4))).sum

/-- Writable address bits of a 64-bit BAR of 2^e bytes: its low or high dword. -/
def barMask (e : Nat) (high : Bool) : Word :=
  if high then (if e ≤ 32 then 0xFFFFFFFF#32 else maskOf 31 (e - 32)) else (if e < 32 then maskOf 31 e else 0)

/-- Size exponent of BAR0 of PF n (R188). -/
def bar0Exp (s : State) (n : Nat) : Nat := if (seatOf s n).bigBar then 27 else 16

/-! ### Registers behind the extended capabilities (R184). PRESUMED, all of them: the layouts of the PCI Express specification. -/

/-- Equalization at rate code r has ended on seat n: the status bits Complete and Phases 1 to 3 Successful (R143). -/
def eqBits (s : State) (n r : Nat) : Nat :=
  if (List.range (portLanes s n)).any (fun i => (laneOf s n i).byRate.any (fun e => e.1 == r)) then 15 else 0

/-- Lane margining is ready on seat n (R130): the rate supports it, and MARGIN_DIS is 0. -/
def marginReady (s : State) (n : Nat) : Bool := !flagAt s (lanePg n + 0x300) 1 && decide (4 ≤ seatRate s n) && fldAt s (linkPg n + 0x110) 31 28 == 3

/-- IDE stream registers: the stream (0 Link, 1 to 8 Selective) and the offset in its block: 0 Control, 4 Status, 8 to 12 RID association, 16
to 36 two address associations (R168). -/
def ideRegAt (o : Nat) : Option (Nat × Nat) :=
  if 0x36C ≤ o ∧ o < 0x374 then some (0, o - 0x36C)
  else if 0x374 ≤ o ∧ o < 0x4D4 ∧ (o - 0x374) % 44 ≠ 0 then some ((o - 0x374) / 44 + 1, (o - 0x374) % 44 - 4)
  else none

/-- What PF n's dword at `o` reads where nothing the host wrote does. -/
def capFixed (s : State) (n o : Nat) : Word :=
  let nat (x : Nat) : Word := BitVec.ofNat 32 x
  let d := (seatOf s n).doe
  if o = 0x1E4 then nat (b2n d.busy.isSome + 2 * b2n d.irq + 4 * b2n d.err + 2 ^ 31 * b2n (!d.out.isEmpty))
  else if o = 0x1EC then d.out.headD 0
  else if o = 0x1F8 then (if flagAt s (linkPg n + 0x110) 0 then nat (2 ^ 31 + b2n (flagAt s (linkPg n + 0x110) 8)) else 0)
  else if o = 0x23C then nat (eqBits s n 4)
  else if o = 0x274 then 1#32
  else if o = 0x27C then nat (eqBits s n 5)
  else if o = 0x2BC then nat (eqBits s n 6)
  else if o = 0x2DC then nat (eqBits s n 7)
  else if o = 0x2F4 then nat (2 ^ 16 * b2n (marginReady s n))
  else if 0x2F8 ≤ o ∧ o < 0x338 ∨ o = 0x344 ∨ o = 0x350 then cfgAt s n o
  else if 0x374 ≤ o ∧ o < 0x4D4 ∧ (o - 0x374) % 44 = 0 then 2#32
  else match ideRegAt o with
  | some (t, 4) => nat (2 * b2n (tabGet IdeStream.none_ (seatOf s n).ide t).secure)
  | _ => 0

/-- Bits of PF n's dword at `o` that the host writes. -/
def capRw (o : Nat) : Word :=
  if o = 0x1E0 then 0x2#32
  else if o = 0x278 then 0x1#32
  else if 0x2F8 ≤ o ∧ o < 0x338 then 0xFF7F#32
  else if o = 0x34C then 0xFFF#32
  else match ideRegAt o with
  | some (t, 0) => if t = 0 then 0xFF3FC1FD#32 else 0xFF7FC3FD#32
  | some (_, 8) => 0x00FFFF00#32
  | some (_, 12) => 0x00FFFF01#32
  | some (_, d) => if d = 4 then 0 else if (d - 16) % 12 = 0 then 0xFFFFFF01#32 else 0xFFFFFFFF#32
  | none => 0

/-- Bits of PF n's dword at `o` that the host clears by writing 1. -/
def capW1c (o : Nat) : Word :=
  if o = 0x23C ∨ o = 0x27C ∨ o = 0x2BC ∨ o = 0x2DC then 0x10#32
  else if o = 0x344 then 0x1#32
  else match ideRegAt o with
  | some (_, 4) => 0x80000000#32
  | _ => 0

/-- Word j of the Header Log of f: 4 words, 14 in FLIT mode (R433). -/
def headerWord (s : State) (f j : Nat) : Word := BitVec.ofNat 32 (if (fnOf s f).header = 0 then 0 else Config.freeValue ((fnOf s f).header - 1) / 2 ^ (32 * j))

/-- The bits of a configuration dword that hold no stored state (R182, R185, R145, R149, R161, R168). -/
def cfgFixed (s : State) (f o : Nat) : Word :=
  let n := pfOf s f
  let v := isVf f
  let nat (x : Nat) : Word := BitVec.ofNat 32 x
  match o with
  | 0x00 => if v then 0xFFFFFFFF#32 else 0x96121F3D#32
  | 0x04 => 0x00100000#32
  | 0x08 => 0x068000B0#32
  | 0x10 | 0x20 => if v then 0 else 0x4#32
  | 0x18 => if v then 0 else 0xC#32
  | 0x2C => regAt s (fnPg n + 0x13C)
  | 0x34 => 0x40#32
  | 0x40 => 0xC8035001#32
  | 0x44 => 0x8#32
  | 0x50 => 0x8002B010#32
  | 0x54 => 0x10008B25#32
  | 0x58 => nat (2097152 * b2n ((seatOf s n).tags.any (fun t => t.2.fn == f && !t.2.quar)))
  | 0x5C => nat (0x450000 + 0x3C00 + widthLanes (seatWidth s n) * 16 + gradeRate s)
  | 0x60 => nat (seatRate s n * 65536 + seatLanes s n * 2 ^ 20 + b2n (decide (bits (seatOf s n).cfg 13 12 = 0)) * 2 ^ 28)
  | 0x74 => if v then 0x0013038F#32 else 0x00130B8F#32
  | 0x7C => nat (0x01800000 + 2 ^ (gradeRate s + 1) - 2)
  | 0x80 => nat (2 ^ 17 * eqBits s n 3 + 2 ^ 22 * b2n (decide (1 ≤ fldAt s (linkPg n + 0x110) 10 9)) + 2 ^ 23 * b2n (fldAt s (linkPg n + 0x110) 10 9 == 2))
  | 0xB0 => nat ((vectorCount s f - 1) * 65536 + 0x11)
  | 0xB4 => 0x4#32
  | 0xB8 => 0x8004#32
  | 0x118 => 0xA0#32 ||| setBits 0 4 0 (bits (cfgAt s f 0x118) 4 0)
  | 0x11C | 0x120 | 0x124 | 0x128 => headerWord s f ((o - 0x11C) / 4)
  | 0x138 | 0x13C | 0x140 | 0x144 | 0x148 | 0x14C | 0x150 | 0x154 | 0x158 | 0x15C =>
    if flagAt s (linkPg n + 0x110) 13 then headerWord s f (4 + (o - 0x138) / 4) else 0
  | 0x174 => if v then 0 else nat (vfTotal s n * 65537)
  | 0x17C => if v then 0 else 0x00010001#32
  | 0x180 => if v then 0 else 0x961F0000#32
  | 0x184 => if v then 0 else 0x13#32
  | 0x18C | 0x19C => if v then 0 else 0x4#32
  | 0x194 => if v then 0 else 0xC#32
  | 0x1BC => if v then 0 else 0x00211E1F#32
  | 0x1CC | 0x1DC => if v then 0 else 1#32
  | 0x1F4 => if v then 0 else 0x80000001#32
  | 0x204 => if v then 0 else nat (barSizes (fldAt s (fnPg n + 0x138) 4 0) (fldAt s (fnPg n + 0x138) 12 8))
  | 0x208 => if v then 0 else nat (pfBarK s n * 256 + 0x22)
  | 0x214 => if v then 0 else nat (barSizes (fldAt s (fnPg n + 0x138) 20 16) (fldAt s (fnPg n + 0x138) 28 24))
  | 0x218 => if v then 0 else nat (vfBarK s n * 256 + 0x22)
  | 0x224 => 0x6#32
  | 0x364 => if v then 0 else 0x000700F3#32
  | _ => if (extOffs f).contains o then extHead f o else if v then 0 else capFixed s n o

/-- Bits of a configuration dword that the host may write and that read back (R182, R183). -/
def cfgRw (s : State) (f o : Nat) : Word :=
  let n := pfOf s f
  let v := isVf f
  match o with
  | 0x04 => if v then 0x4#32 else 0x146#32
  | 0x0C => if v then 0 else 0xFF#32
  | 0x10 => if v then 0 else barMask (bar0Exp s n) false
  | 0x14 => if v then 0 else barMask (bar0Exp s n) true
  | 0x18 => if v then 0 else barMask (20 + pfBarK s n) false
  | 0x1C => if v then 0 else barMask (20 + pfBarK s n) true
  | 0x20 => if v then 0 else barMask 16 false
  | 0x24 => if v then 0 else barMask 16 true
  | 0x44 => 0x103#32
  | 0x58 => 0x79FF#32
  | 0x60 => if v then 0 else 0x1CB#32
  | 0x78 => if v then 0x1300#32 else 0x170F#32
  | 0x80 => if v then 0 else 0xF#32
  | 0xB0 => 0xC0000000#32
  | 0x108 | 0x10C => 0x705FF010#32
  | 0x114 => 0x31C1#32
  | 0x118 => 0x140#32
  | 0x170 => if v then 0 else 0x19#32
  | 0x178 => if v then 0 else 0xFFFF#32
  | 0x188 => if v then 0 else 0x13#32
  | 0x18C => if v then 0 else barMask 16 false
  | 0x190 => if v then 0 else barMask 16 true
  | 0x194 => if v then 0 else barMask (20 + vfBarK s n) false
  | 0x198 => if v then 0 else barMask (20 + vfBarK s n) true
  | 0x19C => if v then 0 else barMask 16 false
  | 0x1A0 => if v then 0 else barMask 16 true
  | 0x1B4 => if v then 0 else 0x1FFF1FFF#32
  | 0x1C0 => if v then 0 else 0xE3FFFF0F#32
  | 0x1C4 => if v then 0 else 0xFB#32
  | 0x1D0 => if v then 0 else 0xFF01#32
  | 0x228 => if v then 0x4#32 else 0xC#32
  | _ => if v then 0 else capRw o

/-- Bits of a configuration dword of f that the host clears by writing 1. -/
def cfgW1c (f o : Nat) : Word :=
  match o with
  | 0x04 => 0xF9000000#32
  | 0x44 => 0x8000#32
  | 0x58 => 0x000F0000#32
  | 0x104 => 0x705FF010#32
  | 0x110 => 0x31C1#32
  | _ => if isVf f then 0 else capW1c o

/-- A configuration read of f at dword offset o (R183): 0 where nothing is. -/
def cfgRead (s : State) (f o : Nat) : Word :=
  let m := cfgRw s f o ||| cfgW1c f o
  (cfgFixed s f o &&& ~~~m) ||| (cfgAt s f o &&& m)

/-- The byte mask of a register access. -/
def byteMask : List (Option Byte) → Nat → Nat
  | [], _ => 0
  | b :: r, i => (if b.isSome then 255 * 2 ^ (8 * i) else 0) + byteMask r (i + 1)
/-- The word of a register access; bytes that are not enabled give 0. -/
def byteWord : List (Option Byte) → Nat
  | [] => 0
  | b :: r => (b.getD 0).toNat + 256 * byteWord r

/-- VF Enable of PF n as last written (R180). -/
def vfEnable (s : State) (n : Nat) : Bool := bitOf (cfgAt s n 0x170) 0
/-- NumVFs of PF n as last written. -/
def numVfs (s : State) (n : Nat) : Nat := bits (cfgAt s n 0x178) 15 0

/-- VF Enable or NumVFs changed (R198). -/
def vfChanged (s : State) (n : Nat) : State := setEvt s (fnPg n) 15

/-- A BAR Size write (R190): taken when the size is supported and memory space is off. -/
def barSizeWrite (s : State) (n o k : Nat) : State :=
  let w := regAt s (fnPg n + 0x138)
  let (lo, hi, on) := if o = 0x208 then (bits w 4 0, bits w 12 8, bitOf (cfgAt s n 4) 1) else (bits w 20 16, bits w 28 24, bitOf (cfgAt s n 0x170) 3)
  if on || decide (k < lo) || decide (hi < k) then s else cfgPut s n o (BitVec.ofNat 32 (2 ^ 30 + k * 256))

/-- A write to f's configuration dword o under byte mask m (R180, R183, R190, R203). -/
def cfgWrite (s : State) (f o : Nat) (m v : Word) : State :=
  let old := cfgAt s f o
  let plain := maskWrite old (m &&& cfgRw s f o) v &&& ~~~(m &&& cfgW1c f o &&& v)
  if (o = 0x208 ∨ o = 0x218) ∧ !isVf f then (if bitOf m 8 then barSizeWrite s f o (bits v 13 8) else s)
  else if o = 0x44 then
    -- PowerState takes D0 and D3hot alone
    cfgPut s f o (if bits plain 1 0 = 1 ∨ bits plain 1 0 = 2 then setBits plain 1 0 (bits old 1 0) else plain)
  else if o = 0x58 then
    let s := cfgPut s f o plain
    if bitOf m 15 && bitOf v 15 && !(fnOf s f).flr then fnMod s f (fun x => { x with flrReq := true }) else s
  else if o = 0x178 ∧ !isVf f then
    if vfEnable s f || decide (vfTotal s f < bits plain 15 0) then s
    else if plain = old then s else vfChanged (cfgPut s f o plain) f
  else if o = 0x170 ∧ !isVf f then
    let s := cfgPut s f o plain
    if bitOf plain 0 = bitOf old 0 then s
    else if bitOf plain 0 then vfChanged s f
    else fnMod (vfChanged s f) f (fun x => { x with vfClear := true })
  else if o = 0x1D0 ∧ !isVf f then
    -- clearing PTM Enable makes the seat's offset stale (R453)
    let s := cfgPut s f o plain
    if bitOf plain 0 then s else ptmStale s f
  else cfgPut s f o plain

/-! ## Status views (R197) -/

/-- The function holds Talon cards. -/
def fnCards (s : State) (f : Nat) : Bool := decide (heldBy s f ≠ 0)
/-- A BURN exchange of f is open (R387). -/
def fnBurning (s : State) (f : Nat) : Bool :=
  (List.range 4).any (fun k => (linkTxOf s k).exchs.any (fun e => !e.isFold && e.fn == f))

/-- FN.IDENT of slot f (R197). -/
def fnIdent (s : State) (f : Nat) : Word :=
  let a := fnSeat s f
  BitVec.ofNat 32 (b2n a.isSome * 2 ^ 31 + b2n (isVf f) * 2 ^ 30 + a.getD 7 * 2 ^ 27 + vfIndex s f * 4096 + f)

/-- FN.STATE of slot f (R197). -/
def fnState (s : State) (f : Nat) : Word :=
  let x := fnOf s f
  let p := fnPresent s f
  let fold := match fnSeat s f with
    | some n => folded s n
    | none => false
  BitVec.ofNat 32 (b2n x.bench * 512 + b2n fold * 256 + b2n x.flr * 128 + b2n (p && !x.master) * 64 + b2n x.master * 32 + b2n p * 16 +
    b2n (fnMemory s f) * 8 + b2n (bitOf (cfgAt s f 4) 2) * 4 + b2n x.d3 * 3)

/-- FN.FLR_STAT of slot f (R197). DESIGN CHOICE (log entry 111): CARDS, BURN and LOG read 0 outside an FLR. -/
def fnFlrStat (s : State) (f : Nat) : Word :=
  let x := fnOf s f
  BitVec.ofNat 32 (b2n x.flr * 2 ^ 31 + b2n (x.flr && fnCards s f) * 2 ^ 30 + b2n (x.flr && fnBurning s f) * 2 ^ 29 +
    b2n (x.flr && logPending s f) * 2 ^ 28 + x.burned)

/-- Bit i of FN.SEAT_BANK of PF n (R405). -/
def seatBankBit (s : State) (n i : Nat) : Bool :=
  match i with
  | 0 => evtOut s (linkPg n / 0x1000) | 1 => evtOut s (txnPg n / 0x1000) | 2 => evtOut s (idePg n / 0x1000)
  | 3 => evtOut s (lanePg n / 0x1000) | _ => evtOut s (slotPg n / 0x1000)
/-- FN.SEAT_BANK of PF n (R405). -/
def seatBank (s : State) (n : Nat) : Word := BitVec.ofNat 32 (((List.range 5).map (fun i => b2n (seatBankBit s n i) * 2 ^ i)).sum)

/-! ## Function Level Reset (R203 to R207) -/

/-- The BURN exchanges that an FLR of f opens: one on every link that holds an outstanding RD or ATOM of f (R387). -/
def burnExchs (s : State) (f : Nat) : State :=
  (List.range 4).foldl (fun s k =>
    if linkUp s k && (linkTxOf s k).tags.any (fun t => t.2.fn == f && !t.2.quar) then
      let i := (linkTxOf s k).nextId
      let s := burnTags s k i (fun e => e.fn == f) .flr
      let s := linkTxMod s k (fun x => { x with nextId := (i + 1) % 4096, exchs := x.exchs ++ [{ isFold := false, ident := i, seat := (fnSeat s f).getD 7, fn := f }] })
      nicenPut (bump s (txnPg (6 + k) + 0x414)) k (txn0 0x12 0 ((fnSeat s f).getD 7) f i)
    else s) s

/-- A transaction that carries f's Requester ID onto its seat. -/
def asRequester (f : Nat) (x : Xact) : Bool :=
  x.fn == f && decide (x.dst < 6) && (match x.what with
    | .tlp _ t => t.kind == .memRd || t.kind == .memWr
    | _ => false)

/-- The FLR instant of one function (R204): `vfe` when clearing VF Enable started it. -/
def flrStart (s : State) (f : Nat) (vfe : Bool) : State :=
  if (fnOf s f).flr then fnMod s f (fun x => { x with flrReq := false, flrVfe := x.flrVfe || vfe, ready := x.ready && !vfe })
  else
    let fell := (fnOf s f).master
    let (s, n) := qFlr s f
    let s := fnMod s f (fun x => { x with flr := true, flrReq := false, flrVfe := vfe, master := false, memory := false, ready := x.ready && !vfe, burned := satNat 65535 n })
    let s := burnAll s (fun x => asRequester f x && x.dealt == 0) .flr
    let s := match fnSeat s f with
      | some seat => endSeatTags s seat (fun e => e.fn == f) .flr
      | none => s
    let s := poolFlr (burnExchs s f) f
    if fell then setEvt s (fnPg f) 10 else s

/-- VFs of PF n that VF Enable enables. -/
def enabledVfs (s : State) (n : Nat) : List Nat := numsFrom (vfFirst s n) (fnOf s n).vfs

/-- The FLR instant of PF n: its VFs too, VF Enable cleared, keys, deck and claims released (R203, R206, R410). -/
def flrPf (s : State) (n : Nat) : State :=
  let s := (enabledVfs s n).foldl (fun s f => flrStart s f true) s
  let s := flrStart s n false
  let s := if vfEnable s n then vfChanged s n else s
  let s := fnMod (cfgPut s n 0x170 (setBit (cfgAt s n 0x170) 0 false)) n (fun x => { x with vfClear := false, vfs := 0 })
  releaseClaims (deckLosePf (ideZeroize s n) n) n

/-- What Initiate FLR and a cleared VF Enable do at the boundary (R203). -/
def flrBoundary (s : State) : State :=
  (s.fns.filter (fun p => p.2.flrReq || p.2.vfClear)).foldl (fun s p =>
    if p.2.flrReq then (if isVf p.1 then flrStart s p.1 false else flrPf s p.1)
    else
      let s := (enabledVfs s p.1).foldl (fun s f => flrStart s f true) s
      fnMod s p.1 (fun x => { x with vfClear := false, vfs := 0 })) s

/-- The conditions of R205 for f alone. -/
def flrReady (s : State) (f : Nat) : Bool := !fnCards s f && !fnBurning s f && !logPending s f
/-- The conditions of R205; those of its VFs that are in an FLR are part of a PF's (R203). -/
def flrClear (s : State) (f : Nat) : Bool :=
  flrReady s f && (isVf f || (seatFns s f).all (fun g => !isVf g || !(fnOf s g).flr || flrReady s g))

/-- Bits of a configuration dword that an FLR keeps (R206). PRESUMED, the PCI Express specification: PME_En and PME_Status, the
Max_Payload_Size of Device Control, Link Control, Link Control 2, AER with its header log. -/
def stickyCfg (o : Nat) : Word :=
  match o with
  | 0x44 => 0x8100#32
  | 0x58 => 0xE0#32
  | 0x60 | 0x80 | 0x104 | 0x108 | 0x10C | 0x110 | 0x114 | 0x118 | 0x344 => 0xFFFFFFFF#32
  | _ => 0

/-- A configuration dword after an FLR: its sticky bits as they are, the others at reset. -/
def flrWord (p : Nat × Word) : Nat × Word :=
  let k := stickyCfg (p.1 * 4)
  (p.1, (p.2 &&& k) ||| (cfgReset (p.1 * 4) &&& ~~~k))

/-- The configuration space of f takes its reset values (R205, R206): all of it, or, after an FLR, but for sticky bits. -/
def cfgClear (s : State) (f : Nat) (all : Bool) : State :=
  fnMod s f (fun x => { x with
    cfg := if all then [] else (x.cfg.map flrWord).filter (fun p => p.2 != cfgReset (p.1 * 4)), d3 := false, msixOn := false, msixMsk := false })

/-- The FLR of f is over: its configuration space has its reset values, a bench recorded meanwhile applies (R205, R207). -/
def flrOff (s : State) (f : Nat) : State :=
  let news := (fnOf s f).benchPend && !(fnOf s f).bench
  let s := fnMod (cfgClear s f false) f (fun x => { x with flr := false, flrVfe := false, bench := x.bench || x.benchPend, benchPend := false })
  if news then setEvt s (fnPg f) 13 else s

/-- The FLR of one function completes and is reported (R205, R207). -/
def flrEnd (s : State) (f : Nat) : State := setEvt (flrOff s f) (fnPg f) 9

/-- The seat of f is ready; while it is not, the seat's own handling ends the FLRs of its functions, unreported (R207, R567, R583). -/
def seatIsReady (s : State) (f : Nat) : Bool :=
  match fnSeat s f with
  | some n => flagAt s (linkPg n + 0x110) 1
  | none => true

/-- FLR_COMPLETE: the FLR of f completes once its conditions hold; those of its VFs complete no later (R205, R207). -/
def flrComplete (s : State) (f : Nat) : State :=
  if (fnOf s f).flr && seatIsReady s f && flrClear s f then
    let s := if isVf f then s else ((seatFns s f).filter (fun g => isVf g && (fnOf s g).flr)).foldl flrEnd s
    flrEnd s f
  else s

/-- What an FLR that reached its deadline discards for one function (R205): cards, the BURN exchange (R387), dirty bits (R237). -/
def flrForce (s : State) (f : Nat) : State :=
  let s := burnXacts s (fun x => x.fn == f)
  let s := toFlight s (.fn f) (heldBy s f) (kittyHeld s f)
  let s := talonMod s (fun t => { t with resv := tabDel t.resv f })
  let s := (List.range 4).foldl (fun s k =>
    if (linkTxOf s k).exchs.any (fun e => !e.isFold && e.fn == f) then
      let s := linkTxMod s k (fun x => { x with exchs := x.exchs.filter (fun e => e.isFold || e.fn != f) })
      setEvt (bump s (txnPg (6 + k) + 0x418)) (txnPg (6 + k)) 12
    else s) s
  (s.xlt.lines.filter (fun d => d.fn == f)).foldl loseLine s

/-- FLR_DEADLINE (R205). -/
def flrDeadline (s : State) (f : Nat) : State :=
  if (fnOf s f).flr && seatIsReady s f then
    let fs := if isVf f then [f] else f :: (seatFns s f).filter (fun g => isVf g && (fnOf s g).flr)
    fs.foldl (fun s g => flrEnd (flrForce s g) g) s
  else s

/-! ## What comes into force at a boundary (R27, R181, R199, R202) -/

/-- M_f as the written configuration makes it (R199). -/
def masterNow (s : State) (f : Nat) : Bool :=
  let bme (g : Nat) : Bool := bitOf (cfgAt s g 4) 2
  bme f && (!isVf f || bme (pfOf s f)) && fnPresent s f && !(fnOf s f).d3 && !(fnOf s f).flr

/-- Presence, memory space and D-state of f come into force; then M_f, and MASTER_OFF when it falls (R200). -/
def fnCommit (s : State) (f : Nat) : State :=
  let s := fnMod s f (fun x => { x with
    d3 := decide (bits (cfgAt s f 0x44) 1 0 = 3) && !x.flr,
    memory := !isVf f && bitOf (cfgAt s f 4) 1 && !x.flr,
    vfs := if !isVf f && vfEnable s f && !x.flr then numVfs s f else 0,
    vfMem := !isVf f && bitOf (cfgAt s f 0x170) 3 && !x.flr })
  let m := masterNow s f
  let fell := (fnOf s f).master && !m
  let s := msixCommit (fnMod s f (fun x => { x with master := m })) f
  if fell then setEvt s (fnPg f) 10 else s

/-- All functions: PFs first, since their VFs depend on them. -/
def commitFns (s : State) : State := (s.fns.map (fun p => p.1)).foldl fnCommit s

/-! ## Commands -/

/-- FLR_INITIATE (R203, R207): the host sets Initiate Function Level Reset. -/
def execFlrInitiate (f : Fin 4096) (s : State) : Answer :=
  finish (if (fnOf s f.val).flr || !fnPresent s f.val then s else fnMod s f.val (fun x => { x with flrReq := true }))
/-- FLR_COMPLETE (R205). -/
def execFlrComplete (f : Fin 4096) (s : State) : Answer := finish (flrComplete s f.val)
/-- FLR_DEADLINE (R205). -/
def execFlrDeadline (f : Fin 4096) (s : State) : Answer := finish (flrDeadline s f.val)
/-- VF_ENABLE_SET (R180): VF Enable of PF n is written 1. -/
def execVfEnableSet (n : Fin 6) (s : State) : Answer :=
  finish (cfgWrite s n.val 0x170 0x1#32 0x1#32)
/-- VF_ENABLE_CLEAR (R180): VF Enable of PF n is written 0. -/
def execVfEnableClear (n : Fin 6) (s : State) : Answer :=
  finish (cfgWrite s n.val 0x170 0x1#32 0)
/-- VF_READY (R181): an enabled VF becomes ready. -/
def execVfReady (f : Fin 4096) (s : State) : Answer :=
  finish (if isVf f.val && fnPresent s f.val && !(fnOf s f.val).flr then fnMod s f.val (fun x => { x with ready := true }) else s)
/-- BUS_MASTER_ENABLE (R199): the host writes the function's Bus Master Enable. -/
def execBusMasterEnable (f : Fin 4096) (on : Bool) (s : State) : Answer :=
  finish (if fnPresent s f.val then cfgWrite s f.val 0x04 0x4#32 (if on then 0x4#32 else 0) else s)
/-- MEMORY_SPACE_ENABLE (R202): Memory Space Enable of a PF, or VF MSE for its VFs. -/
def execMemorySpaceEnable (n : Fin 6) (vfs on : Bool) (s : State) : Answer :=
  finish (if vfs then cfgWrite s n.val 0x170 0x8#32 (if on then 0x8#32 else 0) else cfgWrite s n.val 0x04 0x2#32 (if on then 0x2#32 else 0))
/-- POWER_STATE_WRITE (R199): PowerState is written; D1 and D2 are not supported (R185). -/
def execPowerStateWrite (f : Fin 4096) (d : Fin 4) (s : State) : Answer :=
  finish (if fnPresent s f.val then cfgWrite s f.val 0x44 0x3#32 (BitVec.ofNat 32 d.val) else s)

end Sys2Proof.Machine
end

