-- ==== Sys2Proof/Machine/Lanes.lean ====
section
/-! DEFINITION. Lanes (R109 to R137): lane status, equalization, the adaptation loops, polarity, idle, lock loss, the ROM baseline,
margining, Lane firmware. -/

namespace Sys2Proof.Machine

/-- The lane group's place in the port, for LFW_STAT[j] (R127). -/
def laneGroupAt (i : Nat) : Nat := i / 8
/-- Lane i of port p runs the ROM baseline: its group's Lane firmware is not started (R134, R135). -/
def laneLimp (s : State) (p i : Nat) : Bool := fldAt s (lanePg p + 0x320 + 4 * laneGroupAt i) 15 12 == 3
/-- A group of port p runs the ROM baseline (R135). -/
def portLimp (s : State) (p : Nat) : Bool := (List.range ((portLanes s p + 7) / 8)).any (fun j => laneLimp s p (8 * j))
/-- Port p may not train: before cut 0 (R576), by its deck (R122), or held by a deck that moves its groups (R123). -/
def portDown (s : State) (p : Nat) : Bool :=
  fldAt s 0x1D4 31 28 != 7 || flagAt s (lanePg p + 0x300) 0 || portHeld s p
/-- The port's fold took its lanes down (R420). -/
def lanesFolded (s : State) : Bool := tableFolded s && [0x08, 0x09, 0x0A, 0x0B].contains (fldAt s (foldReg 10) 4 0)

/-! ## Receiver equalization (R114 to R116) -/

/-- The CTLE envelope of a LANE_CFG word (R116): lowest and highest code. -/
def ctleEnv (c : Word) : Nat × Nat :=
  let lo := min 48 (bits c 5 0)
  (lo, max lo (min 48 (bits c 13 8)))
/-- A code moved into an envelope (R116). -/
def ctleClamp (c : Word) (k : Nat) : Nat := max (ctleEnv c).1 (min k (ctleEnv c).2)
/-- The CTLE loop is frozen by LANE_CFG, or acts so because CTLE_MIN is greater than CTLE_MAX (R116, R119). -/
def ctleFrozen (c : Word) : Bool := bitOf c 20 || decide (min 48 (bits c 13 8) < min 48 (bits c 5 0))
/-- LANE_CFG freezes a loop (R125). -/
def cfgFreezes (c : Word) : Bool := ctleFrozen c || decide (bits c 23 21 ≠ 0)

/-- Bytes `k` to `k + n - 1` of an open value. -/
def freeBytes (v k n : Nat) : List Nat := (numsFrom k n).map (fun j => v / 256 ^ j % 256)

/-- Where the loops that nothing freezes have moved, as an open value `v` has it: the CTLE stays in its envelope, the main tap reads +64
(R114 to R116, R119). -/
def loopsMove (c : Word) (v : Nat) (x : Lane) : Lane :=
  { x with ctle := ctleClamp c (if ctleFrozen c then x.ctle else v % 256 % 49),
           ffe := if bitOf c 21 then x.ffe else freeBytes v 1 3 ++ [64] ++ freeBytes v 4 8,
           dfe := if bitOf c 22 then x.dfe else v / 256 ^ 12 % 256,
           thr := if bitOf c 23 then x.thr else freeBytes v 13 3 }

/-- The loops of a lane adapt (R115). -/
def laneAdapt (s : State) (p i : Nat) : State :=
  let (n, s) := freshFree s
  laneMod s p i (loopsMove (regAt s (laneCfg p i)) (Config.freeValue n))

/-- At the cut the new envelope acts on a lane (R116); the freezes act from here on (R119). -/
def laneCut (s : State) (p i : Nat) : State :=
  if laneLimp s p i then s else laneMod s p i (fun x => { x with ctle := ctleClamp (regAt s (laneCfg p i)) x.ctle })

/-! ## Transmitter equalization (R111 to R113) -/

/-- The legal coefficient space (R111). -/
def eqLegal (pre main post : Nat) : Bool := pre + main + post == 48 && decide (pre ≤ 12) && decide (pre + post + 16 ≤ main)
/-- Coefficients that an open value gives, inside the space of R111. -/
def eqFold (v : Nat) : Nat × Nat × Nat :=
  let pre := v % 13
  let post := v / 13 % (17 - pre)
  (pre, 48 - pre - post, post)
/-- Coefficients of preset `i` at rate code `r` (R112, R113). -/
def presetEq (r i : Nat) : Nat × Nat × Nat := eqFold (Config.txPreset r i)
/-- A LANE_TXEQ word. -/
def txeqBits (preset : Nat) (c : Nat × Nat × Nat) : Word := setBits (setBits (setBits (setBits 0 31 28 preset) 17 12 c.2.2) 11 6 c.2.1) 5 0 c.1
/-- LANE_TXEQ of a coefficient set at rate code `r`: PRESET names the preset that it equals, or reads 0xF (R126). -/
def txeqWord (r : Nat) (c : Nat × Nat × Nat) : Word := txeqBits (((List.range 11).find? (fun i => presetEq r i == c)).getD 0xF) c
/-- Preset `i` is set on a lane. -/
def setPreset (s : State) (p i r preset : Nat) : State := regPut s (laneTxeq p i) (txeqBits preset (presetEq r preset))
/-- A request for coefficients: taken inside the space of R111, else refused and nothing changes (R112, R113). -/
def eqRequest (s : State) (p i r pre main post : Nat) : Bool × State :=
  if eqLegal pre main post then (true, regPut s (laneTxeq p i) (txeqWord r (pre, main, post))) else (false, s)

/-! ## Status -/

/-- ADAPT of a lane whose RX runs: 1 ACQUIRE, 2 TRACK; 4 SWEEP, 5 FIXED under the ROM baseline (R125, R134). -/
def adaptOn (s : State) (p i : Nat) (locked : Bool) : Nat :=
  if laneLimp s p i then (if (laneOf s p i).swept then 5 else 4) else if locked then 2 else 1

/-- ADAPT takes a value. -/
def setAdapt (s : State) (p i v : Nat) : State := fldPut s (laneStat p i) 23 20 v

/-- The port begins to train: the lane's TX is on, its RX acquires, POL and TXEQ_START are latched; FAILED and the settings per rate clear
(R117, R125, R134, R143). -/
def laneBegin (s : State) (p i : Nat) (sig : Bool) : State :=
  let s := laneMod s p i (fun x => { x with cfg := regAt s (laneCfg p i), byRate := [], swept := false })
  setAdapt (regPut s (laneStat p i) (setBit (setBit (setBit (regAt s (laneStat p i)) 27 false) 29 false) 30 sig)) p i (adaptOn s p i false)

/-- A lane locks in a training of its port (R117, R125, R134): status, the loops. `inv` is its polarity, by detection or by force.
DESIGN CHOICE (log entry 108): LANE_CNT_TRAIN counts returns from Recovery and retrains too. -/
def laneTrain (s : State) (p i : Nat) (inv : Bool) : State :=
  let w := setBits (setBits (setBit 0 28 inv) 31 30 3) 23 20 (adaptOn s p i true)
  let was := flagAt s (laneStat p i) 31
  let s := laneMod (regPut s (laneStat p i) w) p i (fun x => { x with gained := if was then x.gained else s.time.toNat })
  let s := if laneLimp s p i then laneMod s p i (fun x => { x with ffe := mainTap }) else laneAdapt s p i
  bump s (lanePg p + 0x580 + 4 * i)

/-- The polarity that POL of the latched configuration makes of a detected one (R128). -/
def lanePol (s : State) (p i : Nat) (seen : Bool) : Bool :=
  let pol := bits (laneOf s p i).cfg 31 30
  if pol = 1 then false else if pol = 2 then true else seen

/-- A lane enters or leaves electrical idle: its loops hold, or go on from the kept state (R129). Margining does not resume by itself
(R131). -/
def laneIdle (s : State) (p i : Nat) (idle : Bool) : State :=
  let s := if idle then laneMod s p i (fun x => { x with margin := none }) else s
  setAdapt (regPut s (laneStat p i) (setBit (regAt s (laneStat p i)) 29 idle)) p i (if idle then 3 else adaptOn s p i (flagAt s (laneStat p i) 31))

/-- A lane's TX direction enters or leaves electrical idle (R125, R340). -/
def laneEi (s : State) (p i : Nat) (idle : Bool) : State := fldPut s (laneStat p i) 29 29 (b2n idle)

/-- A lane's RX direction enters or leaves electrical idle (R129, R340). -/
def laneHold (s : State) (p i : Nat) (idle : Bool) : State :=
  setAdapt s p i (if idle then 3 else adaptOn s p i (flagAt s (laneStat p i) 31))

/-- A lane's port has excluded it: its TX is in electrical idle, its RX stays powered for re-acquisition (R133). -/
def laneExclude (s : State) (p i : Nat) : State :=
  let s := laneMod s p i (fun x => { x with margin := none })
  setAdapt (regPut s (laneStat p i) (setBit (regAt s (laneStat p i)) 29 true)) p i (adaptOn s p i (flagAt s (laneStat p i) 31))

/-- LANE_STAT as it reads (R110, R116, R125, R135): 0 for an unused lane; LIMP, FROZEN and CTLE follow the cell. In electrical idle Lane
firmware freezes the loops (R115, R129): FROZEN reads 1 there, as R125 has it (DEDUCED, log entry 147). -/
def laneStatWord (s : State) (p i : Nat) : Word :=
  let w := regAt s (laneStat p i)
  let limp := laneLimp s p i
  if !laneUsed s p i then 0
  else setBits (setBit (setBit w 26 limp) 25 (!limp && decide (bits w 23 20 ≠ 0) && (cfgFreezes (regAt s (laneCfg p i)) || decide (bits w 23 20 = 3)))) 19 14 (if bits w 23 20 = 0 then 0 else (laneOf s p i).ctle)

/-- LANE_TXEQ as it reads (R110, R126). -/
def laneTxeqWord (s : State) (p i : Nat) : Word := if laneUsed s p i then regAt s (laneTxeq p i) else 0

/-- LANE_PORT_STAT of a trained port (R124). -/
def portTrained (s : State) (p rate lanes : Nat) (reversed : Bool) : State :=
  let held := regAt s (lanePg p + 0x304) &&& 0x40000000#32
  regPut s (lanePg p + 0x304) (held ||| BitVec.ofNat 32 (b2n (portLimp s p) * 2 ^ 29 + b2n reversed * 2 ^ 28 + rate * 2 ^ 24 + lanes))

/-- A hand ends on a lane that is locked (R115, R137): its eye values are those of the hand, where it was locked all through it; loops that
track have moved. -/
def laneHandEnd (s : State) (p i : Nat) : State :=
  let w := regAt s (laneStat p i)
  if !bitOf w 31 then laneMod s p i (fun x => { x with eye := none })
  else
    let whole := decide ((laneOf s p i).gained ≤ s.time.toNat / handUnits * handUnits)
    let (n, s) := freshFree s
    let s := laneMod s p i (fun x => { x with eye := if whole then some n else none })
    if bits w 23 20 = 2 then laneAdapt s p i else s

/-- The end of a hand on every lane. -/
def lanesHandEnd (s : State) : State :=
  (List.range 10).foldl (fun s p => (List.range (portLanes s p)).foldl (fun s i => laneHandEnd s p i) s) s

/-! ## Lock loss (R132, R133) -/

/-- The lane re-acquires: its loops start from the last locked state. -/
def acquiring (s : State) (p i : Nat) : State := setAdapt s p i (adaptOn s p i false)
/-- A lane lost its signal: SIG_DET clears (R132). -/
def sigLost (s : State) (p i : Nat) : State := bump (acquiring (fldPut s (laneStat p i) 30 30 0) p i) (lanePg p + 0x400 + 4 * i)
/-- A lane lost lock: LOCK clears (R132). -/
def lockLost (s : State) (p i : Nat) : State :=
  bump (acquiring (fldPut (laneMod s p i (fun x => { x with block := false })) (laneStat p i) 31 31 0) p i) (lanePg p + 0x480 + 4 * i)
/-- A lane has SIG_DET and LOCK again (R133). -/
def laneBack (s : State) (p i : Nat) : State :=
  let s := fldPut (laneMod s p i (fun x => { x with gained := s.time.toNat })) (laneStat p i) 31 30 3
  bump (setAdapt s p i (adaptOn s p i true)) (lanePg p + 0x500 + 4 * i)
/-- The lane was not locked a hand after its signal came back (R133). -/
def laneFailed (s : State) (p i : Nat) : State := fldPut (fldPut s (laneStat p i) 30 30 1) (laneStat p i) 27 27 1

/-- A lane that failed is offered again (R133). -/
def laneOffered (s : State) (p i : Nat) : State := fldPut s (laneStat p i) 27 27 0

/-! ## Lane firmware (R118) -/

/-- Restarts of Lane firmware within this rubber (R118). -/
def lfwCount (s : State) (k : Nat) : Nat :=
  let r := tabGet (0, 0) s.lfw k
  if r.1 = s.time.toNat / (64 * handUnits) then r.2 else 0

/-- Lane firmware of the port's j-th group stopped: reported as an event of the port (R118), for which no page has a bit (R120); House firmware
restarts the microcontroller, or leaves it halted after 8 restarts in one rubber. -/
def lfwStop (s : State) (p j : Nat) : State :=
  let o := lanePg p + 0x320 + 4 * j
  let k := p * 4 + j
  let c := lfwCount s k
  if fldAt s o 15 12 ≠ 1 then s
  else
    let s := emit s (.mgmt "LANE_FW_STOP" [p, j])
    if 8 ≤ c then fldPut s o 15 12 4
    else
      let s := { s with lfw := tabIns s.lfw k (s.time.toNat / (64 * handUnits), c + 1) }
      fldPut (fldPut s o 15 12 2) o 7 0 (satNat 255 (fldAt s o 7 0 + 1))

/-! ## The ROM baseline (R134) -/

/-- The code of the highest SNR among those measured, the lower on a tie (R134). -/
def sweepBest (snr : List Nat) : Nat :=
  ((List.range 7).foldl (fun b c => if snr.getD b 0 < snr.getD c 0 then c else b) 0) * 8

/-- The sweep of a lane ends (R134): the best code, the DFE value noted for it, an open value, and every setting is fixed. -/
def laneSweep (s : State) (p i : Nat) (snr : List Nat) : State :=
  let (n, s) := freshFree s
  setAdapt (laneMod s p i (fun x => { x with ctle := sweepBest snr, ffe := mainTap, dfe := Config.freeValue n % 256, swept := true })) p i 5

/-! ## Margining (R130, R131) -/

/-- The parameters of R130, in its order. -/
def marginParams : List Nat := [1, 1, 1, 1, 1, 64, 32, 50, 25, 63, 63, 15, 63]

/-- Margin type of a command, and its payload. PRESUMED: the codes of the PCI Express specification. -/
def marginCode (m : MarginCmd) : Nat × Nat :=
  match m with
  | .report w => (1, w.val)
  | .errorLimit n => (2, 0xC0 + n.val)
  | .normal => (2, 0x0F)
  | .clearLog => (2, 0x55)
  | .stepTiming l n => (3, b2n l * 64 + n.val)
  | .stepVoltage d n => (4, b2n d * 128 + n.val)

/-- The payload of the answer to a step: what margining status, and errors (R130). The errors are an open value. -/
def stepAnswer (limit errs : Nat) : Nat := if limit < errs then errs else 128 + errs

/-- The lane can margin: locked, and not in electrical idle nor turned off by L0p (R131). -/
def laneMargins (s : State) (n i : Nat) : Bool := let w := regAt s (laneStat n i); bitOf w 31 && !bitOf w 29

/-- The answer of lane i of seat n to a margin command (R130, R131), by the separate sampler: no setting of the lane moves. A lane that cannot
execute it answers NAK. -/
def marginAnswer (s : State) (n i : Nat) (m : MarginCmd) : Nat × State :=
  let (ty, pl) := marginCode m
  let step (k : Nat) : Nat × State :=
    if (if ty = 3 then 32 else 64) < k then (0xC0, s)
    else
      let (c, s) := freshFree s
      (stepAnswer (laneOf s n i).limit (Config.freeValue c % 64), laneMod s n i (fun x => { x with margin := some (ty, pl) }))
  if !laneMargins s n i then (0xC0, s)
  else match m with
  | .report w => (marginParams.getD w.val 0, s)
  | .errorLimit k => (pl, laneMod s n i (fun x => { x with limit := k.val }))
  | .normal | .clearLog => (pl, laneMod s n i (fun x => { x with margin := none }))
  | .stepTiming _ k => step k.val
  | .stepVoltage _ k => step k.val

/-- A margin command that arrives by the link: the answer leaves on the seat, lane × 65,536 + type × 256 + payload. Not ready, the lane says
so. -/
def margin (s : State) (n i : Nat) (m : MarginCmd) : State :=
  if !marginReady s n then emit s (.seatSig n "MARGIN_NOT_READY" i)
  else
    let (v, s) := marginAnswer s n i m
    emit s (.seatSig n "MARGIN" (i * 65536 + (marginCode m).1 * 256 + v))

/-- The command that a lane's margining control register spells: margin type [5:3], payload [15:8]. PRESUMED, the PCI Express specification. -/
def marginSpelt (w : Word) : Option MarginCmd :=
  let pl := bits w 15 8
  match bits w 5 3 with
  | 1 => if 0x89 ≤ pl ∧ pl ≤ 0x90 then (if pl = 0x8F then none else some (.report (Fin.ofNat 13 (if pl = 0x90 then 11 else pl - 0x84)))) else none
  | 2 => if pl = 0x0F then some .normal else if pl = 0x55 then some .clearLog else if 0xC0 ≤ pl then some (.errorLimit (Fin.ofNat 64 (pl - 0xC0))) else none
  | 3 => some (.stepTiming (pl.testBit 6) (Fin.ofNat 64 (pl % 64)))
  | 4 => some (.stepVoltage (pl.testBit 7) (Fin.ofNat 128 (pl % 128)))
  | _ => none

/-- The host has written lane i's margining control register (R130, R184): its status half shows the command and the answer. -/
def marginWrite (s : State) (n i : Nat) : State :=
  let o := 0x2F8 + 4 * i
  let w := cfgAt s n o
  let show_ (s : State) (v : Nat) : State := cfgPut s n o (setBits (setBits w 31 24 v) 23 16 (bits w 7 0))
  if !marginReady s n then s
  else if bits w 5 3 = 1 ∧ bits w 15 8 = 0x88 then show_ s 0x1F
  else match marginSpelt w with
  | some m => let (v, s) := marginAnswer s n i m; show_ s v
  | none => show_ s (bits w 15 8)

/-! ## Commands -/

/-- LANE_REACQUIRED (R133): LOCK within a hand; the lane is usable again. -/
def execLaneReacquired (p : Fin 10) (i : Fin 32) (s : State) : Answer :=
  let w := regAt s (laneStat p.val i.val)
  finish (if laneUsed s p.val i.val && !bitOf w 27 && !(bitOf w 31 && bitOf w 30) then laneBack s p.val i.val else s)

/-- LANE_REACQ_TIMEOUT (R133): the signal came back, and LOCK was not reached within a hand; FAILED sets. -/
def execLaneReacqTimeout (p : Fin 10) (i : Fin 32) (s : State) : Answer :=
  finish (if laneUsed s p.val i.val && !flagAt s (laneStat p.val i.val) 31 then laneFailed s p.val i.val else s)

/-- LANE_FW_STOP (R118). -/
def execLaneFwStop (p : Fin 10) (j : Fin 4) (s : State) : Answer := finish (lfwStop s p.val j.val)

/-- HEARTBEAT_RESUMES (R118): a restarted microcontroller runs again. -/
def execHeartbeatResumes (p : Fin 10) (j : Fin 4) (s : State) : Answer :=
  let o := lanePg p.val + 0x320 + 4 * j.val
  finish (if fldAt s o 15 12 = 2 then fldPut s o 15 12 1 else s)

/-- ROM_BASELINE_SWEEP (R134): a lane under the ROM baseline measured SNR at the seven codes; it keeps the best and freezes. -/
def execRomBaselineSweep (p : Fin 10) (i : Fin 32) (snr : List (Fin 65536)) (s : State) : Answer :=
  finish (if laneUsed s p.val i.val && laneLimp s p.val i.val then laneSweep s p.val i.val (snr.map (fun x => x.val)) else s)

/-- MARGIN_COMMAND (R130, R131). -/
def execMarginCommand (n : Fin 6) (x : MarginReq) (s : State) : Answer := finish (margin s n.val x.lane.val x.cmd)

end Sys2Proof.Machine
end

