-- ==== Sys2Proof/Machine/SeatLink.lean ====
section
/-! DEFINITION. Seats: link training, Recovery, width, power states (R138 to R150), replay and credits (R151 to R157), host
completions, timeouts and quarantine (R158 to R166), IDE failures (R170). -/

namespace Sys2Proof.Machine

def setLtssm (s : State) (n c : Nat) : State := fldPut s (linkStat n) 31 28 c
/-- SEAT.LINK_CFG in the live configuration. -/
def linkCfg (s : State) (n : Nat) : Word := regAt s (linkPg n + 0x100)

/-- The rate code a training of seat n reaches with this partner (R135, R140, R141). -/
def trainRate (s : State) (n : Nat) (p : SeatPartner) (flit : Bool) : Nat :=
  let r := min (min (bits (linkCfg s n) 3 0) (gradeRate s)) (min p.rate.val (max 1 (bits (cfgAt s n 0x80) 3 0)))
  let r := if flit then r else min r 5
  max 1 (if portLimp s n then min r 5 else r)

/-- The largest trained width up to W that n lanes allow (R138). -/
def fitWidth (w n : Nat) : Nat := ([16, 8, 4, 2, 1].find? (fun x => decide (x ≤ w ∧ x ≤ n))).getD 0

/-- The seat lanes of a trained width: 0 to W′−1, or W−1 down when reversed (R145). -/
def widthOf (w w' : Nat) (reversed : Bool) : List Nat := if reversed then numsFrom (w - w') w' else List.range w'

/-- Credits that seat n advertises: PH, PD, NPH, NPD (R151). Without scaled flow control they are limited. -/
def advertised (fc : Word) (scaled : Bool) : List Nat :=
  let c := [4 * bits fc 31 24, 32 * bits fc 9 0, 4 * bits fc 23 16, 4 * bits fc 15 10]
  if scaled then c else [min 127 (c.getD 0 0), min 2047 (c.getD 1 0), min 127 (c.getD 2 0), min 2047 (c.getD 3 0)]

/-- L_c of R154: what seat n has advertised since DL_Active. -/
def seatLimits (s : State) (n : Nat) : List Nat := advertised (seatOf s n).fc (flagAt s (linkStat n) 8)

/-- At 2.5 and 5 GT/s lane i takes a de-emphasis level (R112): at 5 GT/s the one that the partner selects; at 2.5 GT/s −3.5 dB, PRESUMED,
the PCI Express specification. -/
def laneDeemph (s : State) (n i rate : Nat) (p : SeatPartner) : State :=
  regPut s (laneTxeq n i) (txeqWord 3 (eqFold (Config.txDeemph (b2n (rate == 1 || p.deemph)))))

/-- A request of the partner for lane i's transmitter in phase 3: taken, or refused, and the lane says so (R112, R143). -/
def phase3 (s : State) (n i rate : Nat) (q : TxReq) : State :=
  match q with
  | .preset x => setPreset s n i rate x.val
  | .coef c =>
    let (ok, s) := eqRequest s n i rate c.pre.val c.main.val c.post.val
    if ok then s else emit s (.seatSig n "EQ_REJECT" i)

/-- Phase 2 on lane i: coefficients that the seat asks of the downstream port, an open choice of Lane firmware; none under the ROM baseline
(R143, R144). -/
def phase2 (s : State) (n i : Nat) : State :=
  if laneLimp s n i then s
  else
    let (k, s) := freshFree s
    emit s (.seatSig n "EQ_REQUEST" (i * 65536 + Config.freeValue k % 65536))

/-- Equalization of lane i at a rate from 8 GT/s up (R111, R112, R143): FS and LF are reported; the preset that the partner sends, phase 2,
what it asks for in phase 3. Settings that the lane has at this rate since Detect are used again, unless the partner asks anew. A lane for
which no preset is sent keeps its coefficients. -/
def laneEq (s : State) (n i rate : Nat) (p : SeatPartner) : State :=
  match (laneOf s n i).byRate.find? (fun e => e.1 == rate && !p.eqAgain) with
  | some e => regPut s (laneTxeq n i) e.2
  | none =>
    let s := emit (emit s (.seatSig n "EQ_FS" 48)) (.seatSig n "EQ_LF" 16)
    let s := (p.presets.filter (fun q => q.1.val == i)).foldl (fun s q => setPreset s n i rate q.2.val) s
    let s := (p.eq.filter (fun q => q.1.val == i)).foldl (fun s q => phase3 s n i rate q.2) (phase2 s n i)
    laneMod s n i (fun x => { x with byRate := tabIns x.byRate rate (regAt s (laneTxeq n i)) })

/-- The transmitter of lane i at the rate of a training. -/
def seatEq (s : State) (n i rate : Nat) (p : SeatPartner) : State := if rate ≤ 2 then laneDeemph s n i rate p else laneEq s n i rate p

/-- The port's lanes run in the reversed order (R128). -/
def seatReversed (s : State) (n : Nat) : Bool := flagAt s (lanePg n + 0x304) 28
/-- The lanes of the trained width, and those that L0p has not turned off: reversed, link lane 0 is seat lane W−1. -/
def trainedLanes (s : State) (n : Nat) : List Nat := widthOf (portLanes s n) (fldAt s (linkStat n) 23 19) (seatReversed s n)
def activeLanes (s : State) (n : Nat) : List Nat := widthOf (portLanes s n) (fldAt s (linkStat n) 18 14) (seatReversed s n)

/-- The polarity of lane i: a fresh training detects or forces it; a return from Recovery keeps it (R117, R128). -/
def seatPol (s : State) (n i : Nat) (p : SeatPartner) (fresh : Bool) : Bool :=
  if fresh then lanePol s n i (p.inverted.any (fun j => j.val == i)) else flagAt s (laneStat n i) 28

/-- A lane outside the trained width: idle and off after Detect; excluded, but powered for re-acquisition, after Recovery (R133). -/
def laneLeft (s : State) (n i : Nat) (fresh : Bool) : State := if fresh then regPut s (laneStat n i) 0x20000000#32 else laneExclude s n i

/-- The seat's lanes and status of a training that reached L0 (R125, R128, R143, R145, R174). Recovery keeps DL_UP. -/
def seatLocked (s : State) (n rate width : Nat) (p : SeatPartner) (flit fresh : Bool) : State :=
  let w := portLanes s n
  let lanes := widthOf w width p.reversed
  let s := (List.range w).foldl (fun s i =>
    if lanes.contains i then seatEq (laneTrain s n i (seatPol s n i p fresh)) n i rate p else laneLeft s n i fresh) s
  let s := portTrained s n rate width p.reversed
  let old := regAt s (linkStat n)
  let v := 3 * 2 ^ 28 + rate * 2 ^ 24 + width * 2 ^ 19 + width * 2 ^ 14 + b2n flit * 2 ^ 13 + p.retimers.val * 2 ^ 9 + b2n (flit || p.scaled) * 2 ^ 8 + b2n (flit && p.selNak) * 2 ^ 7
  regPut s (linkStat n) (BitVec.ofNat 32 (v + (old &&& 0x2#32).toNat + 1))

/-- Lane i holds LOCK and is offered (R133, R146). -/
def laneGood (s : State) (n i : Nat) : Bool := flagAt s (laneStat n i) 31 && !flagAt s (laneStat n i) 27

/-- The width that a return from Recovery reaches (R147): a lane of the trained width trains again; a lane that was excluded rejoins only
with LOCK; a FAILED one does not (R133). -/
def rejoinWidth (s : State) (n : Nat) (p : SeatPartner) : Nat :=
  let w := portLanes s n
  let ok (i : Nat) : Bool := laneGood s n i || ((trainedLanes s n).contains i && !flagAt s (laneStat n i) 27)
  ([16, 8, 4, 2, 1].find? (fun x => decide (x ≤ w ∧ x ≤ p.lanes.val) && (widthOf w x p.reversed).all ok)).getD 0

/-- A seat trains from Detect to L0, or comes back to L0 from Recovery (R140, R142, R146, R173, R188): Sn_PERST_N is
high then, and its edge a wake source (R411); a removed seat trains only once its fold is cleared (R568). -/
def seatTrain (s : State) (n : Nat) (p : SeatPartner) : State :=
  let st := ltssm s n
  let fresh := !dlUp s n
  if !seatPresent s n || portDown s n || lanesFolded s || removed s n || isOff s || !(fresh || st == 4) then s
  else
    let flit := if fresh then !bitOf (linkCfg s n) 8 && p.flit else flitMode s n
    let rate := trainRate s n p flit
    let width := if fresh then fitWidth (portLanes s n) p.lanes.val else rejoinWidth s n p
    if width = 0 ∨ p.rate = 0 then s
    else
      let was := (seatRate s n, seatLanes s n)
      let s := if fresh then
          let btn := fldAt s 0x130 26 24
          let bak := fldAt s 0x130 30 28
          let s := (List.range (portLanes s n)).foldl (fun s i => laneBegin s n i (decide (i < p.lanes.val))) s
          seatMod s n (fun x => { Seat.down with bus := x.bus, tags := x.tags, gen := x.gen, freed := x.freed, ide := x.ide, cfg := linkCfg s n, fc := regAt s (linkPg n + 0x104), bigBar := btn == n || bak == n })
        else s
      let s := seatLocked s n rate width p flit fresh
      if fresh then setEvt (fldPut (if flagAt s (slotPg n + 0x108) 24 then wake s (7 + n) else s) (slotPg n + 0x108) 24 24 0) (linkPg n) 8
      else
        let s := if was.1 = rate then s else setEvt (ptmStale s n) (linkPg n) 11
        if was.2 = width then s else setEvt (ptmStale s n) (linkPg n) 10

/-- The seat enters Recovery (R146, R162). -/
def seatRecover (s : State) (n : Nat) : State :=
  if dlUp s n && ltssm s n != 4 then 
    setEvt (bump (setLtssm (seatMod s n (fun x => { x with ptmOpen := false })) n 4) (linkPg n + 0x414)) (linkPg n) 12 else s

/-- The link of seat n goes down to Detect (R166): its lanes too. -/
def seatDown (s : State) (n : Nat) : State := lanesDown (seatLinkDown s n 0) n

/-! ## Seat resets (R583) -/

/-- A seat reset or hot reset (R91, R583, R410): every function as by an FLR of the PF, requests reported as link-down, the seat's deck abandoned
whoever owns it, and every deck that the seat's host owns, READY cleared; the LTSSM code it enters is Detect, or HOT_RESET. -/
def seatReset (s : State) (n code : Nat) : State :=
  if !seatPresent s n then s
  else
    let s := lanesDown (seatLinkDown (fldPut s (linkStat n) 1 1 0) n code) n
    let s := (enabledVfs s n).foldl (fun s f => flrStart s f true) s
    let s := fnMod (flrStart s n false) n (fun x => { x with vfClear := false, vfs := 0 })
    fldPut (releaseClaims (deckAbandon (deckLosePf (deckLoseSeat (ideZeroize s n) n) n) (n + 1) 0) n) (linkStat n) 1 1 0

/-! ## Surprise removal (R566, R567) -/

/-- SLOT.STAT of seat n. -/
def slotStat (n : Nat) : Nat := slotPg n + 0x108
/-- Slot state of R563. -/
def slotState (s : State) (n : Nat) : Nat := fldAt s (slotStat n) 31 29
def setSlot (s : State) (n st : Nat) : State := fldPut s (slotStat n) 31 29 st
/-- Sn_PWR_EN takes a level. -/
def pwrEn (s : State) (n : Nat) (on : Bool) : State :=
  if flagAt s (slotStat n) 26 = on then s else emit (fldPut s (slotStat n) 26 26 on.toNat) (.pin "S_PWR_EN" (2 * n + on.toNat))

/-- A surprise removal of seat n (R566, R567): the link goes down and its work is reported as link-down; the seat folds with cause
REMOVAL; its functions are treated as by an FLR, unreported; the slot drains. A seat that is removed already is not removed again. -/
def removal (s : State) (n : Nat) : State :=
  if !seatPresent s n || removed s n then s
  else
    let s := faultPort (lanesDown (seatLinkDown s n 0) n) n 0x13 0 false
    let s := seatReset s n 0
    let s := setSlot (setEvt s (slotPg n) 12) n 4
    let s := if flagAt s (slotPg n + 0x100) 1 then pwrEn s n false else s
    { s with boot := { s.boot with gone := setIns n s.boot.gone } }

/-- The seat's handling replaces that of its functions' FLRs: they end unreported (R207). -/
def flrDrop (s : State) (n : Nat) : State :=
  ((seatFns s n).filter (fun f => (fnOf s f).flr)).foldl (fun s f => flrOff (flrForce s f) f) s

/-- The data link of seat n leaves DL_Active by itself (R166, R566): a surprise removal while Sn_PERST_N is high and the deck lets the
port train; else the link just goes down, and its functions' FLRs end with it. -/
def linkLost (s : State) (n : Nat) : State :=
  if flagAt s (slotStat n) 24 || portDown s n then releaseClaims (flrDrop (seatDown s n) n) n else removal s n

/-- After a failed lane, the seat forms the largest width below its own whose lanes all hold LOCK (R146, R147); with none, the
link goes down. -/
def seatReform (s : State) (n : Nat) : State :=
  if !dlUp s n then s
  else
    let w := portLanes s n
    let now := seatLanes s n
    let cand := ([8, 4, 2, 1].filter (fun x => decide (x < now))).flatMap (fun x => [(x, false), (x, true)])
    match cand.find? (fun c => (widthOf w c.1 c.2).all (laneGood s n)) with
    | none => linkLost s n
    | some (w', rev) =>
      let keep := widthOf w w' rev
      let s := (List.range w).foldl (fun s i => if keep.contains i then s else laneExclude s n i) s
      let s := fldPut (fldPut (setLtssm s n 3) (linkStat n) 23 19 w') (linkStat n) 18 14 w'
      let s := portTrained s n (seatRate s n) w' rev
      setEvt (bump (ptmStale s n) (linkPg n + 0x418)) (linkPg n) 10

/-- The active width of L0p becomes w (R124, R129, R148): lanes above are turned off, lanes below on. -/
def setL0p (s : State) (n w : Nat) : State :=
  let on := widthOf (portLanes s n) w (seatReversed s n)
  let s := (trainedLanes s n).foldl (fun s i => laneIdle s n i (!on.contains i)) s
  setEvt (fldPut (fldPut s (linkStat n) 18 14 w) (lanePg n + 0x304) 5 0 w) (linkPg n) 13

/-- L0p is in use: FLIT mode and L0P_EN (R148). -/
def l0pOn (s : State) (n : Nat) : Bool := flitMode s n && bitOf (linkCfg s n) 15 && ltssm s n == 3

/-- Every active lane enters idle, or leaves it. -/
def seatLanesIdle (s : State) (n : Nat) (idle : Bool) : State := (activeLanes s n).foldl (fun s i => laneIdle s n i idle) s

/-- The link of seat n enters a low-power state (R129, R138, R174). -/
def seatEiEnter (s : State) (n : Nat) (k : LinkLow) : State :=
  if !dlUp s n || ltssm s n != 3 then s
  else
  let s := match k with
    | .l0p _ => s
    | _ => seatMod s n (fun x => { x with ptmOpen := false })
  match k with
  | .l0s => if flitMode s n then s else setLtssm (seatLanesIdle s n true) n 5
  | .l1 sub => setLtssm (fldPut (seatLanesIdle s n true) (linkStat n) 12 11 sub.val) n 6
  | .l2 => setLtssm (seatLanesIdle s n true) n 7
  | .l0p w => if l0pOn s n && [1, 2, 4, 8].contains w.val && decide (w.val < seatLanes s n) then setL0p s n w.val else s

/-- The partner leaves electrical idle: the lanes resume (R129). -/
def seatEiExit (s : State) (n : Nat) : State :=
  let st := ltssm s n
  if !dlUp s n then s
  else if st = 5 ∨ st = 6 ∨ st = 7 then
    setLtssm (fldPut (seatLanesIdle s n false) (linkStat n) 12 11 0) n 3
  else if st = 3 ∧ fldAt s (linkStat n) 18 14 < seatLanes s n then setL0p s n (seatLanes s n)
  else s

/-! ## Replay and the host's credits (R154 to R157) -/

/-- One more round trip of this hand: minimum, maximum (R157, R339). -/
def rttAdd (r : Nat × Nat × Nat) (d : Nat) : Nat × Nat × Nat := (if r.1 = 0 then d else min r.1 d, max r.2.1 d, r.2.2)

/-- What an acknowledgement up to `seq` releases (R156). Each FLIT or TLP that it covers is measured, from its first sending (R157, log
entry 95). -/
def ackUp (s : State) (n seq : Nat) : State :=
  let x := seatOf s n
  if x.unacked.any (fun u => u.1 == seq) then
    let rest := (x.unacked.dropWhile (fun v => v.1 != seq)).drop 1
    let hit := x.unacked.take (x.unacked.length - rest.length)
    seatMod s n (fun x => { x with unacked := rest, replays := 0, rttNow := hit.foldl (fun r u => rttAdd r (s.time.toNat - u.2.1)) x.rttNow })
  else s

/-- The fourth replay in a row without progress (R175, R434): the counter rolls over and the link retrains. PRESUMED: four, and the
retraining, the PCI Express specification. -/
def replayRollover (s : State) (n : Nat) : State :=
  seatMod (seatRecover (raiseErr (aer s n .replayRollover) (linkPg n) 9) n) n (fun x => { x with replays := 0 })

/-- Replay after a NAK or a timer (R156, R176): everything unacknowledged, or, in selective replay, the one FLIT that the NAK asks for. -/
def replaySeat (s : State) (n : Nat) (one : Bool) : State :=
  let u := (seatOf s n).unacked.length
  let c := if one then min 1 u else u
  let s := seatMod s n (fun x => { x with rttNow := (x.rttNow.1, x.rttNow.2.1, x.rttNow.2.2 + c), ptmOpen := false, replays := if c = 0 then x.replays else x.replays + 1 })
  let s := emit (bumpBy s (linkPg n + 0x410) c) (.seatSig n "REPLAY" c)
  if 4 ≤ (seatOf s n).replays then replayRollover s n else s

/-- SEAT.LINK_STAT.SEL_NAK: the link replays selectively (R156, R174). -/
def selNak (s : State) (n : Nat) : Bool := flagAt s (linkStat n) 7

/-- Add granted credits; none: infinite. -/
def grantAdd (g : Option Nat) (a : Option Nat) : Option Nat :=
  match g, a with
  | some x, some y => some (x + y)
  | _, _ => none

/-- The seat's replay buffer, in bytes (R156). -/
def replayBytes : Nat := 524288
/-- The replay buffer and the sequence numbers have room for a packet (R156). -/
def seatRoom (s : State) (n : Nat) (t : Tlp) : Bool :=
  let u := (seatOf s n).unacked
  let l := sendBytes s n t
  decide ((u.map (fun f => f.2.2)).sum + l.sum ≤ replayBytes) && decide (u.length + l.length < seqSpace s n)

/-! ## Host completions and timeouts (R158, R163 to R166) -/

/-- The AER error of a failed IDE check (R434). -/
def ideAer : IdeBad → AerErr
  | .mac => .ideCheck
  | .pcrc => .idePcrc
  | .misrouted => .ideMisrouted

/-- An IDE check failed on a stream of seat n (R170, R175): the stream is Insecure, its keys are spent, and the seat folds. -/
def ideFail (s : State) (n stream : Nat) (why : IdeBad) : State :=
  let s := seatMod s n (fun x => { x with ide := tabMod IdeStream.none_ x.ide stream (fun y => { y with secure := false, active := [], stale := y.keys.map (fun p => p.1) }) })
  let s := setErrBit (setEvt (bump s (idePg n + 0x400)) (idePg n) 8) (idePg n) 8
  faultPort (emit (aer s n (ideAer why)) (.seatSig n "IDE_CHECK_FAILED" stream)) n 0x0F (idePg n) false

/-! ### FLITs and TLPs as they arrive (R146, R175, R176, R434) -/

/-- The seat sends a NAK for what fails its CRC: the partner replays it (R146). -/
def nakSent (s : State) (n : Nat) : State := emit (bump s (linkPg n + 0x408)) (.seatSig n "NAK" 0)
/-- The Flit Logging registers of PF n take a FLIT with errors (R184): the counter while it is enabled; the log when FEC could not correct
the FLIT. PRESUMED layout; what else the log holds is an open value. -/
def flitLogged (s : State) (n : Nat) (lost : Bool) : State :=
  let s := if bitOf (cfgAt s n 0x34C) 0 then cfgPut s n 0x350 (setBits (cfgAt s n 0x350) 31 16 (satNat 65535 (bits (cfgAt s n 0x350) 31 16 + 1))) else s
  if lost && !bitOf (cfgAt s n 0x344) 0 then
    let (k, s) := freshFree s
    cfgPut s n 0x344 (setBit (BitVec.ofNat 32 (Config.freeValue k)) 0 true)
  else s
/-- FEC corrected symbols of a FLIT (R146); outside FLIT mode there is no FEC. -/
def flitFixed (s : State) (n : Nat) : State := if flitMode s n then flitLogged (tally (bump s (linkPg n + 0x400)) 9 n 1) n false else s
/-- A FLIT or TLP fails its CRC. -/
def crcFailed (s : State) (n : Nat) : State := nakSent (aer s n .badTlp) n
/-- FEC cannot correct a FLIT; outside FLIT mode it is a CRC failure. -/
def flitLost (s : State) (n : Nat) : State :=
  if flitMode s n then nakSent (aer (raiseErr (flitLogged (bump s (linkPg n + 0x404)) n true) (linkPg n) 8) n .receiver) n else crcFailed s n

/-- What reaches the data link layer beside TLPs (R146, R156, R434). -/
def dllp (s : State) (n : Nat) (d : Dllp) : State :=
  if !dlUp s n then s
  else match d with
  | .ack q => ackUp s n q.val
  | .nak q => replaySeat (bump (ackUp s n q.val) (linkPg n + 0x40C)) n (selNak s n)
  | .credit c h d =>
    seatMod s n (fun x => { x with grant := listSet (listSet x.grant (2 * c.val) (grantAdd (x.grant.getD (2 * c.val) none) (h.map (fun v => v.val)))) (2 * c.val + 1) (grantAdd (x.grant.getD (2 * c.val + 1) none) (d.map (fun v => v.val))) })
  | .fixed => flitFixed s n
  | .uncorrectable => flitLost s n
  | .badCrc => crcFailed s n
  | .badDllp => if flitMode s n then s else aer s n .badDllp
  | .receiverError => aer (raiseErr s (linkPg n) 10) n .receiver
  | .protocol => aer s n .dataLink
  | .flowControl => aer s n .flowControl

/-- What the seat does with the mark of a received TLP for function f (R139, R167, R170, R198, R434): none where it goes no
further. -/
def rxCheck (s : State) (n f : Nat) (m : RxMark) : Option State × State :=
  match m with
  | .good => (some s, s)
  | .fixed => (some (flitFixed s n), s)
  | .uncorrectable => (none, flitLost s n)
  | .badCrc => (none, crcFailed s n)
  | .poisoned =>
    let s := aerAdvisory (setErrBit s (fnPg f) 10) f .poisoned
    (some s, s)
  | .ecrc =>
    if flitMode s n || !bitOf (cfgAt s n 0x118) 8 then (some s, s)
    else (none, raiseErr (aer (bump s (txnPg n + 0x40C)) f .ecrc) (txnPg n) 8)
  | .ide t why => (none, ideFail s n t.val why)
  | .malformed => (none, raiseErr (aer s f .malformed) (txnPg n) 9)
  | .unsupported => (none, aer (bump s (txnPg n + 0x410)) f .unsupported)

/-- The tag entry of seat n that a completion for function f with a wire tag names. -/
def seatTag (s : State) (n f wire : Nat) : Option (Nat × TagEnt) := (seatOf s n).tags.find? (fun t => t.2.fn == f && t.2.wire == wire)

/-- A completion ends its request: Byte Count equals its own length, or it is not successful (R164). -/
def cplEnds (status byteCount len : Nat) : Bool := decide (status ≠ 0) || byteCount == len

/-- A completion from the host (R153, R158, R164, R165). -/
def hostCompletion (s : State) (n f wire status byteCount : Nat) (poison : Bool) (data : List Byte) : State :=
  if !dlUp s n then s
  else match seatTag s n f wire with
  | none => raiseErr (aer s f .unexpectedCpl) (txnPg n) 10
  | some (i, e) =>
    if e.quar then
      let s := aerAdvisory (setEvt (bump s (txnPg n + 0x404)) (txnPg n) 9) f .unexpectedCpl
      if cplEnds status byteCount data.length then freeTag s n i else s
    else if status ≠ 0 then
      endSeatReq (freeTag s n i) e (if status = 4 then .hostCa else .hostUr)
    else if byteCount ≠ e.len - e.got.length ∨ byteCount < data.length then raiseErr (aer s f .malformed) (txnPg n) 9
    else if data.length < byteCount then
      seatMod s n (fun x => { x with tags := tabIns x.tags i { e with got := e.got ++ data, ep := e.ep || poison } })
    else deliver (freeTag s n i) e (e.got ++ data) (e.ep || poison)

/-- A seat request's timer expires (R163). -/
def cplTimeout (s : State) (n i : Nat) : State :=
  match (seatOf s n).tags.find? (fun t => t.1 == i) with
  | some (_, e) =>
    if e.quar then s
    else
      let s := tally (quarTag (setEvt (bump s (txnPg n + 0x400)) (txnPg n) 8) n i) 8 n 1
      endSeatReq (aer s e.fn .cplTimeout) e .timeout
  | none => s

/-- A quarantined tag returns to free (R164). -/
def tagExpire (s : State) (n i : Nat) : State :=
  if (seatOf s n).tags.any (fun t => t.1 == i && t.2.quar) then freeTag s n i else s

/-- Seat n becomes ready (R581, R583): its configuration space is built with reset values, once no function of it drains. The
functions' FLRs end without a report. -/
def seatReady (s : State) (n : Nat) : State :=
  if !seatPresent s n || flagAt s (linkStat n) 1 || !(decide (7 ≤ fldAt s 0x1D4 31 28)) then s
  else if (seatFns s n).all (fun f => !(fnOf s f).flr || flrReady s f) then
    let s := ((seatFns s n).filter (fun f => (fnOf s f).flr)).foldl flrOff s
    fldPut s (linkStat n) 1 1 1
  else s

/-! ## Commands -/

/-- SEAT_TRAINING (R140). -/
def execSeatTraining (n : Fin 6) (p : SeatPartner) (s : State) : Answer := finish (seatTrain s n.val p)
/-- SEAT_RECOVERY (R146). -/
def execSeatRecovery (n : Fin 6) (s : State) : Answer := finish (seatRecover s n.val)
/-- SEAT_WIDTH_REFORM (R146). -/
def execSeatWidthReform (n : Fin 6) (s : State) : Answer := finish (seatReform s n.val)
/-- SEAT_LINK_DOWN (R166, R207, R410, R566): the claims of the seat's PF are released. -/
def execSeatLinkDown (n : Fin 6) (s : State) : Answer :=
  finish (if dlUp s n.val then linkLost s n.val else s)
/-- SEAT_RESET (R411, R583): Sn_PERST_N is asserted, whose edge is a wake source. -/
def execSeatReset (n : Fin 6) (s : State) : Answer := finish (fldPut (seatReset (wake s (7 + n.val)) n.val 0) (slotStat n.val) 24 24 1)
/-- HOT_RESET (R583): a hot reset or a link disable was received; LTSSM shows which. -/
def execHotReset (n : Fin 6) (disable : Bool) (s : State) : Answer := finish (seatReset s n.val (if disable then 9 else 8))
/-- SEAT_READY (R581). -/
def execSeatReady (n : Fin 6) (s : State) : Answer := finish (seatReady s n.val)
/-- L0P_REQUEST_RX (R148). -/
def execL0pRequestRx (n : Fin 6) (w : Fin 17) (s : State) : Answer :=
  finish (if l0pOn s n.val && [1, 2, 4, 8, 16].contains w.val && decide (w.val ≤ seatLanes s n.val) then
    emit (setL0p s n.val w.val) (.seatSig n.val "L0P_ACK" w.val) else s)
/-- ELECTRICAL_IDLE_ENTRY (R129). -/
def execElectricalIdleEntry (n : Fin 6) (k : LinkLow) (s : State) : Answer := finish (seatEiEnter s n.val k)
/-- ELECTRICAL_IDLE_EXIT (R129), a wake source in Sleep (R411). -/
def execElectricalIdleExit (n : Fin 6) (s : State) : Answer := finish (seatEiExit (wakeRx s (1 + n.val)) n.val)
/-- DLLP_RX (R156). -/
def execDllpRx (n : Fin 6) (d : Dllp) (s : State) : Answer := finish (dllp s n.val d)
/-- SEAT_REPLAY_TIMER (R156, R434). -/
def execSeatReplayTimer (n : Fin 6) (s : State) : Answer :=
  finish (if (seatOf s n.val).unacked.isEmpty || !dlUp s n.val then s else aer (replaySeat s n.val false) n.val .replayTimeout)
/-- HOST_COMPLETION (R164): a completion for function f, with its wire tag, status, Byte Count and data. -/
def execHostCompletion (n : Fin 6) (f : Fin 4096) (wire : Fin 16384) (status : Fin 8) (byteCount : Fin 4097) (mark : RxMark) (data : List Byte) (s : State) : Answer :=
  finish (match rxCheck (rxTlp s n.val) n.val f.val mark with
    | (none, s) => s
    | (some s, _) => hostCompletion s n.val f.val wire.val status.val byteCount.val (mark == .poisoned) data)
/-- COMPLETION_TIMEOUT (R163): the request that holds pool index i. -/
def execCompletionTimeout (n : Fin 6) (i : Fin 4096) (s : State) : Answer := finish (cplTimeout s n.val i.val)
/-- TAG_QUARANTINE_EXPIRE (R164). -/
def execTagQuarantineExpire (n : Fin 6) (i : Fin 4096) (s : State) : Answer := finish (tagExpire s n.val i.val)

end Sys2Proof.Machine
end

