-- ==== Sys2Proof/Machine/NicenPhy.lean ====
section
/-! DEFINITION. Nicen Links: lanes, training, frames and replay, electrical idle, HAND rows, shed and restore (R314 to R354). -/

namespace Sys2Proof.Machine

def setNlk (s : State) (k st : Nat) : State := fldPut s (nlkStat k) 31 28 st
/-- L (R314). -/
def nlkLanes (s : State) (k : Nat) : Nat := portLanes s (6 + k)
/-- MIN_LANES in the live configuration (R350). -/
def minLanes (s : State) (k : Nat) : Nat := fldAt s (linkPg (6 + k) + 0x100) 23 18
def nlkTxMap (s : State) (k : Nat) : Nat := (regAt s (linkPg (6 + k) + 0x120)).toNat
def nlkRxMap (s : State) (k : Nat) : Nat := (regAt s (linkPg (6 + k) + 0x124)).toNat
def nlkStandby (s : State) (k : Nat) : Nat := (regAt s (linkPg (6 + k) + 0x128)).toNat
/-- Number of lanes in a map. -/
def mapCount (m : Nat) : Nat := ((List.range 32).filter (fun i => m.testBit i)).length
/-- A map of the lanes `p` picks. -/
def mapOf (p : Nat → Bool) : Nat := ((List.range 32).map (fun i => if p i then 2 ^ i else 0)).sum
/-- The spare lane of group j, as SPARE_CFG names it; none where none is enabled (R314, R350). -/
def spareOf (cfg : Word) (j : Nat) : Option Nat := if bitOf cfg (4 * j + 3) then some (8 * j + bits cfg (4 * j + 2) (4 * j)) else none
/-- A_nom (R315). -/
def aNom (s : State) (k : Nat) (spare : Word) : Nat :=
  nlkLanes s k - ((List.range (nlkLanes s k / 8)).filter (fun j => (spareOf spare j).isSome)).length

/-- A_TX, A_RX and MAP_SPLIT follow the maps (R343, R351); LANE_PORT_STAT.ACTIVE_LANES too (R124). -/
def mapStat (s : State) (k : Nat) : State :=
  let t := nlkTxMap s k
  let r := nlkRxMap s k
  let s := fldPut (fldPut (fldPut s (nlkStat k) 23 18 (mapCount t)) (nlkStat k) 17 12 (mapCount r)) (nlkStat k) 6 6 (b2n (t != r))
  fldPut s (lanePg (6 + k) + 0x304) 5 0 (mapCount t)

/-- Set a map register (0x120 TX, 0x124 RX, 0x128 standby). -/
def setMap (s : State) (k o v : Nat) : State := regPut s (linkPg (6 + k) + o) (BitVec.ofNat 32 v)

/-- The Dealer share of link k (R317). -/
def linkShare (s : State) (k : Nat) : Nat :=
  let g := (linkGroups s k).length
  let a := min (mapCount (nlkTxMap s k)) (mapCount (nlkRxMap s k))
  let n := aNom s k (physOf s k).spare
  if n = 0 then 0 else min (10 * g) ((10 * g * a + n - 1) / n)

/-- The lane, as LANE_STAT numbers it, under link lane i, and the other way: whole-link reversal renumbers the lanes of both directions
(R128, R326). -/
def wireLane (s : State) (k i : Nat) : Nat := if flagAt s (nlkStat k) 11 then nlkLanes s k - 1 - i else i

/-- Lanes that are not shed: active and standby ones; before the maps are fixed, all link lanes (R314, R316). -/
def rowLanes (s : State) (k : Nat) : List Nat :=
  (List.range (nlkLanes s k)).filter (fun i => decide (nlkState s k < 4) || (nlkTxMap s k).testBit i || (nlkStandby s k).testBit i)
/-- Link lanes that this side receives on: those of RX_MAP and the standby ones. -/
def rxLanes (s : State) (k : Nat) : List Nat :=
  (List.range (nlkLanes s k)).filter (fun i => (nlkRxMap s k).testBit i || (nlkStandby s k).testBit i)
/-- Send a control row that is the same on every lane (R316, R322). -/
def sendRow (s : State) (k kind : Nat) (fields : List Byte) : State := sendBlock s k ((rowLanes s k).map (wireLane s k)) kind fields
/-- Control blocks that are discarded (R322, R353). -/
def ctrlBad (s : State) (k n : Nat) : State := if n = 0 then s else bumpBy s (linkPg (6 + k) + 0x42C) n

/-- The TX lanes of link k enter or leave electrical idle (R340, R341). -/
def txIdle (s : State) (k : Nat) (idle : Bool) : State :=
  (rowLanes s k).foldl (fun s i => laneEi s (6 + k) (wireLane s k i) idle) (fldPut s (nlkStat k) 9 9 (b2n idle))
/-- The RX lanes of link k enter or leave electrical idle: their loops hold, or go on (R129, R340). -/
def rxIdle (s : State) (k : Nat) (idle : Bool) : State :=
  (rxLanes s k).foldl (fun s i => laneHold s (6 + k) (wireLane s k i) idle) (fldPut s (nlkStat k) 8 8 (b2n idle))
/-- What arrives on an idle receive direction has ended its idle (R341). -/
def rxAwake (s : State) (k : Nat) : State := if flagAt s (nlkStat k) 8 then rxIdle s k false else s

/-- The fields of a TS block (R325): `flags` [0] ACK, [1] RATE_GO; LIMP is added. -/
def tsFields (s : State) (k i flags : Nat) (cfg spare : Word) : List Byte :=
  natLe 1 (flags + 4 * b2n (portLimp s (6 + k))) ++ natLe 1 (wireLane s k i) ++ natLe 1 (nlkLanes s k) ++ natLe 2 (bits spare 15 0) ++ natLe 1 (bits cfg 1 0) ++
  natLe 1 (bits cfg 23 18) ++ natLe 4 (regAt s (linkPg (6 + k) + 0x118)).toNat ++ natLe 1 1
/-- Send TS blocks on lanes of link k (R325). -/
def sendTs (s : State) (k flags : Nat) (cfg spare : Word) (lanes : List Nat) : State :=
  lanes.foldl (fun s i => sendBlock s k [i] 0x10 (tsFields s k i flags cfg spare)) s

/-- Lanes that this side receives with block lock and within the skew tolerance (R329, R330). -/
def rxOk (s : State) (k : Nat) : Nat :=
  mapOf (fun i =>
    let w := wireLane s k i
    decide (i < nlkLanes s k) && (laneOf s (6 + k) w).block && flagAt s (laneStat (6 + k) w) 31 && !(physOf s k).skewed.contains i)

/-- Send an AM row (R329): ALIGNED, LANE, FRAME_POS, RX_OK, AM_COUNT. Where the next data row lies in its frame depends on the EMPTY
frames that fill the time: an open value. -/
def sendAm (s : State) (k : Nat) : State :=
  let (n, s) := freshFree s
  let ok := rxOk s k
  let c := (physOf s k).amSent
  let s := physMod s k (fun x => { x with amSent := (x.amSent + 1) % 2 ^ 32 })
  (rowLanes s k).foldl (fun s i =>
    sendBlock s k [wireLane s k i] 0x20 (natLe 1 (b2n (decide (ok ≠ 0))) ++ natLe 1 i ++ natLe 1 (Config.freeValue n % 33) ++ natLe 4 ok ++ natLe 4 c)) s

/-- DOWN rows: 16 of them, with the reason (R322, R324). -/
def sendDown (s : State) (k why : Nat) : State := (List.range 16).foldl (fun s _ => sendRow s k 0x24 (natLe 1 why)) s

/-- The quick burst on lanes of link k, two bits in a symbol above 32 Gb/s (R320, R341). -/
def sendBurst (s : State) (k : Nat) (lanes : List Nat) : State := emit s (.burst k (lanes.map (wireLane s k)) (quickBurst (decide (8 < fldAt s (nlkStat k) 27 24))))

/-! ## Training (R324 to R330) -/

/-- Link k goes to DETECT (R324, R349). -/
def toDetect (s : State) (k why : Nat) : State := lanesDown (nlkDown s k why) (6 + k)

/-- A training state fails: 16 DOWN rows, the reason, DETECT (R324). -/
def trainFail (s : State) (k why : Nat) : State :=
  let s := sendDown s k why
  bump (toDetect s k why) (linkPg (6 + k) + 0x424)

/-- DETECT → PROBE when the signal has held on at least MIN_LANES lanes (R324): the configuration of R350 and R117 is latched. -/
def toProbe (s : State) (k : Nat) (lanes : List Nat) : State :=
  let p := 6 + k
  let up := lanes.filter (fun i => decide (i < nlkLanes s k))
  if !portPresent s p || portDown s p || lanesFolded s || nlkState s k != 0 || decide (up.length < minLanes s k) || up.isEmpty then s
  else
    let s := (List.range (nlkLanes s k)).foldl (fun s i => laneBegin s p i (up.contains i)) s
    let s := physMod s k (fun x => { x with cfg := regAt s (linkPg p + 0x100), spare := regAt s (linkPg p + 0x104), slip := regAt s (linkPg p + 0x11C), misses := 0 })
    let s := regPut s (lanePg p + 0x304) (regAt s (lanePg p + 0x304) &&& 0x40000000#32 ||| (8 * 2 ^ 24 : Nat))
    let x := physOf s k
    sendTs (setNlk s k 1) k 0 x.cfg x.spare (List.range (nlkLanes s k))

/-- The link rate code 1 to 3 (R326), and the RATE code of R124. -/
def nlkRate (s : State) (k : Nat) : Nat :=
  let x := physOf s k
  if x.pLimp || portLimp s (6 + k) then 1
  else min (min (bits x.cfg 1 0) x.pRate) (if gradeRate s = 7 then 3 else 2)

/-- PROBE → TRAIN: RATE_GO, the rate, the starting coefficients (R113, R326). -/
def toTrain (s : State) (k : Nat) : State :=
  let p := 6 + k
  let x := physOf s k
  let s := (List.range 16).foldl (fun s _ => sendTs s k 3 x.cfg x.spare (List.range (nlkLanes s k))) s
  let r := nlkRate s k
  let s := fldPut s (lanePg p + 0x304) 27 24 (7 + r)
  let s := fldPut s (nlkStat k) 27 24 (7 + r)
  let s := (List.range (nlkLanes s k)).foldl (fun s i =>
    let start := bits (laneOf s p i).cfg 29 26
    match decide (start ≤ 10), (laneOf s p i).lastEq with
    | false, some c => regPut s (laneTxeq p i) (txeqWord (7 + r) c)
    | _, _ => setPreset s p i (7 + r) (if start ≤ 10 then start else 4)) s
  setNlk (physMod s k (fun x => { x with eqDone := [], eqId := [] })) k 2

/-- A TS block arrived on lane i in PROBE (R325, R326). -/
def tsRx (s : State) (k i : Nat) (t : TsBlock) : State :=
  let p := 6 + k
  if t.bad then
    ctrlBad (physMod s k (fun x => { x with tsGood := tabDel x.tsGood i, tsAck := tabDel x.tsAck i })) k 1
  else if nlkState s k ≠ 1 ∨ nlkLanes s k ≤ i then s
  else if t.lanes.val ≠ nlkLanes s k then trainFail s k 2
  else if t.spares.val ≠ bits (physOf s k).spare 15 0 then trainFail s k 3
  else if t.version.val ≠ 1 then trainFail s k 4
  else
    let s := fldPut s (laneStat p i) 28 28 (b2n (lanePol s p i t.inverted))
    let s := regPut s (linkPg p + 0x12C) t.id
    let s := physMod s k (fun x => { x with tsLane := tabIns x.tsLane i t.lane.val, tsGood := tabMod 0 x.tsGood i (· + 1), tsAck := tabPut 0 x.tsAck i (if t.ack then tabGet 0 x.tsAck i + 1 else 0), pRate := t.maxRate.val, pLimp := x.pLimp || t.limp })
    let x := physOf s k
    let rev := x.tsLane.all (fun q => q.1 + q.2 + 1 == nlkLanes s k) && x.tsLane.any (fun q => q.1 != q.2)
    let s := fldPut (fldPut s (nlkStat k) 11 11 (b2n rev)) (lanePg p + 0x304) 28 28 (b2n rev)
    let s := if tabGet 0 x.tsGood i = 8 then sendTs s k 1 x.cfg x.spare [i] else s
    if minLanes s k ≤ x.tsLane.length ∧ x.tsLane.all (fun q => decide (16 ≤ tabGet 0 x.tsAck q.1)) then toTrain s k else s

/-- Link lane i of link k has block lock and LOCK. -/
def laneIn (s : State) (k i : Nat) : Bool := (laneOf s (6 + k) (wireLane s k i)).block && flagAt s (laneStat (6 + k) (wireLane s k i)) 31

/-- The device's EQ block on lane i (R327): it answers request `id` with `status`, names its current coefficients, and asks for nothing
(DESIGN CHOICE, log entry 94): REQ_MODE is hold and DONE is set. -/
def sendEq (s : State) (k i id status : Nat) : State :=
  let w := regAt s (laneTxeq (6 + k) i)
  sendBlock s k [i] 0x11 (natLe 5 0 ++ natLe 1 id ++ natLe 1 status ++ natLe 1 (bits w 5 0) ++ natLe 1 (bits w 11 6) ++ natLe 1 (bits w 17 12) ++ natLe 1 1)

/-- Retrain (R348, R349): TRAIN again, keeping rate, sequence numbers and credits. -/
def retrain (s : State) (k : Nat) : State :=
  if !linkActive s k then s
  else
    let s := setNlk (fldPut (rxAwake (if flagAt s (nlkStat k) 9 then txIdle s k false else s) k) (nlkStat k) 10 10 1) k 2
    let s := physMod s k (fun x => { x with eqDone := [], eqId := [], eqAct := [], amCnt := 0, skewed := [], failed := 0, ex := none })
    let s := fldPut (fldPut s (nlkStat k) 7 7 0) (linkPg (6 + k) + 0x130) 8 8 0
    setEvt (bump s (linkPg (6 + k) + 0x418)) (linkPg (6 + k)) 12

/-- An EQ block arrived on lane i (R327, R328, R349). -/
def eqRx (s : State) (k i : Nat) (b : EqBlock) : State :=
  let p := 6 + k
  if b.bad then ctrlBad s k 1
  else if nlkLanes s k ≤ i then s
  else if linkActive s k then
    let s := physMod s k (fun x => { x with eqAct := setIns i x.eqAct })
    if minLanes s k ≤ (physOf s k).eqAct.length then retrain s k else s
  else if nlkState s k ≠ 2 then s
  else
    let fresh := !((physOf s k).eqId.any (fun q => q.1 == i && q.2 == b.id.val)) && b.mode.val != 0
    let s := if fresh then
        let (ok, s) := if b.mode.val = 1 then (true, setPreset s p i (fldAt s (nlkStat k) 27 24) b.preset.val) else eqRequest s p i (fldAt s (nlkStat k) 27 24) b.pre.val (48 - b.pre.val - b.post.val) b.post.val
        sendEq s k i b.id.val (b2n (!ok))
      else s
    let s := physMod s k (fun x => { x with eqId := if fresh then tabIns x.eqId i b.id.val else x.eqId, eqDone := tabPut 0 x.eqDone i (if b.done then tabGet 0 x.eqDone i + 1 else 0) })
    let lanes := (List.range (nlkLanes s k)).filter (fun i => (laneOf s p i).block)
    if !lanes.isEmpty && lanes.all (fun i => decide (16 ≤ tabGet 0 (physOf s k).eqDone i)) then
      sendAm (setNlk (physMod s k (fun x => { x with amCnt := 0, skewed := [], amSent := 0 })) k 3) k
    else s

/-- The lanes fixed at the end of ALIGN (R315): active and standby maps of the lanes U. -/
def fixMaps (s : State) (k u : Nat) : Nat × Nat :=
  let sp := (physOf s k).spare
  let groups := List.range (nlkLanes s k / 8)
  let standby := ((groups.filterMap (fun j =>
    match spareOf sp j with
    | some x => if (numsFrom (8 * j) 8).all (fun i => u.testBit i) then some (2 ^ x) else none
    | none => none))).sum
  (mapOf (fun i => u.testBit i && !standby.testBit i), standby)

/-- Link k enters ACTIVE: each lane's coefficients are those of its last ACTIVE (R113, R324). -/
def enterActive (s : State) (k : Nat) : State :=
  (List.range (nlkLanes s k)).foldl (fun s i =>
    let w := regAt s (laneTxeq (6 + k) i)
    laneMod s (6 + k) i (fun x => { x with lastEq := some (bits w 5 0, bits w 11 6, bits w 17 12) })) (setNlk s k 5)

/-- The link comes up (R324, R352). Its Dealer share follows at the next trick 0 (R317). -/
def toActive (s : State) (k : Nat) : State := pump (setEvt (enterActive s k) (linkPg (6 + k)) 8) k

/-- ALIGN is left (R315, R330): the maps are fixed; LINKUP, or ACTIVE again in a retrain. In LINKUP both sides send their
credit initialization (R324, R375). -/
def alignDone (s : State) (k u : Nat) : State :=
  let p := 6 + k
  let (act, stby) := fixMaps s k u
  if mapCount act < minLanes s k then trainFail s k 5
  else
    let s := mapStat (setMap (setMap (setMap s k 0x120 act) k 0x124 act) k 0x128 stby) k
    let s := (List.range (nlkLanes s k)).foldl (fun s i =>
      let w := wireLane s k i
      if act.testBit i || stby.testBit i then laneTrain s p w (flagAt s (laneStat p w) 28) else laneExclude s p w) s
    let s := physMod s k (fun x => { x with shedBy := (List.range (nlkLanes s k)).filterMap (fun i => if act.testBit i || stby.testBit i then none else some (i, 255)) })
    if flagAt s (nlkStat k) 10 then pump (replayFrames (enterActive (fldPut s (nlkStat k) 10 10 0) k) k) k
    else
      let lim (o : Nat) : List Nat := [fldAt s (txnPg p + o) 27 16, fldAt s (txnPg p + o) 15 0]
      let l := lim 0x100 ++ lim 0x104 ++ [0, 0] ++ lim 0x108
      let s := linkTxMod s k (fun x => { LinkTx.down with lim := l, shedRpt := x.shedRpt, nextId := x.nextId, posted := x.posted, tags := x.tags })
      let s := physMod s k (fun x => { x with stream := [], placed := 0, framed := 0, seq := 0, unacked := [], rxSeq := 4095, owe := false, nak := false, drop := false, failed := 0, initAck := false })
      nicenPut (setNlk s k 4) k { txn0 0x10 0 0 0 0 with len := 1, last := 32, off := 1, data := l.flatMap (natLe 4) }

/-- An AM row arrived (R329 to R331). -/
def amRx (s : State) (k : Nat) (a : AmRow) : State :=
  let s := ctrlBad (rxAwake s k) k a.bad.val
  let st := nlkState s k
  if st = 3 then
    let s := physMod s k (fun x => { x with skewed := a.skewed.foldl (fun l i => setIns i.val l) x.skewed, peerOk := a.rxOk.toNat, amCnt := if a.aligned then x.amCnt + 1 else 0 })
    let s := if a.skewed.isEmpty then s else raiseErr s (linkPg (6 + k)) 10
    let x := physOf s k
    let mine := rxOk s k
    if 8 ≤ x.amCnt ∧ mine ≠ 0 then alignDone s k (Nat.land mine x.peerOk) else s
  else if st = 5 ∧ !a.posOk then
    -- the current frame is discarded and NAKed (R331)
    pump (physMod s k (fun x => { x with nak := true, drop := true })) k
  else s

/-- LINKUP → ACTIVE once both initializations stand (R324). -/
def linkUpDone (s : State) (k : Nat) : State :=
  if nlkState s k = 4 ∧ (physOf s k).initAck ∧ (linkTxOf s k).initRx then toActive s k else s

/-- A training state times out (R324): its LAST_FAIL. A retrain that fails reads 9 (R351). -/
def stateTimeout (s : State) (k : Nat) : State :=
  let re := flagAt s (nlkStat k) 10
  match nlkState s k with
  | 1 => trainFail s k (if (physOf s k).tsLane.length < minLanes s k then 5 else 1)
  | 2 => trainFail s k (if re then 9 else 6)
  | 3 => trainFail s k (if re then 9 else 7)
  | 4 => trainFail s k 8
  | _ => s

/-! ## Frames and replay (R332 to R339) -/

/-- What an ACK value acknowledges: every frame up to that SEQ (R336). Each is measured, from when it last left (R339, log entry 95); the
transactions that they complete are delivered (R293). -/
def frameAck (s : State) (k q : Nat) : State :=
  let x := physOf s k
  match x.unacked.find? (fun f => f.seq == q) with
  | none => s
  | some f =>
    let rest := (x.unacked.dropWhile (fun g => g.seq != q)).drop 1
    let hit := x.unacked.take (x.unacked.length - rest.length)
    let s := physMod s k (fun y => { y with unacked := rest, failed := 0, initAck := true, rttNow := hit.foldl (fun r g => rttAdd r (s.time.toNat - g.time)) y.rttNow })
    linkUpDone (pump (framesAcked s k f.last) k) k

/-- A replay from the oldest unacknowledged frame (R338); with none, nothing. REPLAY_NUM in a row without progress retrain, unless a shed
is pending. -/
def frameReplay (s : State) (k : Nat) : State :=
  let x := physOf s k
  if x.unacked.isEmpty then s
  else
    let f := if x.ex.isSome then x.failed else x.failed + 1
    let s := replayFrames (physMod s k (fun x => { x with failed := f })) k
    if fldAt s (linkPg (6 + k) + 0x10C) 19 16 ≤ f then retrain s k else s

/-- The receiver NAKs: once, then again only when the expected frame stays away for REPLAY_TMO (R337). -/
def nakNow (s : State) (k : Nat) : State := if (physOf s k).drop then s else physMod s k (fun x => { x with nak := true, drop := true })

/-- At a trick boundary: a NAK whose frame has not come within REPLAY_TMO is sent again (R337). -/
def nakAgain (s : State) (k : Nat) : State :=
  let x := physOf s k
  if linkSends s k && x.drop && !x.nak && decide (x.nakAt + 40 * fldAt s (linkPg (6 + k) + 0x10C) 11 0 ≤ s.time.toNat) then
    pump (physMod s k (fun y => { y with nak := true })) k
  else s

/-- A frame arrived (R333, R335, R336, R337, R338). What it is owed in answer leaves at once. -/
def frameRx (s : State) (k : Nat) (f : Frame) : State :=
  let pg := linkPg (6 + k)
  if nlkState s k < 4 then s
  else
    let s := rxAwake s k
    let s := f.fixed.foldl (fun s i => physMod s k (fun x => { x with symNow := tabMod 0 x.symNow i.val (· + 1), symAll := tabMod 0 x.symAll i.val (· + 1) })) s
    let s := if f.fixed.isEmpty then s else tally (bump s (pg + 0x400)) 9 (6 + k) 1
    match f.good with
    | .fec => pump (nakNow (raiseErr (bump s (pg + 0x404)) pg 8) k) k
    | .crc => pump (nakNow (raiseErr (bump s (pg + 0x408)) pg 9) k) k
    | .good =>
      let next := ((physOf s k).rxSeq + 1) % 4096
      let s := if f.empty then (if f.seq.val = next then s else nakNow s k)
        else if f.seq.val = next then physMod s k (fun x => { x with rxSeq := next, owe := true, nak := false, drop := false })
        else nakNow s k
      let s := frameAck s k f.ack.val
      pump (if f.nak then frameReplay (bump s (pg + 0x410)) k else s) k

/-! ## Electrical idle (R340, R341) -/

/-- The transmit direction enters idle (R340). -/
def eiEntry (s : State) (k : Nat) : State :=
  let x := physOf s k
  if linkActive s k && flagAt s (linkPg (6 + k) + 0x100) 15 && x.unacked.isEmpty && x.stream.isEmpty && !x.owe && !x.nak && x.ex.isNone && !flagAt s (nlkStat k) 9 && decide (trickNo s + 128 < 4096) then
    bump (txIdle (sendRow s k 0x23 []) k true) (linkPg (6 + k) + 0x428)
  else s

/-- The transmitter leaves idle, if it is: quick burst, 64 IDLE rows, one AM row, then what is ready (R341). -/
def eiExit (s : State) (k : Nat) : State :=
  if linkActive s k && flagAt s (nlkStat k) 9 then
    let s := sendBurst (txIdle s k false) k (rowLanes s k)
    pump (sendAm ((List.range 64).foldl (fun s _ => sendRow s k 0x01 []) s) k) k
  else s

/-! ## HAND rows (R342, R343) -/

/-- A HAND row arrived (R343): the receive map; its arrival for the time unit. One good copy is enough (R322). -/
def handRowRx (s : State) (k : Nat) (h : HandRow) : State :=
  let s := ctrlBad s k h.bad.val
  if !linkActive s k || decide (0 < h.bad.val ∧ (rxLanes s k).length ≤ h.bad.val) then s
  else
    let s := mapStat (setMap (rxAwake s k) k 0x124 h.txMap.toNat) k
    physMod s k (fun x => { x with handNo := h.hand.val, launch := h.launch.val, arrived := h.arrival.toInt })

/-- The HAND row this side sends at trick 0, out of idle at the latest then (R341, R342). LAUNCH is the row's own delay, an open value. -/
def sendHandRow (s : State) (k : Nat) : State :=
  let (n, s) := freshFree (eiExit s k)
  let l := Config.freeValue n % 65536
  sendRow (physMod s k (fun x => { x with sent := (handNo s, l) })) k 0x21 (natLe 5 (handNo s) ++ natLe 2 l ++ natLe 4 (nlkTxMap s k) ++ natLe 4 (nlkStandby s k))

/-! ## Shed and restore (R344 to R347) -/

/-- Send a SHED row (R344): OP, LANE, SPARE, EXCH_ID, TARGET, REASON. -/
def sendShed (s : State) (k op lane spare ident target reason : Nat) : State :=
  sendRow s k 0x22 (natLe 1 op ++ natLe 1 lane ++ natLe 1 spare ++ natLe 1 ident ++ natLe 5 target ++ natLe 1 reason)

/-- The request of an exchange of this device (R344, R345). -/
def sendShedReq (s : State) (k : Nat) (e : ShedEx) : State :=
  sendShed s k (if e.restore then 2 else 1) e.lane e.spare e.ident e.target 0

/-- The standby spare of lane i's group (R345). -/
def spareFor (s : State) (k i : Nat) : Nat :=
  match spareOf (physOf s k).spare (i / 8) with
  | some x => if (nlkStandby s k).testBit x then x else 255
  | none => 255

/-- Active lanes left after shedding lane i with this spare. -/
def afterShed (s : State) (k spare : Nat) : Nat := mapCount (nlkTxMap s k) - 1 + b2n (spare != 255)

/-- End the software command of NLK.SHED_CMD (R351). -/
def shedCmdEnd (s : State) (k status : Nat) : State := fldPut (fldPut s (linkPg (6 + k) + 0x130) 31 28 status) (linkPg (6 + k) + 0x130) 8 8 0

/-- An exchange fails (R345, R346): SHED_FAIL, and the command's status if software asked. -/
def shedFail (s : State) (k status : Nat) : State :=
  match (physOf s k).ex with
  | some e =>
    let s := fldPut (physMod s k (fun x => { x with ex := none })) (nlkStat k) 7 7 0
    let s := setEvt s (linkPg (6 + k)) 11
    if e.soft then shedCmdEnd s k status else s
  | none => s

/-- Start an exchange: the request goes out in a SHED row, out of idle (R341, R345); after trick 3,839 it waits for the next hand. -/
def shedAsk (s : State) (k lane : Nat) (restore soft : Bool) : State :=
  let x := physOf s k
  if x.ex.isSome ∨ 3839 < trickNo s then
    physMod s k (fun x => { x with want := setIns (lane * 4 + b2n restore * 2 + b2n soft) x.want })
  else
    let spare := if restore then tabGet 255 x.shedBy lane else spareFor s k lane
    let e : ShedEx := { mine := true, restore := restore, lane := lane, spare := spare, ident := x.nextEx, hand := handNo s, target := (handNo s + 2) % 2 ^ 40, acked := false, ready := false, soft := soft }
    let s := fldPut (physMod (eiExit s k) k (fun x => { x with ex := some e, nextEx := (x.nextEx + 1) % 256 })) (nlkStat k) 7 7 1
    sendShedReq s k e

/-- Link lane i of an ACTIVE link is lost (R345, R349): a shed when AUTO_SHED asks for it and keeps MIN_LANES, else a retrain. -/
def laneLost (s : State) (k i : Nat) : State :=
  if !linkActive s k || !(nlkTxMap s k).testBit i then s
  else if afterShed s k (spareFor s k i) < minLanes s k then retrain s k
  else if flagAt s (linkPg (6 + k) + 0x100) 13 && !((physOf s k).ex.any (fun e => e.lane == i && !e.restore)) then shedAsk s k i false false
  else s

/-- Lane i has found block boundaries (R321): it is locked. -/
def blockLock (s : State) (k i : Nat) : State :=
  let p := 6 + k
  if i < nlkLanes s k then
    let was := flagAt s (laneStat p i) 31
    let s := laneMod s p i (fun x => { x with block := true, gained := if was then x.gained else s.time.toNat })
    setAdapt (fldPut s (laneStat p i) 31 31 1) p i (adaptOn s p i true)
  else s

/-- SLIP moves lane i's block candidate by one bit in SLIP_MODE, in DETECT and PROBE (R321). -/
def slipLane (s : State) (k i : Nat) : State :=
  let mode := if nlkState s k = 0 then flagAt s (linkPg (6 + k) + 0x11C) 0 else bitOf (physOf s k).slip 0
  if mode && decide (nlkState s k ≤ 1) && decide (i < nlkLanes s k) then
    laneMod s (6 + k) i (fun x => { x with slip := (x.slip + 1) % 258 }) else s

/-- SHED or RESTORE written to NLK.SHED_CMD (R351). -/
def shedCmd (s : State) (k lane : Nat) (restore : Bool) : State :=
  let o := linkPg (6 + k) + 0x130
  if flagAt s o 8 then fldPut s o 31 28 4
  else if !linkActive s k then shedCmdEnd s k 6
  else if (if restore then !((physOf s k).shedBy.any (fun q => q.1 == lane)) else !(nlkTxMap s k).testBit lane) then shedCmdEnd s k 6
  else if !restore && decide (afterShed s k (spareFor s k lane) < minLanes s k) then shedCmdEnd s k 1
  else shedAsk (fldPut s o 8 8 1) k lane restore true

/-- Answer a SHED row: ACK (3), or REFUSE (4) with a reason; the rest is the request's own (R344). -/
def shedReply (s : State) (k op : Nat) (r : ShedReq) (reason : Nat) : State := sendShed (eiExit s k) k op r.lane.val r.spare.val r.id.val r.target.val reason

/-- The quick burst of R341 on one link lane, then SPARE blocks (R347); a restore that names a FAILED lane offers it again (R133). -/
def laneBurst (s : State) (k lane : Nat) : State :=
  let w := wireLane s k lane
  sendBlock (sendBurst (laneOffered (laneIdle s (6 + k) w false) (6 + k) w) k [lane]) k [w] 0x02 []

/-- A SHED_REQ or RESTORE_REQ arrived (R345, R347). The partner is side A: its request proceeds before one of ours. -/
def shedReqRx (s : State) (k : Nat) (r : ShedReq) (restore : Bool) : State :=
  if !linkActive s k then s
  else
    let lane := r.lane.val
    let again := (physOf s k).ex.any (fun e => !e.mine && e.ident == r.id.val && e.lane == lane)
    if again then shedReply s k 3 r 0
    else
      let s := match (physOf s k).ex with
        | some e =>
          if e.mine && !e.acked && decide (e.hand = handNo s) then
            let s := fldPut (physMod s k (fun x => { x with ex := none, want := setIns (e.lane * 4 + b2n e.restore * 2) x.want })) (nlkStat k) 7 7 0
            if e.soft then shedCmdEnd s k 4 else s
          else s
        | none => s
      if (physOf s k).ex.isSome then shedReply s k 4 r 2
      else if (if restore then !((physOf s k).shedBy.any (fun q => q.1 == lane)) else !(nlkTxMap s k).testBit lane) then shedReply s k 4 r 3
      else if !restore && decide (afterShed s k r.spare.val < minLanes s k) then shedReply s k 4 r 1
      else
        let e : ShedEx := { mine := false, restore := restore, lane := lane, spare := r.spare.val, ident := r.id.val, hand := handNo s, target := r.target.val, acked := true, ready := false, soft := false }
        let s := shedReply (fldPut (physMod s k (fun x => { x with ex := some e })) (nlkStat k) 7 7 1) k 3 r 0
        if restore then laneBurst s k lane else s

/-- An ACK arrived (R346, R347). -/
def shedAckRx (s : State) (k ident : Nat) : State :=
  match (physOf s k).ex with
  | some e =>
    if e.mine && e.ident == ident && !e.acked then
      let s := physMod s k (fun x => { x with ex := some { e with acked := true } })
      if e.restore then laneBurst s k e.lane else s
    else s
  | none => s

/-- A REFUSE arrived (R345). -/
def shedRefuseRx (s : State) (k ident : Nat) : State :=
  if (physOf s k).ex.any (fun e => e.mine && e.ident == ident) then shedFail s k 2 else s

/-- A READY arrived (R347). -/
def shedReadyRx (s : State) (k ident : Nat) : State :=
  match (physOf s k).ex with
  | some e => if e.restore && e.ident == ident then physMod s k (fun x => { x with ex := some { e with ready := true } }) else s
  | none => s

/-- The extra AM row of a restore; READY when the lane is held locked (R347). -/
def restoreAm (s : State) (k : Nat) : State :=
  match (physOf s k).ex with
  | some e =>
    if e.restore && e.acked then
      let s := sendAm s k
      if laneIn s k e.lane then sendShed (eiExit s k) k 5 e.lane e.spare e.ident e.target 0 else s
    else s
  | none => s

/-- The unanswered request is sent again (R345). -/
def shedRepeat (s : State) (k : Nat) : State :=
  match (physOf s k).ex with
  | some e =>
    if e.mine && !e.acked && decide (e.hand = handNo s) then sendShedReq s k e else s
  | none => s

/-- The transmit map switches at this HAND row (R346, R347). -/
def shedApply (s : State) (k : Nat) (e : ShedEx) : State :=
  let t := nlkTxMap s k
  let b := nlkStandby s k
  let s := fldPut (physMod s k (fun x => { x with ex := none })) (nlkStat k) 7 7 0
  let s := if e.soft then shedCmdEnd s k 0 else s
  let s := if e.restore then
      let s := setMap (setMap s k 0x120 (mapOf (fun i => (t.testBit i || i == e.lane) && i != e.spare))) k 0x128 (mapOf (fun i => b.testBit i || i == e.spare))
      bump (physMod s k (fun x => { x with shedBy := tabDel x.shedBy e.lane })) (linkPg (6 + k) + 0x420)
    else
      let s := setMap (setMap s k 0x120 (mapOf (fun i => (t.testBit i || i == e.spare) && i != e.lane))) k 0x128 (mapOf (fun i => b.testBit i && i != e.spare))
      bump (laneExclude (physMod s k (fun x => { x with shedBy := tabIns x.shedBy e.lane e.spare })) (6 + k) (wireLane s k e.lane)) (linkPg (6 + k) + 0x41C)
  setEvt (mapStat s k) (linkPg (6 + k)) 10

/-- At trick 0 of a hand: an exchange of two hands ago takes effect or fails (R346, R347); the share follows (R317). -/
def shedHand (s : State) (k : Nat) : State :=
  let s := match (physOf s k).ex with
    | some e =>
      if (e.hand + 2) % 2 ^ 40 = handNo s then
        if !e.acked then shedFail s k 3
        else if e.restore && !e.ready then physMod (shedFail s k 5) k (fun x => { x with misses := x.misses + 1 })
        else shedApply s k e
      else s
    | none => s
  physMod s k (fun x => { x with share := if linkActive s k then linkShare s k else if flagAt s (nlkStat k) 10 then x.share else 10 * (linkGroups s k).length })

/-- What waited for a new hand is asked for now, one exchange at a time (R345). -/
def shedWants (s : State) (k : Nat) : State :=
  match (physOf s k).want with
  | [] => s
  | w :: _ =>
    if !linkActive s k || (physOf s k).ex.isSome then s
    else
      let s := physMod s k (fun x => { x with want := x.want.drop 1 })
      let lane := w / 4
      let restore := w / 2 % 2 == 1
      if (if restore then (physOf s k).shedBy.any (fun q => q.1 == lane) else (nlkTxMap s k).testBit lane) then shedAsk s k lane restore (w % 2 == 1)
      else if w % 2 == 1 then shedCmdEnd s k 6 else s

/-- End of a hand on link k: the round trip and the corrected symbols are published (R339, R335); a lane beyond SHED_THRESH is
to be shed (R345). -/
def nlkHandEnd (s : State) (k : Nat) : State :=
  let x := physOf s k
  let th := fldAt s (linkPg (6 + k) + 0x108) 15 0
  let bad := if th ≠ 0 ∧ linkActive s k ∧ flagAt s (linkPg (6 + k) + 0x100) 13 then
      (x.symNow.filter (fun q => decide (th < q.2) && (nlkTxMap s k).testBit q.1)).map (fun q => q.1 * 4) else []
  let s := if (regAt s (txnPg (6 + k) + 0x10C)) &&& 0xFFFF#32 ≠ 0 ∧ fldAt s (txnPg (6 + k) + 0x10C) 15 0 * 8000 / 8 < x.rttNow.2.1 ∧ linkActive s k then
      setEvt s (txnPg (6 + k)) 14 else s
  physMod s k (fun x => { x with rttLast := x.rttNow, rttHand := handNo s, rttNow := (0, 0, 0), symLast := x.symNow, symNow := [], want := bad.foldl (fun l w => setIns w l) x.want })

/-- AUTO_RESTORE: a restore of every shed lane is attempted (R347). -/
def autoRestore (s : State) (k : Nat) : State :=
  if linkActive s k && flagAt s (linkPg (6 + k) + 0x100) 14 && decide ((physOf s k).misses < 8) then
    let s := physMod s k (fun x => { x with want := x.shedBy.foldl (fun l q => setIns (q.1 * 4 + 2) l) x.want })
    shedWants s k
  else s

/-! ## Commands -/

/-- LANE_SIGNAL_LOSS (R132): SIG_DET clears, and the port's link layer learns of it. -/
def execLaneSignalLoss (p : Fin 10) (i : Fin 32) (s : State) : Answer :=
  finish (if laneUsed s p.val i.val && flagAt s (laneStat p.val i.val) 30 then
    let s := sigLost s p.val i.val
    if p.val < 6 then s else laneLost s (p.val - 6) (wireLane s (p.val - 6) i.val)
  else s)
/-- LANE_LOCK_LOSS (R132): LOCK clears, and the port's link layer learns of it. -/
def execLaneLockLoss (p : Fin 10) (i : Fin 32) (s : State) : Answer :=
  finish (if laneUsed s p.val i.val && flagAt s (laneStat p.val i.val) 31 then
    let s := lockLost s p.val i.val
    if p.val < 6 then s else laneLost s (p.val - 6) (wireLane s (p.val - 6) i.val)
  else s)
/-- DETECT_BURST (R324): 10 µs of TS blocks, none in Sleep and Deep sleep (R492). -/
def execDetectBurst (k : Fin 4) (s : State) : Answer :=
  finish (if nlkState s k.val == 0 && portPresent s (6 + k.val) && !portDown s (6 + k.val) && !lanesFolded s && !asleep s && !isOff s then
    sendTs s k.val 0 (regAt s (linkPg (6 + k.val) + 0x100)) (regAt s (linkPg (6 + k.val) + 0x104)) (List.range (nlkLanes s k.val)) else s)
/-- NICEN_SIGNAL_DETECT (R324): the lanes on which SIG_DET held for 1 µs. In Sleep it is a wake source, and a link goes on with DETECT only
after the exit (R411, R492). -/
def execNicenSignalDetect (k : Fin 4) (lanes : List (Fin 32)) (s : State) : Answer := 
  finish (let s := if lanes.isEmpty then s else wakeRx s (13 + k.val); if asleep s || isOff s then s else toProbe s k.val (lanes.map (fun i => i.val)))
/-- TS_BLOCK_RX (R326). -/
def execTsBlockRx (k : Fin 4) (i : Fin 32) (t : TsBlock) (s : State) : Answer := finish (tsRx s k.val i.val t)
/-- EQ_BLOCK_RX (R328). -/
def execEqBlockRx (k : Fin 4) (i : Fin 32) (b : EqBlock) (s : State) : Answer := finish (eqRx s k.val i.val b)
/-- AM_ROW_RX (R330). -/
def execAmRowRx (k : Fin 4) (a : AmRow) (s : State) : Answer := finish (amRx s k.val a)
/-- HAND_ROW_RX (R343). -/
def execHandRowRx (k : Fin 4) (h : HandRow) (s : State) : Answer := finish (handRowRx s k.val h)
/-- EI_ENTER_RX (R340). -/
def execEiEnterRx (k : Fin 4) (s : State) : Answer := finish (if linkActive s k.val then rxIdle s k.val true else s)
/-- DOWN_ROW_RX (R324): DETECT at once. -/
def execDownRowRx (k : Fin 4) (s : State) : Answer := finish (if nlkState s k.val = 0 then s else toDetect s k.val 0xA)
/-- NICEN_STATE_TIMEOUT (R324). -/
def execNicenStateTimeout (k : Fin 4) (s : State) : Answer := finish (stateTimeout s k.val)
/-- BLOCK_LOCK (R321). -/
def execBlockLock (k : Fin 4) (i : Fin 32) (s : State) : Answer :=
  finish (blockLock s k.val i.val)
/-- BLOCK_LOCK_LOSS (R321): reported as a loss of lock. -/
def execBlockLockLoss (k : Fin 4) (i : Fin 32) (s : State) : Answer :=
  finish (if (laneOf s (6 + k.val) i.val).block then
    laneLost (raiseErr (laneMod s (6 + k.val) i.val (fun x => { x with block := false })) (linkPg (6 + k.val)) 11) k.val (wireLane s k.val i.val) else s)
/-- SLIP (R321): one bit, in SLIP_MODE, in DETECT and PROBE. -/
def execSlip (k : Fin 4) (i : Fin 32) (s : State) : Answer := finish (slipLane s k.val i.val)
/-- FRAME_RX (R337). -/
def execFrameRx (k : Fin 4) (f : Frame) (s : State) : Answer := finish (frameRx s k.val f)
/-- REPLAY_TIMEOUT (R338). -/
def execReplayTimeout (k : Fin 4) (s : State) : Answer := finish (if linkSends s k.val then frameReplay s k.val else s)
/-- NICEN_RETRAIN (R348). -/
def execNicenRetrain (k : Fin 4) (s : State) : Answer := finish (retrain s k.val)
/-- RETRAIN_TIMEOUT (R348): a retrain failed; DETECT. -/
def execRetrainTimeout (k : Fin 4) (s : State) : Answer := finish (if flagAt s (nlkStat k.val) 10 then trainFail s k.val 9 else s)
/-- NICEN_EI_ENTRY (R340). -/
def execNicenEiEntry (k : Fin 4) (s : State) : Answer := finish (eiEntry s k.val)
/-- NICEN_EI_EXIT (R341). -/
def execNicenEiExit (k : Fin 4) (s : State) : Answer := finish (eiExit s k.val)
/-- SHED_COMMAND (R345, R351). -/
def execShedCommand (k : Fin 4) (i : Fin 32) (s : State) : Answer := finish (shedCmd s k.val i.val false)
/-- RESTORE_COMMAND (R347, R351). -/
def execRestoreCommand (k : Fin 4) (i : Fin 32) (s : State) : Answer := finish (shedCmd s k.val i.val true)
/-- SHED_REQUEST_REPEAT (R345). -/
def execShedRequestRepeat (k : Fin 4) (s : State) : Answer := finish (shedRepeat s k.val)
/-- SHED_REQ_RX (R345). -/
def execShedReqRx (k : Fin 4) (r : ShedReq) (s : State) : Answer := finish (shedReqRx s k.val r false)
/-- RESTORE_REQ_RX (R347). -/
def execRestoreReqRx (k : Fin 4) (r : ShedReq) (s : State) : Answer := finish (shedReqRx s k.val r true)
/-- SHED_ACK_RX (R346). -/
def execShedAckRx (k : Fin 4) (id : Fin 256) (s : State) : Answer := finish (shedAckRx s k.val id.val)
/-- SHED_REFUSE_RX (R345). -/
def execShedRefuseRx (k : Fin 4) (id : Fin 256) (s : State) : Answer := finish (shedRefuseRx s k.val id.val)
/-- SHED_READY_RX (R347). -/
def execShedReadyRx (k : Fin 4) (id : Fin 256) (s : State) : Answer := finish (shedReadyRx s k.val id.val)
/-- RESTORE_AM (R347). -/
def execRestoreAm (k : Fin 4) (s : State) : Answer := finish (restoreAm s k.val)
/-- AUTO_RESTORE (R347). -/
def execAutoRestore (k : Fin 4) (s : State) : Answer := finish (autoRestore s k.val)
/-- NLK_ALERT (R352): NLk_ALERT_N asserted. -/
def execNlkAlert (k : Fin 4) (s : State) : Answer := finish (setEvt (wake s (13 + k.val)) (linkPg (6 + k.val)) 13)

end Sys2Proof.Machine
end

