-- ==== Sys2Proof/Machine/NicenTxn.lean ====
section
/-! DEFINITION. Nicen transactions received from the fabric (R355 to R390): the checks of the stream, completions, HWR and HRD,
HINT, credits, BURN and FOLD, timeouts of the device's own requests. -/

namespace Sys2Proof.Machine

/-- Payload or requested length of a header (R356). -/
def txnLen (len last : Nat) : Nat := if len = 0 then 0 else 64 * (len - 1) + (if last = 0 then 64 else last)
/-- The payload bytes of a received transaction; the stream pads with 0 (R355). -/
def inData (x : TxnIn) : List Byte := (x.data ++ List.replicate 4096 0#8).take (txnLen x.len.val x.last.val)
/-- Payload bytes that follow the header: none for HRD (R356). -/
def inPayload (x : TxnIn) : Nat := if x.type.val = 0x0A then 0 else txnLen x.len.val x.last.val
/-- Cards and card credits of a received transaction (R243, R356). -/
def inCards (x : TxnIn) : Nat := cardsFor (inPayload x)
/-- Control types (R359): they consume no credits and no tags. -/
def isControl (t : Nat) : Bool := decide (0x10 ≤ t)

/-- A fault of a received transaction (R390): the error bit, the log, the count, the fold; CREDIT_INIT of an unusable INIT
does not fold. -/
def protocolErr (s : State) (k kind : Nat) (x : TxnIn) (fold : Bool) : State :=
  let pg := txnPg (6 + k)
  let s := logHold s (pg + 0x180) 22 (flagAt s (pg + 0x01C) 8) (setBits (setBits (setBits 0 31 28 kind) 27 23 x.type.val) 11 0 x.tag.val)
  let s := bump (setErrBit s pg 8) (pg + 0x41C)
  let s := if kind = 4 then setErrBit s pg 9 else s
  if fold then faultPort s (6 + k) 0x10 pg false else s

/-- Length that a type's payload must have, where it is fixed (R359, R376, R386). -/
def fixedLen (t : Nat) : Option Nat :=
  match t with
  | 0x0B | 0x12 | 0x13 => some 0
  | 0x10 => some 32
  | 0x11 => some 8
  | 0x14 => some 64
  | 0x15 => some 16
  | _ => none

/-- The class is one that R359 permits for the type. -/
def classOk (t c : Nat) : Bool :=
  match t with
  | 0x03 => c == 0 || c == 2
  | 0x09 | 0x0B => c == 0 || c == 3
  | 0x0A => c == 0 || c == 1
  | _ => true

/-- Credits the partner may still consume cover the transaction (R376, R378): headers and cards of its class. -/
def creditOk (s : State) (k : Nat) (x : TxnIn) : Bool :=
  let t := linkTxOf s k
  let fits (i n : Nat) : Bool := t.lim.getD i 0 == 0 || decide (t.held.getD i 0 + t.freed.getD i 0 + n ≤ t.lim.getD i 0)
  fits (2 * x.cls.val) 1 && fits (2 * x.cls.val + 1) (inCards x)

/-- The KIND of R390 of a received transaction; 0 for none. DEDUCED (log entry 93): a BURN with ACK 0 is a BAD_TYPE, a limit-carrying CREDIT outside
LINKUP a CREDIT_INIT that folds, as every malformed transaction does. -/
def txnFault (s : State) (k : Nat) (x : TxnIn) : Nat :=
  let t := x.type.val
  let n := txnLen x.len.val x.last.val
  if !([0x03, 0x09, 0x0A, 0x0B, 0x10, 0x11, 0x12, 0x13, 0x14, 0x15].contains t) || (t == 0x12 && !x.off.getLsbD 0) then 1
  else if !classOk t x.cls.val then 2
  else if 64 < x.len.val ∨ ((t = 0x09 ∨ t = 0x0A) ∧ x.len.val = 0) ∨ (fixedLen t).getD n ≠ n then 3
  else if t = 0x03 ∧ (x.status.val ≠ 0 ∨ x.posted) ∧ n ≠ 0 then 3
  else if t = 0x03 ∧ x.status.val = 0 ∧ !x.posted && ((linkTxOf s k).tags.any (fun e => e.1 == x.tag.val && !e.2.quar && e.2.len != n)) then 3
  else if !isControl t && !creditOk s k x then 4
  else if t = 0x0A ∧ (linkTxOf s k).hrds.any (fun h => h.tag == x.tag.val) then 5
  else if t = 0x10 ∧ x.off.getLsbD 0 ∧ nlkState s k ≠ 4 then 6
  else 0

/-- A received transaction that nothing holds: its credits are received and freed at once (R377, R378). -/
def passCredits (s : State) (k : Nat) (x : TxnIn) : State :=
  let c := x.cls.val
  linkTxMod s k (fun t => { t with
    rcvd := addAt (addAt t.rcvd (2 * c) 1) (2 * c + 1) (inCards x),
    freed := addAt (addAt t.freed (2 * c) 1) (2 * c + 1) (inCards x) })

/-- What a received transaction of the row's type does: nothing before LINKUP; a fault is discarded and folds; else `f`. A
transaction of another type is not this row's, unless its type is one the partner may not send. -/
def received (s : State) (k t : Nat) (x : TxnIn) (f : State → State) : State :=
  if nlkState s k < 4 ∨ 5 < nlkState s k then s
  else
    let bad := txnFault s k x
    if bad ≠ 0 ∧ (bad = 1 ∨ x.type.val = t) then protocolErr s k bad x true
    else if x.type.val ≠ t then s
    else f s

/-! ## Refusals and completions (R364, R367, R382, R383, R389) -/

/-- A refusal received from the partner (R389). -/
def refusalRx (s : State) (k : Nat) (x : TxnIn) : State :=
  let pg := txnPg (6 + k)
  let v := setBits (setBits (setBits (setBits 0 31 29 x.status.val) 28 25 (x.ep.toNat / 2 ^ 20)) 23 12 x.fn.val) 11 0 x.tag.val
  let s := bump (logHold s (pg + 0x184) 24 (decide (regAt s (pg + 0x184) ≠ 0)) v) (pg + 0x40C)
  if x.posted then setEvt s pg 10 else s

/-- The answer that a completion of the device's request gives its host: the data waits for the Dealer (R364). -/
def windowData (s : State) (k n tag : Nat) (e : TagEnt) (x : TxnIn) : State :=
  let data := inData x
  let trump := x.cls.val == 0
  enqueue (useReserve s e.fn e.cards) { xact0 n e.fn 2 e.cards (.tlp n { tlp0 .cpl e.fn 0 data.length with tag := tag, poison := x.poison, data := data }) with
    src := 6 + k, isCpl := trump, trump := trump, acct := .fn e.fn, kit := e.kit }

/-- An error completion of the device's request (R215, R364): a card of the reservation carries the answer to the host. -/
def requestRefused (s : State) (k : Nat) (e : TagEnt) (status : Nat) : State :=
  match e.why with
  | .window n _ tag =>
    let (a, s) := keepCard s e
    if status = 5 then aer (errCpl s n e.fn tag 1 (6 + k) a.1 a.2 none) e.fn .unsupported
    else aer (errCpl s n e.fn tag 4 (6 + k) a.1 a.2 none) e.fn .completerAbort
  | .dma j i o => runErr (endCards s e) j i o 0x07 0
  | _ => endCards s e

/-- CPL_RX (R364, R367, R383, R389). -/
def cplRx (s : State) (k : Nat) (x : TxnIn) : State :=
  let pg := txnPg (6 + k)
  let s := passCredits s k x
  if x.posted then refusalRx s k x
  else match (linkTxOf s k).tags.find? (fun t => t.1 == x.tag.val) with
  | none => bump s (pg + 0x408)
  | some (i, e) =>
    let s := if x.status.val = 0 then s else refusalRx s k x
    if e.quar ∨ folded s (6 + k) then
      let s := setEvt (bump s (pg + 0x404)) pg 9
      if e.quar then freeLinkTag s k i else s
    else
      let s := freeLinkTag s k i
      if x.status.val ≠ 0 then requestRefused s k e x.status.val
      else match e.why with
      | .window n _ tag => windowData s k n tag e x
      | .dma j d o => copyIn s j d o e (inData x) x.poison
      | _ => endCards s e

/-! ## HWR, HRD, HINT (R368 to R370) -/

/-- A received HWR, HRD or HINT is refused (R367, R368): its card, in the link's landing reserve, carries the answer. -/
def answerRefused (s : State) (k : Nat) (x : TxnIn) (status reason : Nat) : State :=
  linkAnswer (land s (6 + k) 1 x.cls.val (inCards x)) k (6 + k) x.fn.val (.landing (6 + k)) 0 (some (x.cls.val, inCards x))
    (answerCpl (if x.cls.val = 0 then 0 else 2) x.seat.val x.fn.val x.tag.val status reason (x.type.val != 0x0A) false [])

/-- What the seat's state refuses (R368): a folded seat or link, a seat whose link is down. -/
def seatRefuses (s : State) (k n : Nat) : Option (Nat × Nat) :=
  if folded s n || portFolded s (6 + k) then some (6, 8) else if !dlUp s n then some (7, 0xA) else none

/-- What waits for the return check of a received HWR or HRD: it holds its cards and credits in the link's reserve, toward the seat that its
header names, if there is one. -/
def fabricXact (k : Nat) (x : TxnIn) (cls cards : Nat) : Xact :=
  { xact0 (if x.seat.val < 6 then x.seat.val else 15) x.fn.val cls cards (.nicen k (txn0 x.type.val x.cls.val x.seat.val x.fn.val x.tag.val)) with
    src := 6 + k, acct := .landing (6 + k), land := some (x.cls.val, cards), look := some (.fabric k x) }

/-- HWR_RX (R216, R226, R368): it lands in the link's reserve and waits for its return check. -/
def hwrRx (s : State) (k : Nat) (x : TxnIn) : State :=
  if folded s (6 + k) then answerRefused s k x 6 8
  else
    let n := inCards x
    awaitLook (land s (6 + k) n x.cls.val n) { fabricXact k x 3 n with posted := true, after := .hwr k x.cls.val x.tag.val }

/-- HRD_RX (R216, R226, R368): its tag is outstanding; it lands in the link's reserve and waits for its return check. -/
def hrdRx (s : State) (k : Nat) (x : TxnIn) : State :=
  if folded s (6 + k) then answerRefused s k x 6 8
  else
    let n := txnLen x.len.val x.last.val
    let h : Hrd := { tag := x.tag.val, fn := x.fn.val, cls := x.cls.val, left := 1, data := [], cards := 0, kit := 0, poison := false }
    awaitLook (linkTxMod (land s (6 + k) 1 x.cls.val 1) k (fun t => { t with hrds := t.hrds ++ [h] }))
      { fabricXact k x 1 1 with ask := some (TagEnt.ask x.fn.val (.hrd k x.tag.val x.cls.val) 0 n (cardsFor n) x.cls.val) }

/-- The return check refuses a landed HWR or HRD (R367, R368): one of its cards carries the answer. -/
def fabricRefused (s : State) (w : Xact) (k : Nat) (x : TxnIn) (status reason : Nat) : State :=
  let s := if x.type.val = 0x0A then linkTxMod s k (fun t => { t with hrds := t.hrds.filter (fun h => h.tag != x.tag.val) }) else s
  linkAnswer (toFlight s w.acct (w.cards - 1) 0) k (6 + k) x.fn.val w.acct 0 w.land
    (answerCpl (if x.cls.val = 0 then 0 else 2) x.seat.val x.fn.val x.tag.val status reason (x.type.val != 0x0A) false [])

/-- A landed HWR that passed becomes host writes to `a` (R226, R368). A trump HWR of more than one card fails the first check of admission
(R251); of one that becomes two host writes the first is presented as trump. -/
def hwrGo (s : State) (w : Xact) (k : Nat) (x : TxnIn) (a : Nat) : State :=
  let one := x.cls.val == 0 && inCards x == 1
  let s := if x.cls.val = 0 && !one then countDemote s (6 + k) 0x400 else s
  sendWrites s x.fn.val a (inData x) x.poison x.attr.val { w with trump := one, chk := true, look := none, need := w.cards }
    (fun p => if p.1 + p.2 = (inData x).length then w.after else .none)

/-- A landed HRD that passed becomes host reads from `a`, which wait for tags and for cards (R226, R368, R369). -/
def hrdGo (s : State) (w : Xact) (k : Nat) (x : TxnIn) (a : Nat) : State :=
  let len := txnLen x.len.val x.last.val
  let f := x.fn.val
  let ps := pieces a len (mrrs s f) (len + 1) 0
  let attr := hostAttr s f x.attr.val
  let s := linkTxMod s k (fun t => { t with hrds := t.hrds.map (fun h => if h.tag == x.tag.val then { h with left := ps.length } else h) })
  ps.foldl (fun s p =>
    enqueue s { w with
      what := .tlp x.seat.val { tlp0 .memRd f (a + p.1) p.2 with attr := attr },
      chk := true, look := none, trump := x.cls.val == 0 && p.1 == 0,
      acct := if p.1 = 0 then w.acct else .owed, land := if p.1 = 0 then w.land else none,
      ask := some (TagEnt.ask f (.hrd k x.tag.val x.cls.val) p.1 p.2 (cardsFor p.2) x.cls.val) }) s

/-- The return check of a landed HWR or HRD (R226, R227, R368, R389): it goes on, or is refused. -/
def fabricLook (s : State) (w : Xact) (k : Nat) (x : TxnIn) : State :=
  let f := x.fn.val
  let write := x.type.val == 0x09
  match retCheck s f x.seat.val (x.ep.toNat / 16) x.off.toNat (txnLen x.len.val x.last.val) write with
  | (.inr (st, reason, idx), s) => fabricRefused (setErrBit (refuse s 2 reason f idx) (fnPg f) 9) w k x st reason
  | (.inl a, s) =>
    match seatRefuses s k x.seat.val with
    | some (st, reason) => fabricRefused s w k x st reason
    | none => if write then hwrGo s w k x a else hrdGo s w k x a

/-- A HINT that passes every check goes before the Dealer, in its class; dealt, its vector is generated (R250, R251, R370). With the seat's
link down nothing is dealt there, and the vector is generated at once (DEDUCED, log entry 93). -/
def hintPass (s : State) (k n f v : Nat) (x : TxnIn) : State :=
  if dlUp s n then
    enqueue (land s (6 + k) 1 x.cls.val 1) { xact0 n f 3 1 (.nicen k (txn0 0x0B x.cls.val n f x.tag.val)) with
      src := 6 + k, trump := x.cls.val == 0, posted := true, acct := .landing (6 + k), land := some (x.cls.val, 1), after := .hint v k x.cls.val x.tag.val }
  else fire (passCredits s k x) f v

/-- HINT_RX (R370): the checks in their order, then the vector is generated. -/
def hintRx (s : State) (k : Nat) (x : TxnIn) : State :=
  let f := x.fn.val
  let v := x.off.toNat % 2048
  if folded s (6 + k) then answerRefused s k x 6 8
  else if !(fnOf s f).master then answerRefused s k x 2 7
  else if fnSeat s f ≠ some x.seat.val then answerRefused s k x 1 6
  else if vectorCount s f ≤ v then answerRefused s k x 1 1
  else if folded s x.seat.val then answerRefused s k x 6 8
  else hintPass s k x.seat.val f v x

/-! ## Control transactions (R375, R376, R386 to R388) -/

/-- The eight 32-bit counts of a CREDIT (R376). -/
def creditCounts (x : TxnIn) : List Nat := (List.range 8).map (fun i => leNat (((inData x).drop (4 * i)).take 4))

/-- A partner's limits are unusable (R375). -/
def initUnusable (l : List Nat) : Bool :=
  let tooFew (c : Nat) : Bool := decide (1 ≤ l.getD (2 * c + 1) 0 ∧ l.getD (2 * c + 1) 0 ≤ 63)
  tooFew 3 || tooFew 2 || (List.range 4).any (fun c => decide (l.getD (2 * c) 0 ≠ 0) && l.getD (2 * c + 1) 0 == 0)

/-- CREDIT_RX (R375, R376): limits at LINKUP, credits returned later. -/
def creditRx (s : State) (k : Nat) (x : TxnIn) : State :=
  let l := creditCounts x
  if x.off.getLsbD 0 then
    if initUnusable l then protocolErr s k 6 x false
    else linkUpDone (linkTxMod s k (fun t => { t with pLim := l, initRx := true })) k
  else linkTxMod s k (fun t => { t with pRet := l })

/-- The tags that exchange `i` burned return to free (R387, R388). -/
def freeBurned (s : State) (k i : Nat) : State :=
  ((linkTxOf s k).tags.filter (fun t => t.2.burn == i + 1)).foldl (fun s t => freeLinkTag s k t.1) s

/-- Exchange `i` is over. -/
def exchEnd (s : State) (k i : Nat) : State := linkTxMod s k (fun t => { t with exchs := t.exchs.filter (fun e => e.ident != i) })

/-- BURN_RX (R387): the acknowledgement of an open exchange with the same BURN_ID, SEAT and FUNCTION. -/
def burnRx (s : State) (k : Nat) (x : TxnIn) : State :=
  if (linkTxOf s k).exchs.any (fun e => !e.isFold && e.ident == x.tag.val && e.fn == x.fn.val && e.seat == x.seat.val) then
    exchEnd (freeBurned s k x.tag.val) k x.tag.val
  else s

/-- FOLD_RX (R388): an acknowledgement, a fold of this link, or an event; an acknowledgement that no exchange waits for is an event too
(DEDUCED, log entry 93). -/
def foldRx (s : State) (k : Nat) (x : TxnIn) : State :=
  if x.off.getLsbD 0 then
    if (linkTxOf s k).exchs.any (fun e => e.isFold && e.ident == x.tag.val) then exchEnd (freeBurned s k x.tag.val) k x.tag.val
    else setEvt s (txnPg (6 + k)) 13
  else if x.off.toNat / 2 % 4 = 2 ∧ x.off.toNat / 8 % 2 = 1 then faultPort s (6 + k) 0x11 (txnPg (6 + k)) false
  else setEvt s (txnPg (6 + k)) 13

/-- SHED_REPORT_RX (R386, R395): the 32 counts are kept. -/
def shedReportRx (s : State) (k : Nat) (x : TxnIn) : State :=
  linkTxMod s k (fun t => { t with shedRpt := (List.range 32).map (fun i => leNat (((inData x).drop (2 * i)).take 2)) })

/-! ## Timeouts (R382, R387) -/

/-- NICEN_RD_TIMEOUT (R382): reported once; the reservation is released and the tag quarantined. -/
def rdTimeout (s : State) (k i : Nat) : State :=
  match (linkTxOf s k).tags.find? (fun t => t.1 == i) with
  | some (_, e) =>
    if e.quar then s
    else endLinkReq (tally (setEvt (bump (quarLinkTag s k i) (txnPg (6 + k) + 0x400)) (txnPg (6 + k)) 8) 8 (6 + k) 1) e .timeout
  | none => s

/-- BURN_TIMEOUT (R387, R388): the exchange ends; its tags stay in quarantine. -/
def burnTimeout (s : State) (k i : Nat) : State :=
  if (linkTxOf s k).exchs.any (fun e => e.ident == i) then
    let s := linkTxMod s k (fun t => { t with tags := t.tags.map (fun e => if e.2.burn = i + 1 then (e.1, { e.2 with burn := 0 }) else e) })
    setEvt (bump (exchEnd s k i) (txnPg (6 + k) + 0x418)) (txnPg (6 + k)) 12
  else s

/-! ## Commands -/

/-- CPL_RX (R364). -/
def execCplRx (k : Fin 4) (x : TxnIn) (s : State) : Answer := finish (received s k.val 0x03 x (fun s => cplRx s k.val x))
/-- HWR_RX (R368). -/
def execHwrRx (k : Fin 4) (x : TxnIn) (s : State) : Answer := finish (received s k.val 0x09 x (fun s => hwrRx s k.val x))
/-- HRD_RX (R368). -/
def execHrdRx (k : Fin 4) (x : TxnIn) (s : State) : Answer := finish (received s k.val 0x0A x (fun s => hrdRx s k.val x))
/-- HINT_RX (R370). -/
def execHintRx (k : Fin 4) (x : TxnIn) (s : State) : Answer := finish (received s k.val 0x0B x (fun s => hintRx s k.val x))
/-- CREDIT_RX (R375, R376). -/
def execCreditRx (k : Fin 4) (x : TxnIn) (s : State) : Answer := finish (received s k.val 0x10 x (fun s => creditRx s k.val x))
/-- BURN_RX (R387). -/
def execBurnRx (k : Fin 4) (x : TxnIn) (s : State) : Answer := finish (received s k.val 0x12 x (fun s => burnRx s k.val x))
/-- FOLD_RX (R388). -/
def execFoldRx (k : Fin 4) (x : TxnIn) (s : State) : Answer := finish (received s k.val 0x13 x (fun s => foldRx s k.val x))
/-- SHED_REPORT_RX (R386). -/
def execShedReportRx (k : Fin 4) (x : TxnIn) (s : State) : Answer := finish (received s k.val 0x14 x (fun s => shedReportRx s k.val x))
/-- NICEN_RD_TIMEOUT (R382): the request that holds tag i. -/
def execNicenRdTimeout (k : Fin 4) (i : Fin 4096) (s : State) : Answer := finish (rdTimeout s k.val i.val)
/-- NICEN_TAG_RELEASE (R382). -/
def execNicenTagRelease (k : Fin 4) (i : Fin 4096) (s : State) : Answer :=
  finish (if (linkTxOf s k.val).tags.any (fun t => t.1 == i.val && t.2.quar) then freeLinkTag s k.val i.val else s)
/-- BURN_TIMEOUT (R387): the exchange with this identifier. -/
def execBurnTimeout (k : Fin 4) (id : Fin 4096) (s : State) : Answer := finish (burnTimeout s k.val id.val)

end Sys2Proof.Machine
end

