-- ==== Sys2Proof/Machine/Dealer.lean ====
section
/-! DEFINITION. The Dealer (R243 to R255, R263 to R265, R271 to R277): admission to accounts and tags, trump admission, the
rotation and the deficit-weighted round robin, sending a transaction whose last card is dealt, seals, ECC, lockstep, overruns,
the audit. -/

namespace Sys2Proof.Machine

def dealerMod (s : State) (g : Dealer → Dealer) : State := { s with dealer := g s.dealer }

/-- Slots per trick and direction that port p holds as configured (R248). -/
def configShare (s : State) (p : Nat) : Nat := 10 * (portGroups s p).length
/-- Slots in force: a link whose lanes are shed holds a scaled share, which a retrain leaves as it is (R248, R317). -/
def currentShare (s : State) (p : Nat) : Nat :=
  if 6 ≤ p ∧ (linkActive s (p - 6) ∨ flagAt s (nlkStat (p - 6)) 10) then (physOf s (p - 6)).share else configShare s p

/-! ## Flow-control credits at egress (R251, R254, R376) -/

/-- Credits a link's partner has left: index i of its books; none for infinite (R376). -/
def linkCreditLeft (t : LinkTx) (i : Nat) : Option Nat :=
  if t.pLim.getD i 0 = 0 then none else some ((t.pLim.getD i 0 + t.pRet.getD i 0 + 2 ^ 32 - t.pUsed.getD i 0 % 2 ^ 32) % 2 ^ 32)

/-- The egress port holds the credits that all of x needs, sent in class c (R251, R254). -/
def hasCredit (s : State) (x : Xact) (c : Nat) : Bool :=
  let enough (have_ : Option Nat) (n : Nat) : Bool := match have_ with
    | none => true
    | some m => decide (n ≤ m)
  if x.isHint then true
  else match x.what with
  | .tlp n t =>
    let g := (seatOf s n).grant
    let (k, d) := tlpCredit t
    enough (g.getD (2 * k) none) 1 && enough (g.getD (2 * k + 1) none) d
  | .nicen k y =>
    let t := linkTxOf s k
    enough (linkCreditLeft t (2 * c)) 1 && enough (linkCreditLeft t (2 * c + 1)) (txnCards y)
  | _ => true

/-- The egress port can send: its data link layer is up and not in Recovery, its link is ACTIVE. -/
def portSends (s : State) (p : Nat) : Bool :=
  if p < 6 then dlUp s p && ltssm s p != 4 else linkActive s (p - 6)

/-! ## Accounts and tags (R153, R159, R259, R361, R380) -/

/-- Replace a waiting transaction by its stamp. -/
def xactPut (s : State) (x : Xact) : State := { s with xacts := s.xacts.map (fun y => if y.stamp = x.stamp then x else y) }

/-- x waits for cards of its function (R259): it is not with the Dealer. -/
def cardsWait (x : Xact) : Bool := x.wait == 0 && !x.bare && x.acct != .fn x.fn

/-- Something of x's function that came before it by the same port, and that it may not pass, still waits for its cards (R258, R259, R371,
R372; log entry 97). -/
def inTurn (s : State) (x : Xact) : Bool :=
  decide (10 ≤ x.src) || !s.xacts.any (fun y =>
    decide (y.stamp < x.stamp) && y.src == x.src && y.fn == x.fn && (y.cls == 3 || y.cls == x.cls || y.trump) && cardsWait y)

/-- The cards of x come to their function's account, or x waits (R258, R259); true when it waits. The pieces of one transaction
are charged together (log entry 148). An answer that its request's own card
carries stays in the landing reserve. -/
def admitCards (s : State) (x : Xact) : Xact × Bool × State :=
  let k := kittyPart s x.fn x.cards
  match x.acct with
  | .fn _ => (x, false, s)
  | .landing p =>
    if x.bare then (x, false, s)
    else if inTurn s x && canHold s x.fn (max x.need x.cards) then
      ({ x with acct := .fn x.fn, kit := k, land := none }, false, freeCredits (recharge s p x.fn x.cards) p x.land)
    else (x, true, s)
  | .owed => if inTurn s x && canCharge s x.fn x.cards then ({ x with acct := .fn x.fn, kit := k }, false, chargeFn s x.fn x.cards) else (x, true, s)

/-- The wire tag goes into the packet. -/
def putTag (e : Emit) (w : Nat) : Emit :=
  match e with
  | .tlp n t => .tlp n { t with tag := w }
  | .nicen k y => .nicen k { y with tag := w }
  | e => e

/-- A request takes its tag and reserves its completion's cards, or waits (R153, R159, R361, R380); true when it waits for cards. -/
def admitAsk (s : State) (x : Xact) : Xact × Bool × State :=
  match x.ask with
  | none => (x, false, s)
  | some e =>
    let free := if x.dst < 6 then canTag s x.dst e.fn else canLinkTag s (x.dst - 6) e.fn
    if !free then ({ x with tagW := max 1 x.tagW }, false, if x.dst < 6 then seatMod s x.dst (fun y => { y with tagHand := true }) else s)
    else if !canCharge s e.fn e.cards then ({ x with tagW := 0 }, true, s)
    else
      let e := { e with kit := kittyPart s e.fn e.cards }
      let s := reserveCards s e.fn e.cards
      let (w, s) := if x.dst < 6 then takeTag s x.dst e else takeLinkTag s (x.dst - 6) e
      ({ x with ask := none, tagW := 0, what := putTag x.what w }, false, s)

/-- Everything that can be admitted is, in arrival order (R24, R259). The functions that wait for cards are those of which something waits
now. -/
def admitAll (s : State) : State :=
  let tick (x : Xact) : Xact := { x with wait := x.wait - 1 }
  let s := { s with xacts := s.xacts.map tick }
  let (w, s) := s.xacts.foldl (fun (a : List Nat × State) x =>
    if 0 < x.wait then a
    else
      let (x, b, s) := admitCards a.2 x
      let (x, c, s) := if x.acct = .fn x.fn then admitAsk s x else (x, false, s)
      (if b || c then setIns x.fn a.1 else a.1, xactPut s x)) ([], s)
  talonMod s (fun t => { t with waitFn := w.foldl (fun m f => tabIns m f (tabGet 0 t.waitFn f)) [] })

/-- A transaction whose cards can be dealt: translated, charged, its tag taken (R254). -/
def ready (x : Xact) : Bool :=
  x.wait == 0 && x.ask.isNone && (match x.acct with
    | .fn f => f == x.fn
    | .landing _ => x.bare
    | .owed => false)

/-- Nothing of x moves while a port it uses is folded, or the table, or its egress port cannot send (R265, R418). -/
def heldBack (s : State) (x : Xact) : Bool :=
  tableFolded s || (List.range 10).any (fun p => ofPort s p x && portFolded s p) || !portSends s x.dst

/-- x is a request that carries its function's Requester ID (R199): a read, a write or a message toward the host, or what the function's
DMA asks of the fabric. Completions, answers and what a host's window request became are none. -/
def isMasters (x : Xact) : Bool :=
  !x.bare && (match x.what with
    | .tlp _ t => t.kind != .cpl && !x.isHint
    | .nicen _ y => x.src == 15 && y.type != 0x03
    | _ => false)

/-- The dirty cache lacks room for the bits of x's host write (R235, R239). A bitmap line is not logged (R234). -/
def logStalls (s : State) (x : Xact) : Bool :=
  match x.after, x.what with
  | .bitmap _ _ _, _ => false
  | _, .tlp _ t => t.kind == .memWr && !lineRoom s t.fn t.addr t.len
  | _, _ => false

/-- The relaxed-ordering bit and the ID-based-ordering bit of a transaction. -/
def orderBits (e : Emit) : Bool × Bool :=
  match e with
  | .tlp _ t => (t.attr.testBit 0, t.attr.testBit 1)
  | .nicen _ y => (y.attr.testBit 0, y.attr.testBit 1)
  | _ => (false, false)

/-- The transaction is the write of a bitmap line. -/
def Xact.isFlush (x : Xact) : Bool :=
  match x.after with
  | .bitmap _ _ _ => true
  | _ => false


/-- x may not pass y, which arrived before it for the same port (R247, R371, R372): in one class from one source nothing passes; past Bulk of
another class or source a transaction goes only as the table of R371 allows; trump is ordered with trump of its source alone, and holds back
the rest of its source. What still waits for cards holds back nothing that has its cards, and what waits for room in the dirty cache neither
other functions nor the flush that makes the room (log entry 97). -/
def blocks (s : State) (x y : Xact) : Bool :=
  decide (y.stamp < x.stamp) && y.dst == x.dst && !cardsWait y &&
    (let same := y.fn == x.fn
     let first := y.cls == 0 || y.trump
     if x.cls = 0 then same && first
     else if first then same
     else if logStalls s y && (!same || x.isFlush) then false
     else if same && y.cls == x.cls then true
     else y.cls == 3 && !((x.cls != 1 && (orderBits x.what).1) || (!same && (orderBits x.what).2 && (orderBits y.what).2)))

/-- The seat's replay buffer has room for x (R156). -/
def replayRoom (s : State) (x : Xact) : Bool :=
  match x.what with
  | .tlp n t => seatRoom s n t || x.isHint
  | _ => true

/-- x has an eligible card in its class (R254). A card of a benched function is one of a started descriptor, which finishes (R303). -/
def eligible (s : State) (x : Xact) : Bool :=
  ready x && !x.trump && !heldBack s x && (!isMasters x || (fnOf s x.fn).master || decide (0 < x.dealt)) && !logStalls s x && replayRoom s x &&
    !s.xacts.any (blocks s x) && (decide (0 < x.dealt) || hasCredit s x x.cls)

/-! ## Sending (R247, R293, R400) -/

/-- The transaction has left, with `at_` the link and the unit of its stream at which it ends: what asked for it goes on (R235, R293, R294,
R399). -/
def afterSent (s : State) (a : After) (at_ : Option (Nat × Nat)) : State :=
  match a with
  | .part k i o b p =>
    let s := match at_ with
      | some (l, u) => runMod s k i (fun r => { r with frames := r.frames ++ [(l, u, o, b)] })
      | none => runMoved s k i b
    if p then runPoisoned s k i else s
  | .msi e => poolMod s e (fun p => { p with pend := false })
  | .record k _ => recordSent s k
  | .bitmap _ _ ser => lineSent s ser
  | _ => s

/-- What leaves for a host packet: the words of an MSI-X message and a record's bytes are read as they are dealt (R294, R400). -/
def tlpNow (s : State) (a : After) (t : Tlp) : Tlp :=
  match a with
  | .msi e => msiTlp s e
  | .record k _ => recordTlp s k t
  | _ => t

/-- A host write is dirty-logged as it leaves (R234). -/
def logSent (s : State) (a : After) (t : Tlp) : State :=
  match a with
  | .bitmap _ _ _ => s
  | .msi _ => logWrite s t.fn t.addr t.len true
  | _ => if t.kind = .memWr then logWrite s t.fn t.addr t.len false else s

/-- Every card of x has reached the egress tile: it leaves the port (R247). A HINT fires its vector (R370). -/
def sendOut (s : State) (x : Xact) : State :=
  let s := { s with xacts := s.xacts.filter (fun y => y.stamp != x.stamp) }
  match x.after, x.what with
  | .hint v _ _ _, _ => fire s x.fn v
  | a, .tlp n t =>
    let t := tlpNow s a t
    afterSent (logSent (sendTlp s n t) a t) a none
  | a, .nicen k y =>
    let (tag, s) := if x.posted then postedTag s k else (y.tag, s)
    let s := nicenPut s k { y with cls := x.cls, tag := tag }
    let u := (physOf s k).placed
    afterSent s a (some (k, u))
  | _, e => emit s e

/-! ## One trick's deal -/

/-- A trick's deal under way: egress and ingress slots left per port, ports whose trump slots are claimed, egress ports at which
the next card fails its seal, holds an uncorrectable word. -/
structure Deal where
  s      : State
  eg     : List Nat
  ing    : List Nat
  usedIn : List Nat
  usedEg : List Nat
  seals  : List Nat
  eccs   : List Nat

/-- A card of x fails its seal at the egress tile (R245). -/
def sealFail (s : State) (x : Xact) (inj : Bool) : State :=
  let v := setBits (setBits (setBits 0 31 28 x.dst) 27 24 x.src) 11 0 x.fn
  let s := logHold s (dlrPg + 0x1C4) 23 (flagAt s (dlrPg + 0x01C) 8) v
  faultPort (bump (setErrBit s dlrPg 8) (dlrPg + 0x410)) x.dst 0x02 dlrPg inj

/-- A card of x holds an uncorrectable word (R246). -/
def eccFail (s : State) (x : Xact) (inj : Bool) : State :=
  faultPort (bump (setErrBit s talPg 9) (talPg + 0x404)) x.dst 0x07 talPg inj

/-- Payload bytes that a transaction carries. -/
def payload (e : Emit) : List Byte :=
  match e with
  | .tlp _ t => t.data
  | .nicen _ y => y.data
  | _ => []

/-- The control word of card `c` of x, which no software sees (R243): DESIGN CHOICE (log entry 98), its place in the transaction, class,
function, ports. -/
def controlWord (x : Xact) (c : Nat) : List Byte := natLe 4 c ++ natLe 4 x.cards ++ natLe 1 x.cls ++ natLe 2 x.fn ++ natLe 1 x.src ++ natLe 1 x.dst

/-- The seal of card `c` of x for egress port `p`: CRC-16 over the 64 payload bytes, the control word and the port's number (R244). -/
def cardSeal (x : Xact) (c p : Nat) : Nat :=
  crc16 (((payload x.what).drop (64 * c) ++ List.replicate 64 0#8).take 64 ++ controlWord x c ++ natLe 1 p)

/-- The seal with which card `c` of x reaches its egress tile: `hit` is what the way there changed in it. -/
def carriedSeal (x : Xact) (c hit : Nat) : Nat := Nat.xor (cardSeal x c x.dst) hit

/-- The seal injection of DLR.INJECT has been applied: KIND reads 0 (R271). -/
def sealApplied (s : State) (p : Nat) : State :=
  if s.dealer.sealArm.contains p then fldPut (dealerMod s (fun z => { z with sealArm := setDel p z.sealArm })) (dlrPg + 0x1E0) 2 0 0 else s

/-- A card of x leaves its account for the pipeline (R260): an ante card while x holds one, then a kitty card. -/
def cardLeaves (s : State) (x : Xact) : Xact × State :=
  let k := if x.cards - x.dealt ≤ x.kit then 1 else 0
  ({ x with dealt := x.dealt + 1, kit := x.kit - k }, toFlight s x.acct 1 k)

/-- The last card of x leaves: the credits of a request whose card stayed in the landing reserve are free (R154, R377). -/
def landingDone (s : State) (x : Xact) : State :=
  match x.acct with
  | .landing p => freeCredits s p x.land
  | _ => s

/-- One card of x is dealt (R248, R260): slots, credits, account, count; the egress tile checks its seal (R244); the last one sends it. -/
def dealCard (d : Deal) (x : Xact) : Deal :=
  let i := ingressOf d.s x
  let d := { d with eg := subAt d.eg x.dst 1, ing := if i < 10 then subAt d.ing i 1 else d.ing }
  let s := if x.dealt = 0 then creditMove d.s x true else d.s
  let hit := b2n (d.seals.contains x.dst)
  if carriedSeal x x.dealt hit ≠ cardSeal x x.dealt x.dst then
    let inj := s.dealer.sealArm.contains x.dst
    { d with seals := setDel x.dst d.seals, s := sealFail (sealApplied s x.dst) x inj }
  else if x.bad ∨ d.eccs.contains x.dst then { d with eccs := setDel x.dst d.eccs, s := eccFail s x x.bad }
  else
    let (y, s) := cardLeaves s x
    let s := dealerMod s (fun z => { z with dealtCnt := tabMod 0 z.dealtCnt (x.dst * 4 + x.cls) (· + 1) })
    let s := tally (tally s (if 6 ≤ x.dst then 1 else 2) x.fn 1) 7 x.dst 1
    let s := if x.dst < 6 then seatMod s x.dst (fun z => { z with demand := z.demand + 1 }) else s
    { d with s := if y.dealt < y.cards then xactPut s y else sendOut (landingDone (xactPut s y) y) y }

/-- Slots are left for a card of x. -/
def slotsFor (d : Deal) (x : Xact) : Bool :=
  let i := ingressOf d.s x
  decide (0 < d.eg.getD x.dst 0) && (decide (10 ≤ i) || decide (0 < d.ing.getD i 0))

/-! ## Trump admission (R251, R252) -/

/-- Trump transactions of several cards already admitted go on in the reserved slots (R252). -/
def trumpGoing (d : Deal) : Deal :=
  (d.s.xacts.filter (fun x => x.cls == 0 && !x.trump && decide (0 < x.dealt))).foldl (fun d x =>
    let i := ingressOf d.s x
    if heldBack d.s x || logStalls d.s x || !slotsFor d x || d.usedIn.contains i || d.usedEg.contains x.dst then d
    else dealCard { d with usedIn := i :: d.usedIn, usedEg := x.dst :: d.usedEg } x) d

/-- The counter of the first check that x fails; none when it is admitted (R251, R252). -/
def trumpFails (d : Deal) (x : Xact) : Option Nat :=
  let i := ingressOf d.s x
  if !x.isCpl && x.cards != 1 then some 0x400
  else if d.usedIn.contains i then some 0x404
  else if !x.isCpl && decide (min 4096 (fldAt d.s (dlrPg + 0x100 + 4 * i) 12 0) ≤ tabGet 0 d.s.dealer.admitted i) then some 0x408
  else if !hasCredit d.s x 0 then some 0x41C
  else if d.usedEg.contains x.dst then some 0x40C
  else none

/-- The HRD whose host read x is will be answered in Completion class (R251). -/
def demoteHrd (s : State) (x : Xact) : State :=
  match x.what with
  | .tlp n t =>
    match (seatTag s n t.fn t.tag).map (fun (e : Nat × TagEnt) => e.2.why) with
    | some (Why.hrd k tag _) => if t.kind = .memRd then linkTxMod s k (fun y => { y with hrds := y.hrds.map (fun h => if h.tag == tag then { h with cls := 1 } else h) }) else s
    | _ => s
  | _ => s

/-- x is demoted to its ordinary class (R251). -/
def demote (d : Deal) (x : Xact) (cnt : Nat) : Deal :=
  { d with s := demoteHrd (countDemote (xactPut d.s { x with trump := false }) (ingressOf d.s x) cnt) x }

/-- One presented trump transaction is judged; admitted, its first card is dealt in the reserved slots (R251, R253). -/
def judgeTrump (d : Deal) (x : Xact) : Deal :=
  if !x.trump || !ready x || heldBack d.s x || (isMasters x && !(fnOf d.s x.fn).master) || logStalls d.s x || !replayRoom d.s x || (d.s.xacts.any (fun y => y.trump && y.fn == x.fn && y.dst == x.dst && decide (y.stamp < x.stamp))) || !slotsFor d x then d
  else match trumpFails d x with
  | some c => demote d x c
  | none =>
    let i := ingressOf d.s x
    let x := { x with trump := false, cls := 0 }
    let s := if x.isCpl then d.s else dealerMod d.s (fun z => { z with admitted := tabMod 0 z.admitted i (· + 1) })
    dealCard { d with s := xactPut s x, usedIn := i :: d.usedIn, usedEg := x.dst :: d.usedEg } x

/-- Presented trump transactions in the order of the rotating ingress priority, then of arrival (R251, check 5). -/
def trumpOrder (s : State) : List Xact :=
  let start := trickNo s % 10
  let ports := (List.range 10).map (fun i => (start + i) % 10) ++ [15]
  ports.flatMap (fun p => s.xacts.filter (fun x => x.trump && (if ingressOf s x < 10 then ingressOf s x else 15) == p))

/-! ## The other classes (R254, R255) -/

/-- Key of (egress, class, function) in the deficit table. -/
def dkey (e c f : Nat) : Nat := (e * 4 + c) * 4096 + f
/-- Weight of f in the round robin: the lowest of the deck's and the Croupier's (R254, R473, R474). -/
def weight (s : State) (f : Nat) : Nat :=
  let d := if (fnSeat s f).isSome then fldAt s (fnPg f + 0x134) 7 0 else 1
  (overrides s 1 f).foldl (fun m o => min m (clampTo o.2 (max 1 o.1) d)) d

/-- Transactions of class c that can be dealt a card at egress e now, one per function: the first in arrival order. -/
def dealable (d : Deal) (e c : Nat) : List Xact :=
  d.s.xacts.filter (fun x => x.dst == e && x.cls == c && eligible d.s x && slotsFor d x)

/-- The first of them in ring order from `ptr` that meets `p`. -/
def ringFind (l : List Xact) (ptr : Nat) (p : Xact → Bool) : Option Xact :=
  let better (b : Option Xact) (x : Xact) : Option Xact := match b with
    | none => some x
    | some y => if (x.fn + 4096 - ptr) % 4096 < (y.fn + 4096 - ptr) % 4096 then some x else some y
  (l.filter p).foldl better none

/-- pick(e, c) of R254. -/
def pick (d : Deal) (e c : Nat) : Option (Xact × Deal) :=
  let l := dealable d e c
  let ptr := tabGet 0 d.s.dealer.ptr (e * 4 + c)
  let go (s : State) : Option (Xact × Deal) :=
    match ringFind l ptr (fun x => decide (0 < tabGet 0 s.dealer.deficit (dkey e c x.fn))) with
    | some x => some (x, { d with s := dealerMod s (fun z => { z with
        ptr := tabPut 0 z.ptr (e * 4 + c) x.fn, deficit := tabMod 0 z.deficit (dkey e c x.fn) (· - 1) }) })
    | none => none
  if l.isEmpty then none
  else match go d.s with
  | some r => some r
  | none =>
    go (l.foldl (fun s x => dealerMod s (fun z => { z with deficit := tabMod 0 z.deficit (dkey e c x.fn) (fun v => satNat 65535 (v + weight s x.fn)) })) d.s)

/-- Deal one card at egress e, the rotation's next class being index `r` of Request, Completion, Bulk: which index was dealt. -/
def dealOne (d : Deal) (e r : Nat) : Option (Nat × Deal) :=
  let try_ (i : Nat) : Option (Nat × Deal) := (pick d e (i % 3 + 1)).map (fun p => (i % 3, dealCard p.2 p.1))
  match try_ r with
  | some x => some x
  | none => match try_ (r + 1) with
    | some x => some x
    | none => try_ (r + 2)

/-- Deal egress e's slots until none is left or nothing can be dealt. -/
def dealPort : Nat → Deal → Nat → Nat → Deal
  | 0, d, _, _ => d
  | n + 1, d, e, r =>
    match dealOne d e r with
    | some (i, d) => dealPort n d e ((i + 1) % 3)
    | none => d

/-- end_of_trick of R254: a function with no eligible card banks no deficit. -/
def endDeficits (s : State) : State :=
  dealerMod s (fun z => { z with deficit := z.deficit.filter (fun p =>
    s.xacts.any (fun x => dkey x.dst x.cls x.fn == p.1 && eligible s x)) })

/-- Both copies disagree (R263, R415): nothing commits and the table folds. -/
def lockstepFail (s : State) (inj : Bool) : State :=
  faultTable (bump (setErrBit s dlrPg 9) (dlrPg + 0x418)) 0x01 dlrPg inj

/-- A part overran (R264): tile and part; the log names tile 0xF for the Dealer (R271). -/
def overrun (s : State) (tile part : Nat) (inj : Bool) : State :=
  let v := setBits (setBits (setBits 0 31 28 (if part = 2 then 15 else tile)) 27 26 part) 11 0 (trickNo s)
  let s := logHold s (dlrPg + 0x1C8) 25 (flagAt s (dlrPg + 0x01C) 10) v
  let s := bump (setErrBit s dlrPg 10) (dlrPg + 0x414)
  if part = 0 then
    match groupPort s tile with
    | some p => faultPort s p 0x03 dlrPg inj
    | none => faultLog s 0x03 15 dlrPg inj
  else faultTable s 0x03 dlrPg inj

/-- The overruns of a trick: tile, part, injected (R36, R264, R271). -/
def overrunsOf (s : State) (ev : TrickEvents) : List (Nat × Nat × Bool) :=
  s.dealer.overArm.map (fun t => (t, 0, true)) ++ ev.overruns.map (fun o => (o.1.val, o.2.val, false))

/-- The overruns of a trick are reported, whatever the Dealer did in it. -/
def raiseOverruns (s : State) (l : List (Nat × Nat × Bool)) : State :=
  let s := if s.dealer.overArm.isEmpty then s else fldPut (dealerMod s (fun z => { z with overArm := [] })) (dlrPg + 0x1E0) 2 0 0
  l.foldl (fun s o => overrun s o.1 o.2.1 o.2.2) s

/-- The DMA engine cell that x comes from (R308). -/
def cellOf (s : State) (x : Xact) : Option Nat :=
  match x.run, x.after with
  | some (k, _, _), _ => some (queueOf s k).cell
  | none, .record k _ => some (queueOf s k).cell
  | none, _ => none

/-- x is work of a part that overran (R264): a tile's port slice, or its shared part, which holds DMA engine cells 4t to 4t + 3. -/
def overrunStops (s : State) (l : List (Nat × Nat × Bool)) (x : Xact) : Bool :=
  l.any (fun o => if o.2.1 = 0 then (groupPort s o.1).any (fun p => ofPort s p x) else o.2.1 == 1 && (cellOf s x).any (fun c => c / 4 == o.1))

/-- Deal the new trick's slots (R37, steps 4 and 5). On a mismatch of the two copies, and when the Dealer itself overran, nothing of the
trick's deal commits (R263, R264). -/
def dealSlots (s : State) (ev : TrickEvents) (l : List (Nat × Nat × Bool)) : State :=
  let rot := s.dealer.rot
  let s := dealerMod s (fun z => { z with rot := (List.range 10).foldl (fun t e => tabMod 0 t e (fun r => (r + 1) % 3)) rot })
  let s := bumpBy s (talPg + 0x400) ev.eccCorr
  let s := if ev.eccCorr = 0 then s else setEvt s talPg 9
  if ev.lockstep ∨ s.dealer.lockArm then
    let inj := s.dealer.lockArm
    lockstepFail (if inj then fldPut (dealerMod s (fun z => { z with lockArm := false })) (dlrPg + 0x1E0) 2 0 0 else s) inj
  else if tableFolded s || l.any (fun o => o.2.1 == 2) then s
  else
    let slow := s.xacts.filter (overrunStops s l)
    let sh := (List.range 10).map (fun p => if l.any (fun o => o.2.1 == 0 && groupPort s o.1 == some p) then 0 else currentShare s p)
    let s := { s with xacts := s.xacts.filter (fun x => !overrunStops s l x) }
    let d : Deal := { s := s, eg := sh, ing := sh, usedIn := [], usedEg := [], seals := ev.seals.map (fun p => p.val) ++ s.dealer.sealArm, eccs := ev.eccs.map (fun p => p.val) }
    let d := trumpGoing d
    let d := (trumpOrder d.s).foldl judgeTrump d
    let d := (List.range 10).foldl (fun d e => dealPort (d.eg.getD e 0) d e (tabGet 0 rot e)) d
    let s := { d.s with xacts := (d.s.xacts ++ slow).mergeSort (fun a b => decide (a.stamp ≤ b.stamp)) }
    endDeficits s

/-- The Dealer's trick: the deal, then the overruns of the trick (R36, R264). -/
def dealTrick (s : State) (ev : TrickEvents) : State := raiseOverruns (dealSlots s ev (overrunsOf s ev)) (overrunsOf s ev)

/-! ## Credits returned (R155, R377) -/

/-- The CREDIT that link k sends (R376): cumulative counts of the credits freed. -/
def sendCredit (s : State) (k : Nat) : State :=
  let t := linkTxOf s k
  let l := (List.range 8).map (fun i => (t.rcvd.getD i 0 - t.held.getD i 0) % 2 ^ 32)
  nicenSend (linkTxMod s k (fun t => { t with freed := zeros8, creditSent := true })) k { txn0 0x10 0 0 0 0 with len := 1, last := 32, data := l.flatMap (natLe 4) }

/-- The UpdateFC of a class of seat n (0 posted, 1 non-posted) leaves, if credits of it were freed: header credits × 65,536 + data credits
returned (R155). -/
def updateFc (s : State) (n c : Nat) : State :=
  let p := (seatOf s n).credP
  let h := p.getD (2 * c) 0
  let d := p.getD (2 * c + 1) 0
  if h = 0 ∧ d = 0 then s
  else emit (seatMod s n (fun x => { x with credP := listSet (listSet x.credP (2 * c) 0) (2 * c + 1) 0 })) (.seatSig n (if c = 0 then "UPDATE_FC_P" else "UPDATE_FC_NP") (h * 65536 + d))

/-- Step 2 of a trick boundary: credits freed in the ended trick are returned on every port (R37, R155, R377). A seat in a low-power
state or Recovery waits for L0. -/
def returnCredits (s : State) : State :=
  let s := (List.range 6).foldl (fun s n => if dlUp s n && ltssm s n == 3 then updateFc (updateFc s n 0) n 1 else s) s
  (List.range 4).foldl (fun s k => if linkActive s k && (linkTxOf s k).freed.any (fun c => c != 0) then sendCredit s k else s) s

/-! ## The audit (R262, R274) -/

/-- Cards in accounts. -/
def heldTotal (s : State) : Nat := (s.talon.held.map (fun p => p.2)).sum + (s.talon.landing.map (fun p => p.2)).sum

/-- Account numbers of `Talon.allow`: a function's kitty share, a port's landing reserve (4096 + p), all kitty shares (5000). -/
def overKitty (s : State) (f : Nat) : Bool := decide (max (kittyCap s f) (tabGet 0 s.talon.allow f) < kittyHeld s f)

/-- Ante cards of f above its ante: a lowered ante's cards count as kitty cards from that instant (`reAnte`), so there are none (R196, R262). -/
def overAnte (s : State) (f : Nat) : Bool := decide (ante s f < anteHeld s f)

/-- The first check of R262 that fails: 1 identity, 2 ante over its limit, 3 kitty over its limit, 4 landing reserve over its limit; 0 for
none. -/
def auditCheck (s : State) : Nat :=
  if s.talon.free + b2n s.talon.phantom + heldTotal s + s.talon.flight ≠ talonCards then 1
  else if s.talon.held.any (fun p => overAnte s p.1) then 2
  else if s.talon.held.any (fun p => overKitty s p.1) || decide (max (sharedKitty s) (tabGet 0 s.talon.allow 5000) < kittyTotal s) then 3
  else if s.talon.landing.any (fun p => decide (max (reserve s p.1) (tabGet 0 s.talon.allow (4096 + p.1)) < p.2)) then 4
  else 0

/-- A holding that has fallen to its limit is judged by the limit again (R262). -/
def allowTidy (s : State) : State :=
  talonMod s (fun t => { t with allow := t.allow.filter (fun p =>
    if p.1 < 4096 then decide (kittyCap s p.1 < kittyHeld s p.1)
    else if p.1 = 5000 then decide (sharedKitty s < kittyTotal s)
    else decide (reserve s (p.1 - 4096) < landed s (p.1 - 4096))) })

/-- Holdings above their limits right after a cut, or after an action that lowered an ante, are the limits they are judged against (R262,
R473). -/
def allowCut (s : State) : State :=
  let s := reAnte s
  let fs := (s.talon.held.filter (fun p => decide (kittyCap s p.1 < kittyHeld s p.1))).map (fun p => (p.1, kittyHeld s p.1))
  let ps := (s.talon.landing.filter (fun p => decide (reserve s p.1 < p.2))).map (fun p => (4096 + p.1, p.2))
  let k := if sharedKitty s < kittyTotal s then [(5000, kittyTotal s)] else []
  talonMod s (fun t => { t with allow := (fs ++ ps ++ k).foldl (fun a p => tabIns a p.1 p.2) t.allow })

/-- The Talon audit of the hand that ends (R262). -/
def audit (s : State) : State :=
  let c := auditCheck s
  let inj := s.talon.phantom
  let s := allowTidy (if inj then fldPut (talonMod s (fun t => { t with phantom := false })) (talPg + 0x1E0) 2 0 0 else s)
  let s := fldPut s (talPg + 0x180) 11 0 (handNo s)
  if c = 0 then s
  else faultTable (setErrBit (fldPut (fldPut s (talPg + 0x180) 30 28 c) (talPg + 0x180) 31 31 1) talPg 8) 0x06 talPg inj

/-! ## Injection (R271, R274, R437) -/

/-- An injector write: it acts only while SAF.INJ_CTRL.EN is 1, else it is dropped and logged LOCKED (R437). -/
def injector (s : State) (r : Req) (pg off : Nat) (f : State → State) : State :=
  if flagAt s (safPg + 0x174) 0 then f s else logAccess s pg r 7 true off

/-- DLR.INJECT (R271): TARGET is stored; KIND reads back until it is applied. A KIND replaces one that waits (log entry 99). One with a
TARGET that names no port or no tile has no effect. -/
def injectDlr (s : State) (r : Req) (kind target : Nat) : State :=
  injector s r dlrPg 0x1E0 (fun s =>
    let s := fldPut s (dlrPg + 0x1E0) 31 28 target
    let arm (seal_ : List Nat) (lock : Bool) (tiles : List Nat) : State :=
      fldPut (dealerMod s (fun z => { z with sealArm := seal_, lockArm := lock, overArm := tiles })) (dlrPg + 0x1E0) 2 0 kind
    match kind with
    | 1 => if target < 10 then arm [target] false [] else s
    | 2 => arm [] true []
    | 3 => if target < 12 then arm [] false [target] else s
    | _ => s)

/-- TAL.INJECT (R274): the phantom of BOOK is counted from the next closing of the books; KIND reads back until it is applied. A KIND
replaces one that waits (log entry 99). -/
def injectTal (s : State) (r : Req) (kind : Nat) : State :=
  injector s r talPg 0x1E0 (fun s =>
    let arm (book ecc : Bool) : State := fldPut (talonMod s (fun t => { t with bookArm := book, eccArm := ecc })) (talPg + 0x1E0) 2 0 kind
    match kind with
    | 1 => arm true false
    | 2 => arm false true
    | _ => s)

/-! ## Commands -/

/-- INJECT_SEAL (R271): the next card to port p. -/
def execInjectSeal (r : Req) (p : Fin 16) (s : State) : Answer := finish (injectDlr s r 1 p.val)
/-- INJECT_LOCKSTEP (R271). -/
def execInjectLockstep (r : Req) (s : State) : Answer := finish (injectDlr s r 2 (fldAt s (dlrPg + 0x1E0) 31 28))
/-- INJECT_OVERRUN (R271): the port slice of tile t at the next trick. -/
def execInjectOverrun (r : Req) (t : Fin 16) (s : State) : Answer := finish (injectDlr s r 3 t.val)
/-- INJECT_BOOK (R274). -/
def execInjectBook (r : Req) (s : State) : Answer := finish (injectTal s r 1)
/-- INJECT_TALON_ECC (R274). -/
def execInjectTalonEcc (r : Req) (s : State) : Answer := finish (injectTal s r 2)

end Sys2Proof.Machine
end

