-- ==== Sys2Proof/Machine/Entries.lean ====
section
/-! DEFINITION. Commands of translation and of the event router: entry accesses (R218 to R224), ECC (R228, R241, R413), the dirty log
(R235 to R239), claims (R409, R410). -/

namespace Sys2Proof.Machine

/-- Entries of a table: 1,048,576 return entries, 5,242,880 XT entries (R44, R211). -/
def entCount (ret : Bool) : Nat := if ret then 1048576 else 5242880
/-- Table offset of an entry's word: half 0 low, 1 high (R218). -/
def entOffset (ret : Bool) (i half : Nat) : Nat := (if ret then 0x2000000 else 0x4000000) + 8 * i + 4 * half

/-- The requester's answer to an access without data (R60): a host's write is posted, MGMT, House firmware and the safety
monitor are told. -/
def answerWrite (s : State) (r : Req) (err : Bool) : State :=
  if r.code.val < 6 then s else emit s (.answer r.code.val err false [])

/-- The requester's answer to a read (R60, R77): a host's completion carries `tag`. -/
def answerRead (s : State) (r : Req) (tag : Nat) (err poison : Bool) (data : List Byte) : State :=
  if r.code.val < 6 then hostCpl s r.code.val r.fn.val tag (if err then 4 else 0) (poison && !err) (if err then [] else data)
  else emit s (.answer r.code.val err poison (if err then [] else data))

/-- Direct access is open to the button PF, MGMT and House firmware (R218). -/
def mayEntry (s : State) (r : Req) (ret : Bool) (i : Nat) : Bool := trusted s r && decide (i < entCount ret)

/-- A direct 32-bit write of an entry's word (R218, R219). -/
def entAccessWrite (s : State) (r : Req) (ret : Bool) (i half : Nat) (v : Word) : State :=
  if mayEntry s r ret i then answerWrite (entWrite s r (entKey (b2n ret) i) half v) r false
  else answerWrite (logAccess s xltPg r 1 true (entOffset ret i half % 4096)) r true

/-- A direct 32-bit read of an entry's word (R218, R219). -/
def entAccessRead (s : State) (r : Req) (tag : Nat) (ret : Bool) (i half : Nat) : State :=
  if mayEntry s r ret i then
    let (w, s) := entRead s r (entKey (b2n ret) i) half
    answerRead s r tag false false (wordBytes w)
  else answerRead (logAccess s xltPg r 1 false (entOffset ret i half % 4096)) r tag true false []

/-- XLT.ECC_INJECT (R241): what the register names last is armed for the next boundary; MODE 0b00, and 0b11 like it, arms nothing. -/
def injectXlt (s : State) (r : Req) (v : Word) : State :=
  injector s r xltPg 0x110 (fun s =>
    let s := rwPut s (xltPg + 0x110) (v &&& 0xE07FFFFF#32)
    let m := bits v 30 29
    xltMod s (fun x => { x with inject := if m = 1 ∨ m = 2 then [(entKey (bits v 31 31) (bits v 22 0), if m = 1 then 1 else 3)] else [] }))

/-- MSX.ECC_INJECT (R413): applied at the next boundary. -/
def injectMsx (s : State) (r : Req) (v : Word) : State :=
  injector s r msxPg 0x110 (fun s => rwPut s (msxPg + 0x110) (v &&& 0x6003FFFF#32))

/-- The dirty lines of function f's bitmap line l. -/
def dirtyLines (s : State) (f l : Nat) : List DirtyLine := s.xlt.lines.filter (fun d => d.fn == f && d.line == l)

/-- A line is evicted early and flushed at once (R235, R239). -/
def evictLine (s : State) (f l : Nat) : State := evictFirst s (fun d => d.fn == f && d.line == l)

/-- A flush read has completed: the merged line is written, or its bits are lost (R235, R237). -/
def flushMerge (s : State) (f l : Nat) : State :=
  match (dirtyLines s f l).find? (fun d => d.reading && d.data.isSome) with
  | some d =>
    match d.data with
    | some (some b) => if canFlush s f then mergeLine s d b else loseLine s d
    | _ => loseLine s d
  | none => s

/-- A flush has not merged by its deadline (R237). -/
def flushLost (s : State) (f l : Nat) : State :=
  match (dirtyLines s f l).find? (fun d => d.queued || d.reading) with
  | some d => loseLine s d
  | none => s

/-- The requester that a claim target's reader is (R409): 0 to 5 PF t by its host, 6 House firmware, 7 MGMT. -/
def claimReq (t : Nat) : Req := { code := Fin.ofNat 9 (if t = 6 then 7 else if t = 7 then 6 else t), fn := Fin.ofNat 4096 (if t < 6 then t else 0) }

/-- A claim not completed within 64 rubbers is released (R410). -/
def claimExpire (s : State) (i : Nat) : State :=
  if s.intr.claims.any (fun c => c.1 == i) then
    setEvt (bump (intrMod s (fun x => { x with claims := tabDel x.claims i })) (evrPg + 0x400)) evrPg 8
  else s

/-! ## Commands -/

/-- ENTRY_LOW_WRITE (R219): the low word of XT or return entry i. -/
def execEntryLowWrite (r : Req) (ret : Bool) (i : Fin 8388608) (v : Word) (s : State) : Answer := finish (entAccessWrite s r ret i.val 0 v)
/-- ENTRY_HIGH_WRITE (R219). -/
def execEntryHighWrite (r : Req) (ret : Bool) (i : Fin 8388608) (v : Word) (s : State) : Answer := finish (entAccessWrite s r ret i.val 1 v)
/-- ENTRY_LOW_READ (R219). -/
def execEntryLowRead (r : Req) (tag : Fin 16384) (ret : Bool) (i : Fin 8388608) (s : State) : Answer := finish (entAccessRead s r tag.val ret i.val 0)
/-- ENTRY_HIGH_READ (R219). -/
def execEntryHighRead (r : Req) (tag : Fin 16384) (ret : Bool) (i : Fin 8388608) (s : State) : Answer := finish (entAccessRead s r tag.val ret i.val 1)
/-- IND_READ (R223): OP READ written to FN.ENT_IND_CMD of PF n. -/
def execIndRead (n : Fin 6) (s : State) : Answer := finish (indCmd s n.val 1)
/-- IND_WRITE (R223). -/
def execIndWrite (n : Fin 6) (s : State) : Answer := finish (indCmd s n.val 2)
/-- IND_SYNC (R224). -/
def execIndSync (n : Fin 6) (s : State) : Answer := finish (indCmd s n.val 3)
/-- SYNC_DONE (R224). -/
def execSyncDone (n : Fin 6) (s : State) : Answer := finish (syncDone s n.val)
/-- ECC_WRITEBACK (R228): the corrected value of an entry is written back. -/
def execEccWriteback (ret : Bool) (i : Fin 8388608) (s : State) : Answer :=
  let k := entKey (b2n ret) i.val
  finish (if entErrs s k = 1 then xltMod s (fun x => { x with ecc := tabDel x.ecc k }) else s)
/-- XLT_ECC_INJECT (R241). -/
def execXltEccInject (r : Req) (v : Word) (s : State) : Answer := finish (injectXlt s r v)
/-- LOG_EVICTION (R235). -/
def execLogEviction (f : Fin 4096) (l : Fin 67108864) (s : State) : Answer := finish (evictLine s f.val l.val)
/-- LOG_FLUSH_MERGE (R235). -/
def execLogFlushMerge (f : Fin 4096) (l : Fin 67108864) (s : State) : Answer := finish (flushMerge s f.val l.val)
/-- LOG_FLUSH_LOST (R237). -/
def execLogFlushLost (f : Fin 4096) (l : Fin 67108864) (s : State) : Answer := finish (flushLost s f.val l.val)
/-- EVENT_CLAIM (R409): target t's own reader reads its claim register. -/
def execEventClaim (t : Fin 8) (tag : Fin 16384) (s : State) : Answer :=
  let (w, s) := claim s t.val
  finish (answerRead s (claimReq t.val) tag.val false false (wordBytes w))
/-- CLAIM_COMPLETE (R409): target t writes the ID it claimed. -/
def execClaimComplete (t : Fin 8) (i : Fin 4096) (s : State) : Answer := finish (claimDone s t.val i.val)
/-- CLAIM_EXPIRE (R410): the claim of source i. -/
def execClaimExpire (i : Fin 4096) (s : State) : Answer := finish (claimExpire s i.val)
/-- MSX_ECC_INJECT (R413). -/
def execMsxEccInject (r : Req) (v : Word) (s : State) : Answer := finish (injectMsx s r v)

end Sys2Proof.Machine
end

