-- ==== Sys2Proof/Machine/Time.lean ====
section
/-! DEFINITION. Precision time (R441 to R459): the discipline state, measurements, jumps, HAND and TIME transactions, PTM, PPS_OUT. -/

namespace Sys2Proof.Machine

def timMod (s : State) (g : TimeUnit → TimeUnit) : State := { s with tim := g s.tim }
/-- SOURCE in the live configuration (R457). -/
def timSource (s : State) : Nat := fldAt s (timPg + 0x100) 3 0
/-- The nearest whole number of hands to a time in 15.625 ps units; half a hand rounds to no jump. -/
def nearestHands (x : Int) : Int :=
  let h : Int := 8 * handUnits
  if x.natAbs ≤ 4 * handUnits then 0 else (x + 4 * handUnits).fdiv h

/-- The source is lost (R445, R446): HOLDOVER once it has been usable. `fault`: by outliers. -/
def sourceLost (s : State) (fault : Bool) : State :=
  let s := fldPut s (timPg + 0x140) 24 24 0
  if timSource s = 0 ∨ !s.tim.used ∨ timState s = 3 then s
  else
    let s := setEvt (setTimState (timMod s (fun x => { x with good := 0, outs := 0, steady := 0, fault := fault })) 3) timPg 9
    if fault then setEvt s timPg 11 else s

/-- A measurement while the unit acquires (R445): a jump when it is off by more than half a hand; LOCKED after 64 good ones. -/
def acquire (s : State) (th : Int) : State :=
  let g := if th.natAbs ≤ 32 then s.tim.good + 1 else 0
  let s := timMod s (fun x => { x with good := g, jump := if nearestHands th = 0 then x.jump else - nearestHands th })
  if 64 ≤ g then setEvt (setTimState (timMod s (fun x => { x with outs := 0 })) 2) timPg 8 else setTimState s 1

/-- The source is usable: SOURCE_OK reads 1 (R458). -/
def sourceOk (s : State) : State := fldPut s (timPg + 0x140) 24 24 1

/-- A measurement θ of the source, in 15.625 ps units (R445, R446). A source lost by outliers is usable again after 64 consistent ones. -/
def measure (s : State) (th : Int) : State :=
  let near := decide ((th - s.tim.last).natAbs ≤ 6400)
  let st := timState s
  let s := timMod s (fun x => { x with used := true, last := th })
  if st = 2 then
    if th.natAbs ≤ 6400 then timMod (sourceOk s) (fun x => { x with outs := 0 })
    else if 3 ≤ s.tim.outs then sourceLost s true
    else timMod s (fun x => { x with outs := x.outs + 1 })
  else if st = 3 ∧ s.tim.fault then
    let n := if near then s.tim.steady + 1 else 1
    if 64 ≤ n then acquire (timMod (sourceOk s) (fun x => { x with steady := 0, fault := false, good := 0 })) th
    else timMod s (fun x => { x with steady := n })
  else acquire (if st = 1 then sourceOk s else timMod (sourceOk s) (fun x => { x with good := 0 })) th

/-- Half of an integer; of an odd one, either neighbour (an open rounding). -/
def halve (s : State) (x : Int) : Int × State :=
  let (n, s) := freshFree s
  ((x + (if x % 2 = 0 then 0 else ((Config.freeValue n % 2 : Nat) : Int))).fdiv 2, s)

/-! ## PPS_IN and SET (R444, R458) -/

/-- Units of 15.625 ps in a second. -/
def secondUnits : Int := 64000000000

/-- SET_VALUE (R458). -/
def setValue (s : State) : Nat := (regAt s (timPg + 0x134)).toNat * 2 ^ 32 + (regAt s (timPg + 0x130)).toNat
/-- A SET is pending (R458). -/
def setPending (s : State) : Bool := flagAt s (timPg + 0x138) 8

/-- A PPS_IN rising edge `ofs` units of 15.625 ps into the trick (R444, R458). -/
def ppsEdge (s : State) (ofs : Nat) : State :=
  if timSource s ≠ 1 then s
  else
    let t : Int := 8 * s.time.toNat + ofs
    if setPending s then
      let th := t - 8 * (setValue s : Int)
      let s := fldPut s (timPg + 0x138) 8 8 0
      measure (timMod s (fun x => { x with jump := - nearestHands th })) th
    else measure s (t - (t + secondUnits / 2).fdiv secondUnits * secondUnits)

/-- SET written to TIM.TIME_CMD (R458). -/
def timeSet (s : State) : State :=
  if 1 < timSource s ∨ setPending s then fldPut s (timPg + 0x138) 31 28 1
  else fldPut (fldPut s (timPg + 0x138) 31 28 0) (timPg + 0x138) 8 8 1

/-- Table time jumps by j hands (R443, R453, R456). -/
def jumpBy (s : State) (j : Int) : State :=
  if j = 0 then s
  else
    let t := ((s.time.toNat : Int) + j * handUnits) % ((2 ^ 64 : Nat) : Int)
    let clip : Int := if 2147483647 < j then 2147483647 else if j < -2147483648 then -2147483648 else j
    let s := { s with time := BitVec.ofNat 64 t.toNat }
    let s := setEvt (regPut s (timPg + 0x144) (BitVec.ofInt 32 clip)) timPg 10
    let s := timMod s (fun x => { x with jump := 0, good := 0 })
    (List.range 6).foldl ptmStale s

/-- No deck is ARMED (R456). -/
def noneArmed (s : State) : Bool := !(List.range 7).any (fun d => deckState s d == 4)

/-- The jump due at a hand boundary is taken while no deck is ARMED (R443, R456); a SET in free run acts (R458). -/
def timeJump (s : State) : State :=
  if !noneArmed s then s
  else if setPending s && timSource s == 0 then
    jumpBy (fldPut s (timPg + 0x138) 8 8 0) (nearestHands (8 * (setValue s : Int) - 8 * s.time.toNat))
  else jumpBy s s.tim.jump

/-- A cut that changes SOURCE (R456): FREE_RUN until the first usable measurement. -/
def sourceCut (s : State) : State :=
  if fldAt s (timPg + 0x140) 28 25 = timSource s then s
  else regPut (timMod s (fun x => { TimeUnit.idle with links := x.links, pps := x.pps })) (timPg + 0x140) (setBits 0 28 25 (timSource s))

/-! ## HAND and TIME transactions (R448, R449) -/

/-- θ and D of link k for hand H, once both reports are there (R449); the source's θ is a measurement (R450). -/
def handMeasure (s : State) (k h : Nat) (arrA : Int) : State :=
  let x := physOf s k
  if !linkActive s k ∨ x.handNo ≠ h ∨ x.sent.1 ≠ h then s
  else
    let asym : Int := signedBits 16 (fldAt s (timPg + 0x110 + 4 * k) 15 0)
    let a := arrA - x.sent.2
    let b := x.arrived - x.launch
    let (th, s) := halve s (a - b + asym)
    let (d, s) := halve s (a + b)
    let s := timMod s (fun z => { z with links := tabIns z.links k (th, d, h) })
    if timSource s = 8 + k then measure s th else s

/-- HAND_TXN_RX (R386, R449). -/
def handTxnRx (s : State) (k : Nat) (x : TxnIn) : State :=
  handMeasure s k (x.off.toNat % 2 ^ 40) (signedBits 32 (leNat ((inData x).take 4)))

/-- TIME_TXN_RX (R444): the partner's hand number to be matched, when the link is the source: the jump that makes this side's
number of that hand equal. -/
def timeTxnRx (s : State) (k : Nat) (x : TxnIn) : State :=
  if timSource s ≠ 8 + k then s
  else
    let h := x.off.toNat % 2 ^ 40
    let cur := s.time.toNat / handUnits
    let mine := cur - (cur + 2 ^ 40 - h) % 2 ^ 40
    let theirs : Nat := leNat ((inData x).take 8) / handUnits
    let j : Int := Int.ofNat theirs - Int.ofNat mine
    timMod s (fun z => { z with jump := if j = 0 then z.jump else j })

/-- SOURCE of the TIME transaction this side sends (R386): 0 link, 1 PPS_IN, 2 free run, 3 holdover. -/
def timeSourceCode (s : State) : Nat :=
  if timState s = 3 then 3 else if timState s = 0 then 2 else if timSource s = 1 then 1 else 0

/-- The HAND transaction for the hand that ended, and in the first hand of a rubber the TIME transaction (R448). The error
estimate is an open value. -/
def sendTime (s : State) (k : Nat) : State :=
  let h := handNo s
  let prev := (h + 2 ^ 40 - 1) % 2 ^ 40
  let x := physOf s k
  let s := if x.handNo = prev then nicenSend s k { txn0 0x11 0 0 0 0 with len := 1, last := 8, off := prev, data := natLe 4 (lowBits 32 x.arrived) ++ natLe 4 0 } else s
  if h % 64 ≠ 0 then s
  else
    let (n, s) := freshFree s
    nicenSend s k { txn0 0x15 0 0 0 0 with len := 1, last := 16, off := h, data := natLe 8 s.time.toNat ++ natLe 2 (timeSourceCode s) ++ natLe 2 (Config.freeValue n % 65536) ++ natLe 4 0 }

/-- A source link that is not ACTIVE is lost (R444); while it retrains the measurements only pause (R456). -/
def sourceLinkCheck (s : State) : State :=
  if 8 ≤ timSource s ∧ !linkUp s (timSource s - 8) then sourceLost s false else s

/-! ## PTM (R451 to R453) -/

/-- PTM Enable of PF n: bit 0 of PTM Control (PRESUMED place). -/
def ptmOn (s : State) (n : Nat) : Bool := bitOf (cfgAt s n 0x1D0) 0

/-- At trick 0 of every INTERVAL-th hand a seat with PTM Enable starts a dialog (R451). -/
def ptmStart (s : State) : State :=
  let i := fldAt s (timPg + 0x120) 7 0
  (List.range 6).foldl (fun s n =>
    if i ≠ 0 ∧ handNo s % i = 0 ∧ ptmOn s n ∧ dlUp s n ∧ ltssm s n = 3 then
      emit (seatMod s n (fun x => { x with ptmOpen := true, ptmT1 := 8 * s.time.toNat, ptmHand := handNo s % 2 ^ 32 })) (.seatSig n "PTM_REQUEST" (handNo s))
    else s) s

/-- A PTM response completes the open dialog (R452): the request left `t1` units of 15.625 ps after the dialog began, the
response came `t4` after this trick began; the responder gives its Master Time at the request in ns and its own delay in ns.
The published offset is rounded down to 1/8 ns; the error estimate is an open value. -/
def ptmResponse (s : State) (n t1 t4 : Nat) (master delay : Nat) : State :=
  let x := seatOf s n
  if !x.ptmOpen then s
  else
    let a : Int := x.ptmT1 + t1
    let b : Int := 8 * s.time.toNat + t4
    let (h, s) := halve s (b - a - 64 * (delay : Int))
    let off8 := (64 * (master : Int) - h - a).fdiv 8
    let (e, s) := freshFree s
    let ns := lowBits 64 (off8.fdiv 8)
    let w (v : Nat) : Word := BitVec.ofNat 32 v
    seatMod s n (fun y => { y with ptmOpen := false, ptmOk := true, ptm := [w ns, w (ns / 2 ^ 32), w (Config.freeValue e % 65536 * 65536 + lowBits 3 off8), w y.ptmHand] })

/-! ## PPS_OUT (R455) -/

/-- PPS_OUT rises in this trick (R455). -/
def ppsDue (s : State) : Bool :=
  let r := (s.time.toNat + fldAt s (timPg + 0x124) 15 0) % 8000000000
  flagAt s (timPg + 0x124) 31 && (r == 0 || decide (8000000000 - 40 < r))

/-- PPS_OUT rises; in Deep sleep and Off it is held low (R489). -/
def ppsRise (s : State) : State :=
  if ppsDue s && decide (s.pwr.state < 3) then emit (timMod s (fun x => { x with pps := fldAt s (timPg + 0x124) 25 16 * 8000000 })) (.pin "PPS_OUT" 1) else s

/-- PPS_OUT falls at the end of its pulse, or when EN is cut to 0 (R455). -/
def ppsTick (s : State) : State :=
  if s.tim.pps = 0 then s
  else if s.tim.pps ≤ 40 ∨ !flagAt s (timPg + 0x124) 31 then emit (timMod s (fun x => { x with pps := 0 })) (.pin "PPS_OUT" 0)
  else timMod s (fun x => { x with pps := x.pps - 40 })

/-! ## Commands -/

/-- HAND_TXN_RX (R449). -/
def execHandTxnRx (k : Fin 4) (x : TxnIn) (s : State) : Answer := finish (received s k.val 0x11 x (fun s => handTxnRx s k.val x))
/-- TIME_TXN_RX (R444). -/
def execTimeTxnRx (k : Fin 4) (x : TxnIn) (s : State) : Answer := finish (received s k.val 0x15 x (fun s => timeTxnRx s k.val x))
/-- PPS_IN_EDGE (R444): its place in the trick, in 15.625 ps units. -/
def execPpsInEdge (ofs : Fin 320) (s : State) : Answer := finish (ppsEdge s ofs.val)
/-- TIME_SOURCE_LOST (R446). -/
def execTimeSourceLost (s : State) : Answer := finish (sourceLost s false)
/-- TIME_SET (R458). -/
def execTimeSet (s : State) : Answer := finish (timeSet s)
/-- PPS_OUT_EDGE (R455). -/
def execPpsOutEdge (s : State) : Answer := finish (ppsRise s)
/-- PTM_RESPONSE (R452). -/
def execPtmResponse (n : Fin 6) (t1 t4 : Fin 65536) (master : Dword) (delay : Word) (s : State) : Answer :=
  finish (ptmResponse s n.val t1.val t4.val master.toNat delay.toNat)

end Sys2Proof.Machine
end

