-- ==== Sys2Proof/Machine/Images.lean ====
section
/-! DEFINITION. The persistent store and the boot flash as byte memories, and what makes an image in them acceptable: signature
blocks (R533, R534), Croupier slots (R470, R477, R478), House and Lane images (R540, R541). -/

namespace Sys2Proof.Machine

/-! ## Byte memories (R516, R540) -/

/-- A byte memory is in its canonical form: addresses strictly rising, no byte listed that an unlisted address reads as. -/
abbrev Memory.wf (d : Byte) (m : List (Nat × Byte)) : Prop := tabWf (fun _ => d) m = true

/-- `n` bytes from address `a`; `d` where nothing is listed. -/
def memRange (d : Byte) (m : List (Nat × Byte)) (a : Nat) : Nat → List Byte
  | 0 => []
  | n + 1 => tabGet d m a :: memRange d (m.dropWhile (fun p => decide (p.1 ≤ a))) (a + 1) n

/-- Write bytes from address `a` on. -/
def memWrite (d : Byte) (m : List (Nat × Byte)) (a : Nat) : List Byte → List (Nat × Byte)
  | [] => m
  | b :: r => tabPut d (memWrite d m (a + 1) r) a b

def storeMod (s : State) (g : Store → Store) : State := { s with store := g s.store }
/-- Bytes of the persistent store. -/
def storeRead (s : State) (a n : Nat) : List Byte := memRange 0 s.store.mem a n
/-- Bytes written into the persistent store. -/
def storeWrite (s : State) (a : Nat) (bs : List Byte) : State := storeMod s (fun x => { x with mem := memWrite 0 x.mem a bs })
/-- Bytes of the boot flash: slot 0 (A) or 1 (B). -/
def flashRead (s : State) (slot a n : Nat) : List Byte := memRange 0xFF s.store.flash (slot * 2 ^ 24 + a) n
/-- Bytes programmed into the boot flash. -/
def flashWrite (s : State) (slot a : Nat) (bs : List Byte) : State :=
  storeMod s (fun x => { x with flash := memWrite 0xFF x.flash (slot * 2 ^ 24 + a) bs })
/-- An area of the boot flash is erased. -/
def flashErase (s : State) (slot a n : Nat) : State :=
  storeMod s (fun x => { x with flash := x.flash.filter (fun p => !decide (slot * 2 ^ 24 + a ≤ p.1 ∧ p.1 < slot * 2 ^ 24 + a + n)) })

/-- The little-endian number at `o` of a byte list, `n` bytes long. -/
def numAt (bs : List Byte) (o n : Nat) : Nat := leNat ((bs.drop o).take n)

/-! ## Signature blocks (R528, R533, R534) -/

/-- Images of a type (1 House, 2 Lane, 3 Croupier) under a root (0 Uzoivo, 1 Uzoivo development, 2 owner) are accepted in the
life-cycle state (R528). -/
def rootPermitted (s : State) (type root : Nat) : Bool :=
  let st := s.lcs.fuse
  if st = 5 then false
  else if type = 3 then (if st = 2 ∨ st = 3 then root == 2 && !s.lcs.revoked else root == 1)
  else root == 0

/-- The form, root, signatures and hash of a signature block are good for an image of type `type` (R533, R534). -/
def blockOk (s : State) (type : Nat) (blk img : List Byte) : Bool :=
  numAt blk 0 4 == 0x314E4753 && numAt blk 4 1 == 1 && numAt blk 6 1 == type && decide (numAt blk 7 1 ≤ 2) &&
  rootPermitted s type (numAt blk 5 1) && Config.signed s.lcs.owner blk img

/-- The SVN of a signature block is not below the fused one (R534). -/
def svnOk (s : State) (type : Nat) (blk : List Byte) : Bool := decide (s.lcs.svn.getD (type - 1) 0 ≤ numAt blk 8 4)

/-- An image is accepted: a higher SVN waits to be fused (R534). -/
def svnSeen (s : State) (type : Nat) (blk : List Byte) : State :=
  let v := numAt blk 8 4
  if s.lcs.svn.getD (type - 1) 0 < v then
    { s with lcs := { s.lcs with svnNext := listSet s.lcs.svnNext (type - 1) (max v (s.lcs.svnNext.getD (type - 1) 0)) } }
  else s

/-! ## Croupier programs (R467 to R470, R477, R478) -/

/-- Store offset of Croupier slot i. -/
def slotAddr (i : Nat) : Nat := 0x410000 + i * 0x4000

/-- The instruction words of a slot's bytes: word i at bytes 3i to 3i + 2 (R478). -/
def slotWords (n : Nat) (bs : List Byte) : List Nat :=
  match n, bs with
  | n + 1, a :: b :: c :: r => (a.toNat + 256 * b.toNat + 65536 * c.toNat) :: slotWords n r
  | _, _ => []

def wordField (w hi lo : Nat) : Nat := (w >>> lo) % 2 ^ (hi + 1 - lo)

/-- A header is well formed in a program of `n` words (R477). -/
def headerOk (ws : List Nat) (n : Nat) : Bool :=
  let w (i : Nat) : Nat := ws.getD i 0
  decide (72 ≤ n ∧ n ≤ 4096) && wordField (w 0) 23 12 == 0xC9A && wordField (w 0) 7 0 == 1 &&
  wordField (w 1) 23 12 == 0 && decide (72 ≤ w 1) && decide (w 1 < 4096) &&
  wordField (w 2) 23 16 == 0 && wordField (w 3) 23 16 == 0 &&
  wordField (w 4) 23 17 == 0 && decide (wordField (w 4) 16 8 ≤ 256) && decide (wordField (w 4) 7 0 + wordField (w 4) 16 8 ≤ 256) &&
  wordField (w 5) 23 16 == 0 && w 6 == 0 && w 7 == 0

/-- A 24-bit word is a legal instruction of a program of `n` words (R467, R470). -/
def codeOk (n w : Nat) : Bool :=
  let op := wordField w 23 18
  let rd := wordField w 17 14
  let low (k : Nat) : Bool := w % 2 ^ k == 0
  if op ≤ 1 then low 18
  else if op = 0x03 ∨ op = 0x08 ∨ op = 0x16 then wordField w 13 12 == 0
  else if op = 0x0B ∨ op = 0x0C ∨ op = 0x0D then low 6 && rd % 2 == 0
  else if op ≤ 0x15 ∨ op = 0x19 ∨ op = 0x1A ∨ op = 0x1C then low 6
  else if op = 0x17 ∨ op = 0x18 ∨ op = 0x21 then wordField w 13 8 == 0
  else if op = 0x1B then wordField w 13 10 == 0
  else if op = 0x1D then wordField w 13 10 == 0
  else if op = 0x1E ∨ op = 0x1F then wordField w 13 5 == 0
  else if op = 0x20 then wordField w 13 6 == 0
  else if op = 0x22 then decide (rd ≤ 0xA) && wordField w 13 12 == 0 && decide (72 ≤ wordField w 11 0 ∧ wordField w 11 0 < n)
  else false

/-- What a slot check ends with: the program's words; or the failing part. -/
inductive SlotCheck
  | ok (words : List Nat)
  | empty | badSig | svn | badHeader | badCode
  deriving DecidableEq, Repr

/-- A slot whose contents are being replaced: not every part of it has been written (R550). -/
def slotTorn (s : State) (i : Nat) : Bool := s.store.torn.any (fun k => k / 2 ^ 23 == 4 + i)
/-- The part of a slot at store offset `a`, as a key of `torn`; every part of the slot. -/
def slotPart (a : Nat) : Nat := (4 + (a - 0x410000) / 0x4000) * 2 ^ 23 + (a - 0x410000) % 0x4000
def slotParts (a : Nat) : List Nat := (List.range 16).map (fun p => slotPart (0x410000 + (a - 0x410000) / 0x4000 * 0x4000 + 0x400 * p))
/-- The part at store offset `a` is about to be written: the replacement of its slot begins, or goes on (R550). -/
def slotBegin (s : State) (a : Nat) : State :=
  let ks := if slotTorn s ((a - 0x410000) / 0x4000) then [slotPart a] else slotParts a
  storeMod s (fun x => { x with torn := ks.foldl (fun l k => setIns k l) x.torn })
/-- The part at store offset `a` has been written (R550). -/
def slotWritten (s : State) (a : Nat) : State := storeMod s (fun x => { x with torn := setDel (slotPart a) x.torn })

/-- A Croupier slot is checked as LOAD does: signature block, header, every encoding (R478, R534, R470). A slot whose WORD_COUNT and
signature MAGIC are 0 is empty; one that is being replaced fails its signature check (R550). -/
def slotCheck (s : State) (i : Nat) : SlotCheck :=
  let img := storeRead s (slotAddr i) 0x3800
  let blk := storeRead s (slotAddr i + 0x3800) 0x800
  let n := numAt img 0x3000 4
  if n = 0 ∧ numAt blk 0 4 = 0 then .empty
  else if slotTorn s i || !blockOk s 3 blk img then .badSig
  else if !svnOk s 3 blk then .svn
  else
    let ws := slotWords n img
    if !headerOk ws n then .badHeader
    else if !(ws.drop 72).all (codeOk n) then .badCode
    else .ok ws

/-! ## House and Lane images (R540 to R542, R549) -/

/-- Start of the House (0) or Lane (1) area of a slot (R540). -/
def areaAt (lane : Nat) : Nat := lane * 0x800000

/-- An image is of the right kind and in bounds: its MAGIC, and LENGTH within the area (R540). -/
def imageLen (s : State) (slot lane : Nat) : Option Nat :=
  let h := flashRead s slot (areaAt lane + 0x800) 0x54
  let n := numAt h 8 4
  if numAt h 0 4 = (if lane = 0 then 0x45535548 else 0x454E414C) ∧ 0x54 ≤ n ∧ n ≤ 0x7FF800 then some n else none

/-- The image and its signature block are good, and no part of the area was left incomplete (R534, R540, R548). -/
def imageSigned (s : State) (slot lane : Nat) : Bool :=
  !s.store.torn.any (fun k => k / 2 ^ 23 == slot * 2 + lane) &&
  match imageLen s slot lane with
  | some n => blockOk s (1 + lane) (flashRead s slot (areaAt lane) 0x800) (flashRead s slot (areaAt lane + 0x800) n)
  | none => false
def imageSvn (s : State) (slot lane : Nat) : Bool := svnOk s (1 + lane) (flashRead s slot (areaAt lane) 0x800)

/-- STEPPINGS of the slot's House image holds 0xB0 among its first STEP_COUNT bytes (R541). -/
def steppingOk (s : State) (slot : Nat) : Bool :=
  let h := flashRead s slot 0x800 0x54
  ((h.drop 0x0C).take (min 8 (numAt h 6 1))).contains 0xB0#8

/-- MAJOR and MINOR of an image. -/
def imageVer (s : State) (slot lane : Nat) : Nat × Nat :=
  let h := flashRead s slot (areaAt lane + 0x800) 6
  (numAt h 4 1, numAt h 5 1)

/-- The slot's LANE table lists the slot's Lane image (R542). -/
def laneListed (s : State) (slot : Nat) : Bool :=
  let h := flashRead s slot 0x800 0x54
  let (maj, min_) := imageVer s slot 1
  (List.range (min 16 (numAt h 7 1))).any (fun i =>
    numAt h (0x14 + 4 * i) 1 == maj && decide (numAt h (0x15 + 4 * i) 1 ≤ min_ ∧ min_ ≤ numAt h (0x16 + 4 * i) 1))

/-- The boot ROM accepts the slot's House image (R541). -/
def houseOk (s : State) (slot : Nat) : Bool := imageSigned s slot 0 && imageSvn s slot 0 && steppingOk s slot
/-- House firmware may start the slot's Lane image (R542). -/
def laneOk (s : State) (slot : Nat) : Bool := laneListed s slot && imageSigned s slot 1 && imageSvn s slot 1

/-- STATUS of FW_VERIFY on a slot: the first failing of BAD_IMAGE, STEPPING, SVN, INCOMPATIBLE (R546, R549). -/
def verifyStatus (s : State) (slot : Nat) : Nat :=
  if !imageSigned s slot 0 || !imageSigned s slot 1 then 5
  else if !steppingOk s slot then 6
  else if !imageSvn s slot 0 || !imageSvn s slot 1 then 7
  else if !laneListed s slot then 8
  else 0

/-- RSP0 of FW_VERIFY and ACTIVATE (R547). -/
def versionWord (s : State) (slot : Nat) : Word :=
  let h := imageVer s slot 0
  let l := imageVer s slot 1
  BitVec.ofNat 32 (h.1 * 2 ^ 24 + h.2 * 65536 + l.1 * 256 + l.2)

end Sys2Proof.Machine
end

