-- ==== Sys2Proof/Machine/Croupier.lean ====
section
/-! DEFINITION. The Croupier: engines and their instructions (R460 to R472), input ports (R463, R464), actions and overrides (R472
to R476), programs, LOAD and exchange (R477 to R481), the watchdog stop (R427), the engine mailbox (R484). -/

namespace Sys2Proof.Machine

def engOf (s : State) (e : Nat) : Eng := tabGet Eng.idle s.crp.engs e
def crpMod (s : State) (g : Croupier → Croupier) : State := { s with crp := g s.crp }
def engMod (s : State) (e : Nat) (g : Eng → Eng) : State := crpMod s (fun c => { c with engs := tabMod Eng.idle c.engs e g })
/-- Table offset of `CRP.ENG_CFG[e]`, `CRP.ENG_STAT[e]`. -/
def engCfg (e : Nat) : Nat := crpPg + 0x100 + 4 * e
def engStat (e : Nat) : Nat := crpPg + 0x140 + 4 * e
/-- EN and BANK of the live configuration (R480). -/
def engEn (s : State) (e : Nat) : Bool := flagAt s (engCfg e) 31
def engBank (s : State) (e : Nat) : Bool := flagAt s (engCfg e) 30
/-- STATE of an engine: 0 OFF, 1 RUNNING, 2 STOPPED (R482). -/
def engState (s : State) (e : Nat) : Nat := fldAt s (engStat e) 31 30
def bankWords (x : Eng) (b : Bool) : List Nat := if b then x.bank1 else x.bank0
/-- The program of the active bank. -/
def engProg (s : State) (e : Nat) : List Nat := bankWords (engOf s e) (engBank s e)
/-- STATE, ACTIVE_BANK, VALID1 and VALID0 of ENG_STAT are set (R482). -/
def showEng (s : State) (e st : Nat) : State :=
  let x := engOf s e
  let w := setBits (regAt s (engStat e)) 31 30 st
  regPut s (engStat e) (setBit (setBit (setBit w 29 (engBank s e)) 28 (!x.bank1.isEmpty)) 27 (!x.bank0.isEmpty))
/-- A 16-bit count that saturates (R484). -/
def sat16 (n : Nat) : Nat := satNat 65535 (n + 1)

/-! ## Input ports (R463, R464) -/

/-- The source's value before SHIFT, for a `CRP.IN_SEL` word (R464). Sources that are absent or unassigned read 0. -/
def portSource (s : State) (w : Word) : Nat :=
  let inst := bits w 11 0
  let count (k : Nat) : Nat := tabGet 0 s.crp.cnt (k * 4096 + inst)
  match bits w 31 28 with
  | 1 => if (fnSeat s inst).isSome then count 1 else 0
  | 2 => if (fnSeat s inst).isSome then count 2 else 0
  | 3 => if (fnSeat s inst).isSome then count 3 else 0
  | 4 => if (fnSeat s inst).isSome then count 4 else 0
  | 5 => if (fnSeat s inst).isSome then count 5 else 0
  | 6 => if portPresent s inst then count 6 else 0
  | 7 => if portPresent s inst then count 7 else 0
  | 8 => if portPresent s inst then count 8 else 0
  | 9 => if portPresent s inst then count 9 else 0
  | 0xA => if (fnSeat s inst).isSome then heldBy s inst else 0
  | 0xB => sharedKitty s - kittyTotal s
  | 0xC => bits (tabGet Chan.idle s.sens inst).word 23 12
  | 0xD => if inst < 10 then currentShare s inst else 0
  | _ => 0

/-- Number of the input port whose `CRP.IN_SEL` stands at Table offset `off` (R464). -/
def portAt (off : Nat) : Option Nat :=
  let o := off % 0x1000
  if 0xB000 ≤ off ∧ off < 0xF000 ∧ 0x100 ≤ o ∧ o < 0x500 then some ((off / 0x1000 - 0xB) * 256 + (o - 0x100) / 4) else none
/-- Table offset of `CRP.IN_SEL[i]`. -/
def inSel (i : Nat) : Nat := 0xB100 + 0x1000 * (i / 256) + 4 * (i % 256)

/-- The tiles snapshot every input port; the counts of the hand start again (R463, R38 step 1). A port whose selection is 0 reads 0. -/
def snapshot (s : State) : State :=
  let snap := s.regs.foldl (fun t p => match portAt p.1 with
    | some i => tabPut 0 t i (min 2047 (portSource s p.2 >>> bits p.2 27 24))
    | none => t) []
  crpMod s (fun c => { c with snap := snap, snapHand := handNo s, cnt := [] })

/-- Input port i of the snapshot. -/
def portVal (s : State) (i : Nat) : BitVec 12 := BitVec.ofNat 12 (tabGet 0 s.crp.snap i)

/-! ## Instruction words (R467, R468) -/

def encR (op rd ra rb : Nat) : Nat := op * 2 ^ 18 + rd * 2 ^ 14 + ra * 2 ^ 10 + rb * 2 ^ 6
def encI (op rd imm : Nat) : Nat := op * 2 ^ 18 + rd * 2 ^ 14 + imm
def encM (op rd x : Nat) : Nat := op * 2 ^ 18 + rd * 2 ^ 14 + x
/-- Fields that an instruction uses, as a mask: all; Rd, Ra; Ra, Rb; Rd alone of format M. -/
def useAll : Nat := 0xFFFFFF
def useRdRa : Nat := 0xFFFC3F
def useRaRb : Nat := 0xFC3FFF
def useRd : Nat := 0xFFFC00

/-- Engine e's pass runs, has `cyc` cycles left, and its next word is `w` in the fields it uses (R461, R462). -/
def crpFetches (s : State) (e cyc mask w : Nat) : Bool :=
  let x := engOf s e
  x.run && decide (x.cycles + cyc ≤ 7680) && (match (engProg s e)[x.pc]? with
  | some v => v &&& mask == w
  | none => false)

/-- One instruction of engine e: its cycles, its effect, the next word (R468). The state is unchanged where the engine does not
execute that instruction now. -/
def crpStep (s : State) (e cyc mask w : Nat) (f : Eng → Eng) : State :=
  if crpFetches s e cyc mask w then engMod s e (fun x => { f x with pc := x.pc + 1, cycles := x.cycles + cyc }) else s

def regG (x : Eng) (r : Nat) : BitVec 12 := tabGet 0 x.g r
/-- Z and N from a 12-bit value (R470). -/
def setZN (x : Eng) (v : BitVec 12) : Eng := { x with z := v == 0, n := v.msb }
def putG (x : Eng) (r : Nat) (v : BitVec 12) : Eng := { x with g := tabPut 0 x.g r v }
/-- A G register is written: Z and N follow (R470). -/
def writeG (x : Eng) (r : Nat) (v : BitVec 12) : Eng := setZN (putG x r v) v
/-- An integer saturated to 12 bits, and whether it was outside (R471). -/
def sat12 (i : Int) : BitVec 12 × Bool :=
  if i > 2047 then (2047#12, true) else if i < -2048 then (2048#12, true) else (BitVec.ofInt 12 i, false)
/-- A saturating result is written (R471). -/
def writeSat (x : Eng) (r : Nat) (i : Int) : Eng :=
  let p := sat12 i
  let y := writeG x r p.1
  { y with v := y.v || p.2 }
/-- Flags of a comparison: those of the saturating difference, V unchanged (R468). -/
def compare (x : Eng) (i : Int) : Eng := setZN x (sat12 i).1

/-- ADDM and SUBM: modulo 4,096 with carry or borrow (R471). -/
def addMod (x : Eng) (rd : Nat) (a b : BitVec 12) : Eng := { writeG x rd (a + b) with c := decide (4096 ≤ a.toNat + b.toNat) }
def subMod (x : Eng) (rd : Nat) (a b : BitVec 12) : Eng := { writeG x rd (a - b) with c := decide (a.toNat < b.toNat) }

/-- MUL: the exact 24-bit product in Rd, Rd+1; Z and N from all of it (R470, R471). -/
def mulPair (x : Eng) (rd : Nat) (a b : BitVec 12) : Eng :=
  let p := BitVec.ofInt 24 (a.toInt * b.toInt)
  { putG (putG x rd (BitVec.ofNat 12 (p.toNat / 4096))) (rd + 1) (BitVec.ofNat 12 p.toNat) with z := p == 0, n := p.msb }

/-- DIV: quotient in Rd, remainder in Rd+1; Z and N from the quotient (R470, R471). -/
def divPair (x : Eng) (rd : Nat) (a b : BitVec 12) : Eng :=
  if b = 0 then { putG (writeG x rd (if a.msb then 2048#12 else 2047#12)) (rd + 1) a with d := true }
  else if a = 2048#12 ∧ b = 4095#12 then { putG (writeG x rd 2047#12) (rd + 1) 0 with v := true }
  else putG (writeG x rd (BitVec.ofInt 12 (a.toInt.tdiv b.toInt))) (rd + 1) (BitVec.ofInt 12 (a.toInt.tmod b.toInt))

/-- Shifts: result and C for a count of 0, 1 to 11, and 12 or more (R471). -/
def shl12 (a : BitVec 12) (n : Nat) : BitVec 12 × Bool :=
  if n = 0 then (a, false) else if n < 12 then (a <<< n, a.getLsbD (12 - n)) else (0, false)
def shr12 (a : BitVec 12) (n : Nat) : BitVec 12 × Bool :=
  if n = 0 then (a, false) else if n < 12 then (a >>> n, a.getLsbD (n - 1)) else (0, false)
def sar12 (a : BitVec 12) (n : Nat) : BitVec 12 × Bool :=
  if n = 0 then (a, false) else if n < 12 then (a.sshiftRight n, a.getLsbD (n - 1)) else (if a.msb then 4095#12 else 0#12, a.msb)
def shiftG (x : Eng) (rd : Nat) (p : BitVec 12 × Bool) : Eng := { writeG x rd p.1 with c := p.2 }

/-- A branch condition holds (R469). -/
def condHolds (x : Eng) (c : Nat) : Bool :=
  match c with
  | 0 => true | 1 => x.z | 2 => !x.z | 3 => x.n | 4 => !x.n | 5 => !x.n && !x.z | 6 => x.n || x.z | 7 => x.c | 8 => !x.c | 9 => x.v
  | 0xA => x.d | _ => false

/-- B: 1 cycle; 2 where it is taken (R468, R469). -/
def branch (s : State) (e c t : Nat) : State :=
  let taken := condHolds (engOf s e) c
  let cyc := if taken then 2 else 1
  if crpFetches s e cyc useAll (encI 0x22 c t) then engMod s e (fun x => { x with pc := if taken then t else x.pc + 1, cycles := x.cycles + cyc }) else s

/-- ACT: the value is pending for the port; a port of another engine, or without a kind, rejects it (R472). -/
def actStore (s : State) (e a rd : Nat) : State :=
  let w := actCfg s a
  let mine := bits w 31 28 == e && actKind w != 0
  crpStep s e 1 useAll (encM 0x21 rd a) (fun x =>
    if mine then { x with pend := tabIns x.pend a (regG x rd) } else { x with discarded := sat16 x.discarded })

/-- The pass of engine e ends at HALT: its actions are committed (R461, R472). -/
def haltPass (s : State) (e : Nat) : State :=
  if crpFetches s e 1 useAll (encR 0x01 0 0 0) then
    let ignored := ignores s s.safe.passOff
    let s := engMod s e (fun x => { x with run := false, cycles := x.cycles + 1, commit := x.pend, pend := [], passes := sat16 x.passes,
                                           lastHand := handNo s % 2 ^ 32, since := if ignored then x.since else 0 })
    let x := engOf s e
    regPut s (engStat e) (setBits (setBit (setBit (regAt s (engStat e)) 26 x.v) 25 x.d) 12 0 x.cycles)
  else s

/-- The pass of engine e is stopped at its 7,680th cycle: its actions are discarded; stores and timer loads stand (R462). -/
def overrunPass (s : State) (e : Nat) : State :=
  if (engOf s e).run then
    let s := engMod s e (fun x => { x with run := false, cycles := 7680, pend := [], overruns := sat16 x.overruns })
    let x := engOf s e
    let s := regPut s (engStat e) (setBits (setBit (setBit (regAt s (engStat e)) 26 x.v) 25 x.d) 12 0 7680)
    raiseErr (hwSetBits s (crpPg + 0x18C) (maskOf e e)) crpPg 8
  else s

/-! ## Pass start (R461, R465, R466) -/

/-- Word 8 + j of the program: MODE, INPUT, THRESHOLD of detector Ej (R477). -/
def detector (ws : List Nat) (j : Nat) : Nat := ws.getD (8 + j) 0
def detMode (w : Nat) : Nat := wordField w 23 22

/-- An enabled detector takes its new sample; its edge output for the pass (R466, R481). -/
def sampleEdge (s : State) (ws : List Nat) (x : Eng) (j : Nat) : Eng :=
  let w := detector ws j
  let m := detMode w
  if m = 0 then x
  else
    let now := decide ((portVal s (wordField w 21 12)).toInt ≥ signedBits 12 (wordField w 11 0))
    let old := x.sample.contains j
    let edge := (m.testBit 0 && now && !old) || (m.testBit 1 && !now && old)
    { x with sample := if now then setIns j x.sample else setDel j x.sample,
             edges := if edge && !x.mute.contains j then setIns j x.edges else x.edges }

/-- A timer after `n` hand boundaries: it counts down and stops at 0 (R461, R465). -/
def timerDown (t : Tab (BitVec 12)) (n : Nat) : Tab (BitVec 12) :=
  (t.map (fun p => (p.1, BitVec.ofNat 12 (p.2.toNat - n)))).filter (fun p => p.2 != 0)

/-- Engine e starts its pass: timers, detectors, then the registers and flags, at ENTRY (R461). -/
def startPass (s : State) (e : Nat) : State :=
  let ws := engProg s e
  if engState s e = 1 && !ws.isEmpty then
    let snap := s
    engMod s e (fun x =>
      let y := (List.range 64).foldl (sampleEdge snap ws) { x with timers := timerDown x.timers x.missed, missed := 0, edges := [] }
      { y with g := [], z := false, n := false, c := false, v := false, d := false, pend := [], pc := ws.getD 1 0, run := true, cycles := 0, mute := [] })
  else s

/-- A hand boundary passes for engine e: an unfinished pass overran; the boundary counts for its timers and its watchdog (R461, R462, R427). -/
def handEng (s : State) (e : Nat) : State :=
  let s := overrunPass s e
  if (engOf s e) = Eng.idle ∧ engState s e = 0 then s
  else engMod s e (fun x => { x with missed := x.missed + 1, since := if engState s e = 1 then x.since + 1 else 0 })

/-! ## Actions and overrides (R472 to R476) -/

/-- The bench of f follows the overrides; during an FLR it is recorded (R207, R474, R476). -/
def benchFn (s : State) (f : Nat) : State :=
  let want := !(overrides s 6 f).isEmpty
  let x := fnOf s f
  if x.flr then fnMod s f (fun x => { x with benchPend := want, bench := x.bench && want })
  else if x.bench = want then s
  else setEvt (fnMod s f (fun x => { x with bench := want })) (fnPg f) 13

/-- A cut changed the register at `off`. -/
def cutChanged (old s : State) (off : Nat) : Bool := regAt old off != regAt s off

/-- The deck field that an action of kind WEIGHT or ANTE is clamped against (R473). -/
def clampReg (w : Word) : Option Nat :=
  if actKind w = 1 then some (fnPg (actTarget w) + 0x134) else if actKind w = 2 then some (fnPg (actTarget w) + 0x128) else none

/-- A RECORD action: its fault-ring record (R473, R526). -/
def recordAct (s : State) (e a : Nat) (v : BitVec 12) : State :=
  let d (i : Nat) : Nat := lowBits 16 (tabGet (0 : BitVec 12) (engOf s e).data i).toInt
  putRec s 3 128 (BitVec.ofNat 32 (e + 256 * a + 65536 * lowBits 16 v.toInt) ::
    (List.range 8).map (fun i => BitVec.ofNat 32 (d (2 * i) + 65536 * d (2 * i + 1))))

/-- One committed action takes effect (R472, R473); `old` is the state before the cut of this boundary, if any (R39, R476). -/
def applyAction (old s : State) (e a : Nat) (v : BitVec 12) : State :=
  let w := actCfg s a
  let f := actTarget w
  let cutHit := cutChanged old s (0x0F100 + 4 * a) || (match clampReg w with
    | some o => cutChanged old s o
    | none => false)
  if cutHit then setEvt (engMod s e (fun x => { x with discarded := sat16 x.discarded })) crpPg 10
  else
    let s := engMod s e (fun x => { x with applied := sat16 x.applied })
    let put (s : State) : State := crpMod s (fun c => { c with ovr := tabIns c.ovr a v })
    match actKind w with
    | 1 | 2 => put s
    | 3 =>
      let l := setBits (setBits (setBits 0 31 28 e) 27 20 a) 11 0 v.toNat
      setEvt (logHold s (crpPg + 0x188) 19 (flagAt s (crpPg + 0x010) 8) l) crpPg 8
    | 4 =>
      let n := f % 8
      let o := fnPg n + 0x1DC
      setEvt (regPut s o (setBits (setBits (setBits (setBits 0 31 24 (fldAt s o 31 24 + 1)) 23 20 e) 19 12 a) 11 0 v.toNat)) (fnPg n) 14
    | 5 => recordAct s e a v
    | 6 => benchFn (if v = 0 then crpMod s (fun c => { c with ovr := tabDel c.ovr a }) else put s) f
    | 7 => if v = 0 ∨ portFolded s (f % 8) then s else faultPort s (f % 8) 0x12 0 false
    | _ => s

/-- The committed actions of every engine take effect, engine by engine, port by port (R38 step 5). -/
def applyActions (old s : State) : State :=
  (List.range 16).foldl (fun s e =>
    let acts := (engOf s e).commit
    if acts.isEmpty then s
    else acts.foldl (fun s p => applyAction old s e p.1 p.2) (engMod s e (fun x => { x with commit := [] }))) s

/-- Overrides that a cut releases (R474): their port's ACT_CFG or clamp field changed, or their engine's EN was cleared. -/
def releaseOverrides (old s : State) : State :=
  let gone (a : Nat) : Bool :=
    let w := actCfg old a
    let e := bits w 31 28
    cutChanged old s (0x0F100 + 4 * a) || (engEn old e && !engEn s e) || (match clampReg w with
      | some o => cutChanged old s o
      | none => false)
  let out := s.crp.ovr.filter (fun p => gone p.1)
  let s := crpMod s (fun c => { c with ovr := c.ovr.filter (fun p => !gone p.1) })
  (out.filter (fun p => actKind (actCfg old p.1) == 6)).foldl (fun s p => benchFn s (actTarget (actCfg old p.1))) s

/-! ## Program exchange (R481) -/

/-- The CARRY bit of timer t. -/
def carries (ws : List Nat) (t : Nat) : Bool := if t < 16 then (ws.getD 2 0).testBit t else (ws.getD 3 0).testBit (t - 16)

/-- Engine e exchanges its program at a cut; `old` is the state before the cut. -/
def exchange (old s : State) (e : Nat) : State :=
  let before := engProg old e
  let ws := engProg s e
  let base := wordField (ws.getD 4 0) 7 0
  let len := wordField (ws.getD 4 0) 16 8
  let quiet (j : Nat) : Bool :=
    let a := detector before j
    let b := detector ws j
    detMode a == 0 || a % 2 ^ 22 != b % 2 ^ 22 || cutChanged old s (inSel (wordField b 21 12))
  let s := engMod s e (fun x => { x with
    timers := x.timers.filter (fun p => carries ws p.1),
    data := x.data.filter (fun p => decide (base ≤ p.1 ∧ p.1 < base + len)),
    mute := (List.range 64).filter quiet, run := false, pend := [], since := 0 })
  showEng s e 1

/-- What a cut does to the engines: exchanges, and engines whose EN it cleared stop (R480, R481). -/
def crpCut (old s : State) : State :=
  let s := (List.range 16).foldl (fun s e =>
    if !engEn s e then (if engEn old e then showEng (engMod s e (fun x => { x with run := false, pend := [] })) e 0 else s)
    else if !engEn old e || engBank old e != engBank s e then exchange old s e
    else s) s
  releaseOverrides old s

/-! ## LOAD (R479), the watchdog (R427), the mailbox (R484) -/

/-- A deck that passed CHECK names the bank and is neither cut nor back in OPEN (R479). -/
def bankNamed (s : State) (e : Nat) (b : Bool) : Bool :=
  decide (2 ≤ deckState s 0) && bitOf (prospective s 0 (engCfg e)) 31 && bitOf (prospective s 0 (engCfg e)) 30 == b

def loadCmd : Nat := crpPg + 0x180
/-- LOAD ends with STATUS `st`. -/
def loadEnd (s : State) (st : Nat) : State := fldPut (fldPut s loadCmd 31 28 st) loadCmd 27 27 0

/-- A bank receives a program, or becomes empty. -/
def putBank (s : State) (e : Nat) (b : Bool) (ws : List Nat) : State :=
  let s := engMod s e (fun x => if b then { x with bank1 := ws } else { x with bank0 := ws })
  showEng s e (engState s e)

/-- CRP_LOAD: judged, then the bank becomes empty and LOAD runs (R479). House in ROM_ONLY answers BUSY (R543). -/
def crpLoad (s : State) (r : Req) (slot e : Nat) (b : Bool) : State :=
  if !trusted s r then logAccess s crpPg r 5 true 0x180
  else if s.crp.load.isSome || fldAt s (hsePg + 0x120) 31 28 == 4 then fldPut s loadCmd 31 28 6
  else if engEn s e && engBank s e == b then fldPut s loadCmd 31 28 4
  else if bankNamed s e b then fldPut s loadCmd 31 28 5
  else
    let s := putBank (crpMod s (fun c => { c with load := some (slot, e, b2n b) })) e b []
    fldPut (fldPut s loadCmd 31 28 0) loadCmd 27 27 1

/-- LOAD_DONE: the slot is checked; the bank holds the program only where STATUS ends OK (R479). -/
def loadDone (s : State) : State :=
  match s.crp.load with
  | none => s
  | some (slot, e, b) =>
    let s := setEvt (crpMod s (fun c => { c with load := none })) crpPg 9
    match slotCheck s slot with
    | .ok ws => loadEnd (putBank (svnSeen s 3 (storeRead s (slotAddr slot + 0x3800) 0x800)) e (b == 1) ws) 0
    | .empty => loadEnd s 7
    | .badSig => loadEnd s 1
    | .svn => loadEnd s 1
    | .badHeader => loadEnd s 2
    | .badCode => loadEnd s 3

/-- CRP_WDOG_EXPIRE: an engine with no completed pass in 4 hands is stopped; nothing folds (R427). -/
def crpWdog (s : State) (e : Nat) : State :=
  if engState s e = 1 ∧ 4 ≤ (engOf s e).since then
    let inj := byIgnoring s s.safe.passOff
    let s := engMod s e (fun x => { x with run := false, pend := [], commit := [] })
    let s := faultLog (showEng s e 2) 0x16 15 0 inj
    setEvt (bump s (safPg + 0x410)) safPg 10
  else s

/-- Selector 0x0900 + e (R484). -/
def engMbox (s : State) (e : Nat) : List Word :=
  let x := engOf s e
  [BitVec.ofNat 32 (x.passes * 65536 + x.overruns), BitVec.ofNat 32 (x.applied * 65536 + x.discarded),
   BitVec.ofNat 32 (wordField ((engProg s e).getD 5 0) 15 0 * 65536 + x.recDrop), BitVec.ofNat 32 x.lastHand]

/-! ## Commands -/

/-- CROUPIER_PASS_OVERRUN (R462). -/
def execCroupierPassOverrun (e : Fin 16) (s : State) : Answer := finish (overrunPass s e.val)
/-- CRP_NOP (R468). -/
def execCrpNop (e : Fin 16) (s : State) : Answer := finish (crpStep s e.val 1 useAll (encR 0x00 0 0 0) id)
/-- CRP_HALT (R461, R472). -/
def execCrpHalt (e : Fin 16) (s : State) : Answer := finish (haltPass s e.val)
/-- CRP_MOV (R468). -/
def execCrpMov (e rd ra : Fin 16) (s : State) : Answer :=
  finish (crpStep s e.val 1 useRdRa (encR 0x02 rd.val ra.val 0) (fun x => writeG x rd.val (regG x ra.val)))
/-- CRP_MOVI (R468). -/
def execCrpMovi (e rd : Fin 16) (imm : BitVec 12) (s : State) : Answer :=
  finish (crpStep s e.val 1 useAll (encI 0x03 rd.val imm.toNat) (fun x => writeG x rd.val imm))
/-- CRP_ADD (R471). -/
def execCrpAdd (e rd ra rb : Fin 16) (s : State) : Answer :=
  finish (crpStep s e.val 1 useAll (encR 0x04 rd.val ra.val rb.val) (fun x => writeSat x rd.val ((regG x ra.val).toInt + (regG x rb.val).toInt)))
/-- CRP_SUB (R471). -/
def execCrpSub (e rd ra rb : Fin 16) (s : State) : Answer :=
  finish (crpStep s e.val 1 useAll (encR 0x05 rd.val ra.val rb.val) (fun x => writeSat x rd.val ((regG x ra.val).toInt - (regG x rb.val).toInt)))
/-- CRP_ADDM (R471). -/
def execCrpAddm (e rd ra rb : Fin 16) (s : State) : Answer :=
  finish (crpStep s e.val 1 useAll (encR 0x06 rd.val ra.val rb.val) (fun x => addMod x rd.val (regG x ra.val) (regG x rb.val)))
/-- CRP_SUBM (R471). -/
def execCrpSubm (e rd ra rb : Fin 16) (s : State) : Answer :=
  finish (crpStep s e.val 1 useAll (encR 0x07 rd.val ra.val rb.val) (fun x => subMod x rd.val (regG x ra.val) (regG x rb.val)))
/-- CRP_ADDI (R471). -/
def execCrpAddi (e rd : Fin 16) (imm : BitVec 12) (s : State) : Answer :=
  finish (crpStep s e.val 1 useAll (encI 0x08 rd.val imm.toNat) (fun x => writeSat x rd.val ((regG x rd.val).toInt + imm.toInt)))
/-- CRP_NEG (R471). -/
def execCrpNeg (e rd ra : Fin 16) (s : State) : Answer :=
  finish (crpStep s e.val 1 useRdRa (encR 0x09 rd.val ra.val 0) (fun x => writeSat x rd.val (-(regG x ra.val).toInt)))
/-- CRP_ABS (R471). -/
def execCrpAbs (e rd ra : Fin 16) (s : State) : Answer :=
  finish (crpStep s e.val 1 useRdRa (encR 0x0A rd.val ra.val 0) (fun x => writeSat x rd.val (regG x ra.val).toInt.natAbs))
/-- CRP_MUL (R471). -/
def execCrpMul (e rd ra rb : Fin 16) (s : State) : Answer :=
  finish (crpStep s e.val 2 useAll (encR 0x0B rd.val ra.val rb.val) (fun x => mulPair x rd.val (regG x ra.val) (regG x rb.val)))
/-- CRP_MULS (R471): Rd+1 is unchanged. -/
def execCrpMuls (e rd ra rb : Fin 16) (s : State) : Answer :=
  finish (crpStep s e.val 2 useAll (encR 0x0C rd.val ra.val rb.val) (fun x => writeSat x rd.val ((regG x ra.val).toInt * (regG x rb.val).toInt)))
/-- CRP_DIV (R471). -/
def execCrpDiv (e rd ra rb : Fin 16) (s : State) : Answer :=
  finish (crpStep s e.val 13 useAll (encR 0x0D rd.val ra.val rb.val) (fun x => divPair x rd.val (regG x ra.val) (regG x rb.val)))
/-- CRP_AND (R468). -/
def execCrpAnd (e rd ra rb : Fin 16) (s : State) : Answer :=
  finish (crpStep s e.val 1 useAll (encR 0x0E rd.val ra.val rb.val) (fun x => writeG x rd.val (regG x ra.val &&& regG x rb.val)))
/-- CRP_OR (R468). -/
def execCrpOr (e rd ra rb : Fin 16) (s : State) : Answer :=
  finish (crpStep s e.val 1 useAll (encR 0x0F rd.val ra.val rb.val) (fun x => writeG x rd.val (regG x ra.val ||| regG x rb.val)))
/-- CRP_XOR (R468). -/
def execCrpXor (e rd ra rb : Fin 16) (s : State) : Answer :=
  finish (crpStep s e.val 1 useAll (encR 0x10 rd.val ra.val rb.val) (fun x => writeG x rd.val (regG x ra.val ^^^ regG x rb.val)))
/-- CRP_NOT (R468). -/
def execCrpNot (e rd ra : Fin 16) (s : State) : Answer :=
  finish (crpStep s e.val 1 useRdRa (encR 0x11 rd.val ra.val 0) (fun x => writeG x rd.val (~~~regG x ra.val)))
/-- CRP_SHL (R471). -/
def execCrpShl (e rd ra rb : Fin 16) (s : State) : Answer :=
  finish (crpStep s e.val 1 useAll (encR 0x12 rd.val ra.val rb.val) (fun x => shiftG x rd.val (shl12 (regG x ra.val) (regG x rb.val).toNat)))
/-- CRP_SHR (R471). -/
def execCrpShr (e rd ra rb : Fin 16) (s : State) : Answer :=
  finish (crpStep s e.val 1 useAll (encR 0x13 rd.val ra.val rb.val) (fun x => shiftG x rd.val (shr12 (regG x ra.val) (regG x rb.val).toNat)))
/-- CRP_SAR (R471). -/
def execCrpSar (e rd ra rb : Fin 16) (s : State) : Answer :=
  finish (crpStep s e.val 1 useAll (encR 0x14 rd.val ra.val rb.val) (fun x => shiftG x rd.val (sar12 (regG x ra.val) (regG x rb.val).toNat)))
/-- CRP_CMP (R468, R470). -/
def execCrpCmp (e ra rb : Fin 16) (s : State) : Answer :=
  finish (crpStep s e.val 1 useRaRb (encR 0x15 0 ra.val rb.val) (fun x => compare x ((regG x ra.val).toInt - (regG x rb.val).toInt)))
/-- CRP_CMPI (R468, R470). -/
def execCrpCmpi (e rd : Fin 16) (imm : BitVec 12) (s : State) : Answer :=
  finish (crpStep s e.val 1 useAll (encI 0x16 rd.val imm.toNat) (fun x => compare x ((regG x rd.val).toInt - imm.toInt)))
/-- CRP_LD (R468). -/
def execCrpLd (e rd : Fin 16) (a : Fin 256) (s : State) : Answer :=
  finish (crpStep s e.val 1 useAll (encM 0x17 rd.val a.val) (fun x => writeG x rd.val (tabGet 0 x.data a.val)))
/-- CRP_ST (R468). -/
def execCrpSt (e : Fin 16) (a : Fin 256) (rd : Fin 16) (s : State) : Answer :=
  finish (crpStep s e.val 1 useAll (encM 0x18 rd.val a.val) (fun x => { x with data := tabPut 0 x.data a.val (regG x rd.val) }))
/-- CRP_LDX (R468): the low 8 bits of Ra. -/
def execCrpLdx (e rd ra : Fin 16) (s : State) : Answer :=
  finish (crpStep s e.val 1 useRdRa (encR 0x19 rd.val ra.val 0) (fun x => writeG x rd.val (tabGet 0 x.data ((regG x ra.val).toNat % 256))))
/-- CRP_STX (R468): the low 8 bits of Ra. -/
def execCrpStx (e ra rd : Fin 16) (s : State) : Answer :=
  finish (crpStep s e.val 1 useRdRa (encR 0x1A rd.val ra.val 0) (fun x => { x with data := tabPut 0 x.data ((regG x ra.val).toNat % 256) (regG x rd.val) }))
/-- CRP_IN (R463, R468). -/
def execCrpIn (e rd : Fin 16) (i : Fin 1024) (s : State) : Answer :=
  finish (crpStep s e.val 1 useAll (encM 0x1B rd.val i.val) (fun x => writeG x rd.val (portVal s i.val)))
/-- CRP_INX (R463, R468): the low 10 bits of Ra. -/
def execCrpInx (e rd ra : Fin 16) (s : State) : Answer :=
  finish (crpStep s e.val 1 useRdRa (encR 0x1C rd.val ra.val 0) (fun x => writeG x rd.val (portVal s ((regG x ra.val).toNat % 1024))))
/-- CRP_HAND (R468): hand counter [11:0] of the snapshot hand. -/
def execCrpHand (e rd : Fin 16) (s : State) : Answer :=
  finish (crpStep s e.val 1 useRd (encM 0x1D rd.val 0) (fun x => writeG x rd.val (BitVec.ofNat 12 s.crp.snapHand)))
/-- CRP_TRD (R465). -/
def execCrpTrd (e rd : Fin 16) (t : Fin 32) (s : State) : Answer :=
  finish (crpStep s e.val 1 useAll (encM 0x1E rd.val t.val) (fun x => writeG x rd.val (tabGet 0 x.timers t.val)))
/-- CRP_TSET (R465). -/
def execCrpTset (e : Fin 16) (t : Fin 32) (rd : Fin 16) (s : State) : Answer :=
  finish (crpStep s e.val 1 useAll (encM 0x1F rd.val t.val) (fun x => { x with timers := tabPut 0 x.timers t.val (regG x rd.val) }))
/-- CRP_EDGE (R466). -/
def execCrpEdge (e rd : Fin 16) (d : Fin 64) (s : State) : Answer :=
  finish (crpStep s e.val 1 useAll (encM 0x20 rd.val d.val) (fun x => writeG x rd.val (if x.edges.contains d.val then 1 else 0)))
/-- CRP_ACT (R472). -/
def execCrpAct (e : Fin 16) (a : Fin 256) (rd : Fin 16) (s : State) : Answer := finish (actStore s e.val a.val rd.val)
/-- CRP_B (R469). -/
def execCrpB (e cond : Fin 16) (target : BitVec 12) (s : State) : Answer := finish (branch s e.val cond.val target.toNat)
/-- CRP_WDOG_EXPIRE (R427). -/
def execCrpWdogExpire (e : Fin 16) (s : State) : Answer := finish (crpWdog s e.val)
/-- CRP_LOAD (R479). -/
def execCrpLoad (r : Req) (slot e : Fin 16) (bank : Bool) (s : State) : Answer := finish (crpLoad s r slot.val e.val bank)
/-- LOAD_DONE (R479). -/
def execLoadDone (s : State) : Answer := finish (loadDone s)

end Sys2Proof.Machine
end

