-- ==== Sys2Proof/Machine/Power.lean ====
section
/-! DEFINITION. Power states and votes (R486 to R498), AVS (R499 to R501), droop (R502), thermal steps (R503), sensors (R504 to
R507), LTR (R496). -/

namespace Sys2Proof.Machine

/-- Cut 0 has been applied (R575, R580). -/
def booted (s : State) : Bool := fldAt s 0x1D4 31 28 == 7

/-! ## Votes (R490 to R494) -/

/-- Seat n has work (R491); a transaction that still waits for its Talon cards is work too (R488). -/
def seatWork (s : State) (n : Nat) : Bool :=
  let fs := seatFns s n
  s.talon.held.any (fun p => fs.contains p.1) || s.xacts.any (fun x => fs.contains x.fn) ||
  (seatOf s n).tags.any (fun t => !t.2.quar) ||
  s.queues.any (fun p => fs.contains p.2.fn && decide (2 ≤ p.2.st) && (decide (p.2.tail ≠ p.2.sqHead) || !p.2.running.isEmpty)) ||
  s.intr.pool.any (fun p => fs.contains p.2.fn && p.2.pend && !p.2.mask && !(fnOf s p.2.fn).msixMsk) ||
  s.pwr.rx.any (fun p => p.1 == n && decide (s.time.toNat < p.2 + 2560))

/-- Every function of seat n is in D3 (R491). -/
def allD3 (s : State) (n : Nat) : Bool := (seatFns s n).all (fun f => (fnOf s f).d3)

/-- The scale of a latency in the specification's format: the smallest that holds it (R496). -/
def ltrScale (us : Nat) : Nat := ((List.range 6).find? (fun i => decide (us * 1000 / 32 ^ i < 1024))).getD 5
/-- The latency in ns that an LTR message states: rounded down to its scale (R496). -/
def ltrNs (us : Nat) : Nat := us * 1000 / 32 ^ ltrScale us * 32 ^ ltrScale us

/-- The vote of seat n: the first row of R491 that matches. 0 RUN, 1 IDLE, 2 SLEEP, 3 DEEP, 4 NONE (R490). -/
def seatVote (s : State) (n : Nat) : Nat :=
  let st := fldAt s (slotPg n + 0x108) 27 24
  let ltr := (seatOf s n).ltr.elim 0 ltrNs
  let l := ltssm s n
  if !seatPresent s n || !st.testBit 3 || st.testBit 0 then 4
  else if portFolded s n && !flagAt s (foldReg n) 30 then 0
  else if seatWork s n then 0
  else if l = 7 ∧ allD3 s n then 3
  else if l = 6 ∧ fldAt s (linkPg n + 0x110) 12 11 = 2 ∧ 1000000 ≤ ltr then 3
  else if l = 6 ∧ 64000 ≤ ltr then 2
  else if l = 3 ∨ l = 5 ∨ l = 6 then 1
  else 0

/-- The vote of Nicen Link k (R492). -/
def linkVote (s : State) (k : Nat) : Nat :=
  let x := linkTxOf s k
  if (linkGroups s k).isEmpty || flagAt s (lanePg (6 + k) + 0x300) 0 then 4
  else if nlkState s k = 0 then 3
  else if linkActive s k && flagAt s (nlkStat k) 9 && flagAt s (nlkStat k) 8 && x.tags.all (fun t => t.2.quar) && (physOf s k).unacked.isEmpty then 1
  else 0

/-- A request code of SW_REQ as a vote: 5 to 7 act as NONE (R508). -/
def reqVote (c : Nat) : Nat := min c 4

/-- House firmware has work that holds RUN (R493). -/
def houseWork (s : State) : Bool :=
  (List.range 7).any (fun d => deckState s d == 4 || deckBusy s d) || s.crp.load.isSome || s.store.busy.isSome || !s.store.wait.isEmpty || s.house.cmd.isSome || s.house.act.isSome

/-- The vote of House firmware (R493). -/
def houseVote (s : State) : Nat :=
  if houseWork s then 0 else min (reqVote (fldAt s (pwrPg + 0x100) 2 0)) (reqVote (fldAt s (pwrPg + 0x100) 6 4))

/-- The vote of the safety monitor (R494). -/
def monitorVote (s : State) : Nat :=
  if (List.range 11).any (fun p => portFolded s p && !flagAt s (foldReg p) 30) || flagAt s (safPg + 0x174) 0 then 0 else 4

/-- The twelve votes, by voter number (R490). -/
def votes (s : State) : List Nat :=
  (List.range 6).map (seatVote s) ++ (List.range 4).map (linkVote s) ++ [houseVote s, monitorVote s]

/-- The level the votes allow: the shallowest, and Deep sleep when every vote is NONE (R490). -/
def voteLevel (s : State) : Nat := (votes s).foldl min 3

/-- The lowest voter whose vote is shallower than `l` (R497). -/
def riser (s : State) (l : Nat) : Nat := ((List.range 12).find? (fun v => decide ((votes s).getD v 4 < l))).getD 0

/-! ## Entering (R487, R489) -/

/-- Sleep or Deep sleep is entered (R487, R489, R500). -/
def powerEnter (s : State) (st : Nat) : State :=
  let s := setEvt (bump s (pwrPg + (if st = 2 then 0x404 else 0x408))) pwrPg 8
  if st = 3 then
    let ok := flagAt s (timPg + 0x140) 24
    let s := emit (pwrMod s (fun p => { p with state := 3, entering := 0, srcOk := ok, runCmd := p.cmd, cmd := 650 })) (.pin "AVS" 650)
    if s.tim.pps = 0 then s else emit (timMod s (fun t => { t with pps := 0 })) (.pin "PPS_OUT" 0)
  else pwrMod s (fun p => { p with state := st, entering := 0 })

/-- The votes are re-evaluated at a trick boundary (R487, R490): Idle after 64 tricks, exits, an entry that stops. Off, once accepted, is
entered here, never part-way through a trick (R29, R495). -/
def powerTrick (s : State) : State :=
  let l := voteLevel s
  let p := s.pwr
  if p.state = 4 then s
  else if p.entering = 4 then pwrMod s (fun p => { p with state := 4, entering := 0 })
  else
    let s := pwrMod s (fun p => { p with idle := if l = 0 then 0 else p.idle + 1, floor := min p.floor l, entering := if l < p.entering then 0 else p.entering })
    if p.state = 0 then (if 64 ≤ s.pwr.idle then setEvt (bump (pwrMod s (fun p => { p with state := 1 })) (pwrPg + 0x400)) pwrPg 8 else s)
    else if l < p.state then powerExit s (0x1D0 + riser s p.state)
    else s

/-- Trick 0 of a hand (R487): an entry begun at the hand before completes; one begins after a whole hand at that level. -/
def powerHand (s : State) : State :=
  let p := s.pwr
  if p.state = 4 ∨ p.entering = 4 then s
  else if p.entering ≠ 0 then
    -- only while this boundary's votes still permit it (R29)
    pwrMod (if p.entering ≤ voteLevel s then powerEnter s p.entering else pwrMod s (fun q => { q with entering := 0 })) (fun p => { p with floor := 3 })
  else if 2 ≤ p.floor ∧ p.state < p.floor then pwrMod s (fun q => { q with entering := p.floor, floor := 3 })
  else pwrMod s (fun p => { p with floor := 3 })

/-- OFF written to PWR.OFF_CMD (R495, R509): once accepted, the device stops at the next trick boundary (R29). -/
def offCommand (s : State) (r : Req) : State :=
  if !trusted s r then logAccess s pwrPg r 5 true 0x104
  else if (votes s).all (fun v => v == 4) then
    let s := fldPut s (pwrPg + 0x104) 31 28 0
    pwrMod s (fun p => { p with entering := 4 })
  else fldPut s (pwrPg + 0x104) 31 28 1

/-! ## AVS (R499 to R501) -/

/-- The loop's step at trick 0 (R500): `slack` of the hand that ended, which AVS_STAT.SLACK shows also where the loop holds (R512), and `mv`,
the rail read back. -/
def avsStep (s : State) (slack mv : Nat) : State :=
  let p := s.pwr
  let c := regAt s (pwrPg + 0x110)
  let s := pwrMod s (fun q => { q with fails := if q.failed then q.fails else 0, failed := false, holdHand := false })
  if 1 < p.state ∨ p.silent ∨ p.frozen ∨ bitOf c 31 = false then pwrMod s (fun q => { q with held := true, slack := if q.state ≤ 1 then slack else q.slack })
  else if p.holdHand then bump (pwrMod s (fun q => { q with held := true, slack := slack, read := mv })) (pwrPg + 0x40C)
  else
    let st := max 1 (bits c 30 28)
    let m := bits c 7 0
    let want := if slack < m then p.cmd + st else if m + 8 < slack then p.cmd - st else p.cmd
    let v := clampTo want (clampTo (bits c 17 8) 650 850) (clampTo (bits c 27 18) 650 850)
    let s := pwrMod s (fun q => { q with held := false, slack := slack, read := mv, cmd := v })
    if v = p.cmd then s else emit s (.pin "AVS" v)

/-- AVS_TRANSACTION_FAIL: after 4 in a row the loop is frozen (R501). -/
def avsFail (s : State) : State :=
  if s.pwr.silent ∨ s.pwr.frozen then s
  else
    let s := pwrMod s (fun p => { p with fails := p.fails + 1, failed := true })
    if 4 ≤ s.pwr.fails then setEvt (pwrMod s (fun p => { p with frozen := true })) pwrPg 11 else s

/-- DROOP: a trick's cycles are stretched (R502); one that needs more overruns in its tile (R36, R264). -/
def droop (s : State) (tile : Nat) (ovr : Bool) : State :=
  let s := bump s (pwrPg + 0x410)
  let s := if s.pwr.drooped then s else setEvt s pwrPg 12
  let s := pwrMod s (fun p => { p with drooped := true, holdHand := true })
  if ovr then overrun s tile 0 false else s

/-! ## Thermal steps (R503) -/

/-- What a junction temperature code brings (R411, R498, R503): the alarm, which is a wake source, and the fold, each once for a crossing. -/
def thermal (s : State) (tj : Nat) : State :=
  let s := if 2624 ≤ tj then (if s.pwr.alarm then s else setEvt (wake (pwrMod s (fun p => { p with alarm := true })) 18) pwrPg 10)
    else if tj < 2544 then pwrMod s (fun p => { p with alarm := false }) else s
  if tj < 2752 then pwrMod s (fun p => { p with hot := false })
  else if s.pwr.hot then s
  else
    let s := pwrMod s (fun p => { p with hot := true })
    let s := if asleep s then powerExit s 0x1F2 else s
    (List.range 10).foldl lanesDown (faultTable (setErrBit s pwrPg 8) 0x0A pwrPg false)

/-- THERM_TRIP: the analog comparator at 115 °C, which does not depend on the samples (R503). -/
def thermTrip (s : State) : State :=
  if s.pins.tripN then s else emit { s with pins := { s.pins with tripN := true } } (.pin "THERM_TRIP_N" 0)

/-! ## Sensors (R504 to R507, R514) -/

def chanOf (s : State) (c : Nat) : Chan := tabGet Chan.idle s.sens c
/-- `SNS.CH_CFG[c]`. -/
def chCfg (s : State) (c : Nat) : Word := regAt s (snsPg + 0x100 + 4 * c)
/-- LO and HI codes of an input in µV (R505). -/
def loCode (uv : Nat) : Nat := min 4095 (uv / 244)
def hiCode (uv : Nat) : Nat := min 4095 (uv / 488)
/-- NORM of a code in a range (R505). -/
def normOf (hi : Bool) (c : Nat) : Nat := if hi then c else c / 2

/-- Minimum and maximum take one conversion (R507). -/
def capture (x : Chan) (code norm : Nat) : Chan :=
  if code = 0 ∨ code = 4095 then x else { x with min := min x.min norm, max := max x.max norm }

/-- A SAMPLE word (R514). -/
def sampleWord (sw hi : Bool) (norm code : Nat) : Word :=
  setBits (setBits (setBit (setBit (setBit (setBit 0 31 sw) 30 hi) 29 (code == 4095)) 28 true) 23 12 norm) 11 0 code

/-- The sample's word and NORM are kept. -/
def keepSample (x : Chan) (sw hi : Bool) (norm code : Nat) : Chan :=
  { x with word := sampleWord sw hi norm code, last4 := (norm :: x.last4).take 4 }

/-- A voltage channel samples `uv` (R505, R506): mode 0 AUTO, 1 LO, 2 HI, 3 off. -/
def sampleVolt (x : Chan) (mode uv : Nat) : Chan :=
  let lo := loCode uv
  let hi := hiCode uv
  match mode with
  | 1 => keepSample (capture { x with hi := false, left := 0 } lo (lo / 2)) false false (lo / 2) lo
  | 2 => keepSample (capture { x with hi := true, left := 0 } hi hi) false true hi hi
  | 3 => { x with word := 0, left := 0 }
  | _ =>
    let opens := x.left == 0 && (if x.hi then decide (hi < 1945) else decide (3890 < lo))
    let left := if opens then 4 else x.left
    if left = 0 then
      let c := if x.hi then hi else lo
      keepSample (capture x c (normOf x.hi c)) false x.hi (normOf x.hi c) c
    else
      let inBand (c : Nat) : Bool := decide (205 ≤ c ∧ c ≤ 3890)
      let useHi := if inBand lo then false else if inBand hi then true else !decide (lo < 205)
      let c := if useHi then hi else lo
      let x := capture (capture { x with left := left - 1, hi := useHi } lo (lo / 2)) hi hi
      keepSample x true useHi (normOf useHi c) c

/-- Channel c samples: a clear that waits acts first; then the alarm limits (R505, R507, R514). -/
def sampleChan (s : State) (c v : Nat) : State :=
  let x := chanOf s c
  let x := if x.clear then { x with min := 4095, max := 0, clear := false } else x
  let y := if c < 6 then let t := min 4095 v; keepSample (capture x t t) false false t t else sampleVolt x (bits (chCfg s c) 31 30) v
  let s := { s with sens := tabPut Chan.idle s.sens c y }
  let norm := bits y.word 23 12
  let out := bitOf y.word 28 && (decide (bits (chCfg s c) 27 16 < norm) || decide (norm < bits (chCfg s c) 11 0))
  let was := flagAt s (snsPg + 0x1C4) c
  let s := if out then hwSetBits s (snsPg + 0x1C4) (maskOf c c) else s
  let s := if out && !was then setEvt s snsPg 8 else s
  if (c = 6 ∨ c = 15) ∧ bitOf y.word 31 then pwrMod s (fun p => { p with holdHand := true }) else s

/-- SENSOR_ROUND: each channel samples in its slot; then the thermal steps (R503, R505). Inputs: temperature codes for channels 0 to 5,
µV for the others. In Off nothing samples (R486). -/
def sensorRound (s : State) (xs : List Nat) : State :=
  if isOff s then s
  else
    let s := (List.range 16).foldl (fun s c => sampleChan s c (xs.getD c 0)) s
    thermal s (((List.range 6).map (fun c => bits (chanOf s c).word 11 0)).foldl max 0)

/-- A write of SNS.MINMAX_CLR: the chosen captures reset at the next round (R507). -/
def minmaxClear (s : State) (m : BitVec 16) : State :=
  (List.range 16).foldl (fun s c => if m.getLsbD c then { s with sens := tabMod Chan.idle s.sens c (fun x => { x with clear := true }) } else s) s

/-- Selector 0x0B00 + c (R515). -/
def chanMbox (s : State) (c : Nat) : List Word :=
  let x := chanOf s c
  [BitVec.ofNat 32 x.min, BitVec.ofNat 32 x.max, x.word, BitVec.ofNat 32 (handNo s)]

/-! ## LTR (R496) -/

/-- A latency in the specification's value and scale format, with the smallest scale that holds it, rounded down. -/
def ltrCode (us : Nat) : Nat := 32768 + ltrScale us * 1024 + us * 1000 / 32 ^ ltrScale us

/-- The LTR of seat n, when its value has changed (R496): once the link carries TLPs. -/
def ltrStep (s : State) (n : Nat) : State :=
  if bitOf (cfgAt s n 0x78) 10 && dlUp s n then
    if !portSends s n then s else
    let us := if seatVote s n = 0 then fldAt s (pwrPg + 0x108) 15 0 else fldAt s (pwrPg + 0x108) 31 16
    if (seatOf s n).ltr = some us then s
    else sendTlp (seatMod s n (fun x => { x with ltr := some us })) n { tlp0 .msg n 0 4 with status := 0x10, data := natLe 2 (ltrCode us) ++ natLe 2 (ltrCode us) }
  else seatMod s n (fun x => { x with ltr := none })

/-- Words of PWR.STATE, VOTES0, VOTES1 and AVS_STAT (R512). -/
def pwrWords (s : State) : List Word :=
  let v := votes s
  let pack (l : List Nat) : Nat := l.foldr (fun x a => x + 16 * a) 0
  let p := s.pwr
  [BitVec.ofNat 32 (p.state * 2 ^ 29 + b2n (p.entering != 0) * 2 ^ 28), BitVec.ofNat 32 (pack (v.take 8)), BitVec.ofNat 32 (pack (v.drop 8)),
   setBits (setBits (setBit (setBit (setBit (setBits 0 31 22 p.cmd) 11 p.silent) 10 p.frozen) 9 p.held) 21 12 p.read) 7 0 p.slack]

/-- Selector 0x0A00, LAST_WAKE (R497, R513). -/
def wakeMbox (s : State) : List Word :=
  let (t, src, left, h) := s.pwr.wake
  [BitVec.ofNat 32 t, BitVec.ofNat 32 (t / 2 ^ 32), BitVec.ofNat 32 (src * 2 ^ 20 + left * 65536), BitVec.ofNat 32 h]

/-! ## Commands -/

/-- WAKE (R411, R497). -/
def execWake (w : Fin 19) (s : State) : Answer := finish (wake s w.val)
/-- OFF_COMMAND (R495). -/
def execOffCommand (r : Req) (s : State) : Answer := finish (offCommand s r)
/-- DROOP (R502). -/
def execDroop (tile : Fin 12) (ovr : Bool) (s : State) : Answer := finish (droop s tile.val ovr)
/-- SENSOR_ROUND (R505). -/
def execSensorRound (xs : List Nat) (s : State) : Answer := finish (sensorRound s xs)
/-- THERM_TRIP (R503). -/
def execThermTrip (s : State) : Answer := finish (thermTrip s)
/-- MINMAX_CLEAR (R507): any requester may write the register. -/
def execMinmaxClear (_r : Req) (mask : BitVec 16) (s : State) : Answer := finish (minmaxClear s mask)
/-- AVS_TRANSACTION_FAIL (R501). -/
def execAvsTransactionFail (s : State) : Answer := finish (avsFail s)

end Sys2Proof.Machine
end

