-- ==== Sys2Proof/Machine/Store.lean ====
section
/-! DEFINITION. The persistent store's commands, the hold-up check and the write batches (R516 to R523), power failure (R524, R525),
records and the fault ring (R526, R527). -/

namespace Sys2Proof.Machine

/-! ## The hold-up check (R520) -/

/-- E in µJ, rounded down: ½ · C · (V² − Vmin²) · η, from the lowest of the last four samples of channel 13; 0 when negative, and
while the channel has no sample. -/
def holdupE (s : State) : Nat :=
  let c := fldAt s (pstPg + 0x100) 19 0
  let vmin := fldAt s (pstPg + 0x104) 31 16
  let ratio := fldAt s (pstPg + 0x104) 15 0
  let eta := fldAt s (pstPg + 0x108) 6 0
  let norm := match (chanOf s 13).last4 with
    | [] => 0
    | x :: l => l.foldl min x
  let v := norm * 488 * ratio
  c * eta * (v * v - vmin * vmin * 256000 * 256000) / (2000 * 1000000 * 256000 * 256000)

/-- E_need in µJ, rounded up, for a window of `k` granules: 6 W × (6.5 µs × k ÷ 1,024 + 20 µs) (R517, R520). -/
def holdupNeed (k : Nat) : Nat := 120 + (39 * k + 1023) / 1024

/-- The check of a batch of `k` granules: HOLDUP_STAT takes E and E_need (R520, R522, R538). Passes under BYPASS without it. -/
def holdup (s : State) (k : Nat) : Bool × State :=
  if flagAt s (pstPg + 0x108) 8 then (true, s)
  else
    let e := holdupE s
    let s := regPut (storeMod s (fun x => { x with lastE := e })) (pstPg + 0x140)
      (BitVec.ofNat 32 (satNat 65535 e * 65536 + satNat 65535 (holdupNeed k)))
    (decide (holdupNeed k ≤ e), s)

/-- A higher SVN that waits is fused with a batch that passes its check (R534). -/
def fuseSvn (s : State) : State :=
  let v := (List.range 3).map (fun i => max (s.lcs.svn.getD i 0) (s.lcs.svnNext.getD i 0))
  let s := { s with lcs := { s.lcs with svn := v } }
  (List.range 3).foldl (fun s i => regPut s (lcsPg + 0x110 + 4 * i) (BitVec.ofNat 32 (v.getD i 0))) s

/-! ## Records (R526, R527) -/

/-- Bytes of a record of `len` bytes: the header, the body padded with 0, the CRC over the whole (R526). -/
def ringBytes (kind seq time hand len : Nat) (body : List Byte) : List Byte :=
  let head (crc : Word) : List Byte :=
    natLe 2 0x5AC3 ++ natLe 1 kind ++ natLe 1 1 ++ natLe 4 len ++ natLe 4 seq ++ natLe 4 0 ++ natLe 8 time ++ natLe 4 hand ++ wordBytes crc
  let rest := (body ++ List.replicate (len - 32) 0#8).take (len - 32)
  head (crcBytes (head 0 ++ rest)) ++ rest

/-- HEAD of the ring, in granules; where a record of `len` bytes goes (R527). -/
def ringHead (s : State) : Nat := fldAt s (pstPg + 0x144) 14 0
def ringPlace (s : State) (len : Nat) : Nat := if 32768 < ringHead s + len / 64 then 0 else ringHead s

/-- SEQ of the next record. -/
def ringSeq (s : State) : Nat := ((regAt s (pstPg + 0x148)).toNat + 1) % 2 ^ 32

/-- A record has been written at granule `g`: HEAD and SEQ (R527, R538). -/
def ringDone (s : State) (g len : Nat) : State :=
  regPut (regPut s (pstPg + 0x144) (BitVec.ofNat 32 ((g + len / 64) % 32768))) (pstPg + 0x148) (BitVec.ofNat 32 (ringSeq s))

/-- A record that waits its turn; its place and its bytes are settled when its batch starts. -/
def ringAsk (r : Rec) : Batch := { who := .ring, addr := 0, data := [], rec_ := some r }
/-- The batch that writes a record now. -/
def ringBatch (s : State) (r : Rec) : Batch :=
  { ringAsk r with addr := 0x210000 + 64 * ringPlace s r.len, data := ringBytes r.kind (ringSeq s) r.time r.hand r.len (r.body.flatMap wordBytes) }

/-- A record is dropped (R521, R524, R577); one of a RECORD action is counted for its engine too (R473, R484). -/
def dropRec (s : State) (r : Rec) : State :=
  let s := bump s (pstPg + 0x204)
  if r.kind = 3 then engMod s (bits (r.body.getD 0 0) 7 0) (fun x => { x with recDrop := sat16 x.recDrop }) else s

/-! ## Batches (R517, R521) -/

def pstCmd : Nat := pstPg + 0x114
/-- PST.CMD ends with STATUS `st` (R518). -/
def pstEnd (s : State) (st : Nat) : State := fldPut (fldPut s pstCmd 31 28 st) pstCmd 27 27 0

/-- SAVE ends without its copy: DEFERRED_HOLDUP (R106, R521). -/
def saveDeferred (s : State) : State := deckReport (deckUnbusy (storeMod s (fun x => { x with save := none })) 0) 0 7 3 0 0 0 0

/-- What a batch whose check failed, or that is not started in shed mode, ends with (R521, R524, R537). -/
def batchRefused (s : State) (b : Batch) (st : Nat) : State :=
  match b.who with
  | .pst => pstEnd s st
  | .save => saveDeferred s
  | .ring => match b.rec_ with
    | some r => dropRec s r
    | none => s
  | .crp => { s with house := { s.house with status := 0xF } }
  | .lcs => s
  | .final => s

/-- A batch is checked and, if it passes, is being written (R520, R521). A store that failed to initialise takes no record (R577). -/
def startBatch (s : State) (b : Batch) : State :=
  let go (s : State) (b : Batch) : State :=
    let (ok, s) := holdup s ((b.data.length + 63) / 64)
    let s := if ok && b.who == .crp then slotBegin s b.addr else s
    if ok then storeMod (fuseSvn s) (fun x => { x with busy := some b })
    else batchRefused (setEvt (bump s (pstPg + 0x200)) pstPg 8) b 1
  match b.rec_ with
  | some r => if s.store.ready then go s (ringBatch s r) else dropRec s r
  | none => go s b

/-- What waits to be written ends unstarted (R524, R537). -/
def refuseQueued (s : State) : State :=
  s.recs.foldl dropRec (s.store.wait.foldl (fun s b => batchRefused s b 7) (storeMod { s with recs := [] } (fun x => { x with wait := [] })))

/-- The next batch starts when none is being written, in the order of request: those in `wait`, then the records queued since (R517, R537).
In shed mode none starts; before cut 0 a store that is not initialised keeps its records waiting (R524, R577). -/
def pumpStore (s : State) : State :=
  if s.store.busy.isSome then s
  else if s.boot.shed then refuseQueued s
  else match s.store.wait, s.recs with
  | b :: l, _ => startBatch (storeMod s (fun x => { x with wait := l })) b
  | [], r :: l => if s.store.ready || booted s then startBatch { s with recs := l } (ringAsk r) else s
  | [], [] => s

/-- A batch is asked for (R537): behind the records queued before it. -/
def askBatch (s : State) (b : Batch) : State :=
  pumpStore (storeMod { s with recs := [] } (fun x => { x with wait := x.wait ++ s.recs.map ringAsk ++ [b] }))

/-- The next batch of a SAVE, or its end (R106, R522). -/
def saveNext (s : State) : State :=
  match s.store.save with
  | some (c, (a, d) :: l) => askBatch (storeMod s (fun x => { x with save := some (c, l) })) { who := .save, addr := a, data := d, rec_ := none }
  | some (_, []) => deckOk (deckUnbusy (storeMod s (fun x => { x with save := none })) 0) 0 7
  | none => s

/-- PST_BATCH_DONE: the batch's granules are written; what asked for it goes on; the next one starts (R517, R519, R524). -/
def batchDone (s : State) : State :=
  match s.store.busy with
  | none => s
  | some b =>
    let s := bump (storeMod (storeWrite s b.addr b.data) (fun x => { x with busy := none })) (pstPg + 0x20C)
    let s := match b.who with
      | .pst => pstEnd s 0
      | .save => saveNext s
      | .ring => ringDone s ((b.addr - 0x210000) / 64) b.data.length
      | .crp => slotWritten s b.addr
      | .lcs | .final => s
    pumpStore s

/-! ## PST.CMD (R518, R519) -/

/-- Start and size of a REGION: customer area, fault ring, calibration, power-on decks (R516, R518). -/
def regionAt (r : Nat) : Nat × Nat :=
  match r with
  | 0 => (0x490000, 0x370000)
  | 1 => (0x210000, 0x200000)
  | 2 => (0x450000, 0x10000)
  | _ => (0x010000, 0x200000)

/-- The status a command is refused with; 0 for none (R519, R524, R577). -/
def pstRefusal (s : State) (write : Bool) (region len : Nat) : Nat :=
  let (_, size) := regionAt region
  if s.boot.shed then 7
  else if size < 64 * (fldAt s (pstPg + 0x110) 21 6 + len + 1) then 2
  else if write ∧ region ≠ 0 then 5
  else if s.lcs.fuse = 5 ∨ (s.lcs.fuse = 4 ∧ region ≤ 1) then 6
  else if !s.store.ready then 3
  else 0

/-- LEN and REGION are kept in the register, also where the command is refused. -/
def pstSet (s : State) (len region : Nat) : State := freshPar (fldPut (fldPut s pstCmd 11 8 len) pstCmd 5 4 region) pstCmd
/-- Store offset of the command's first granule. -/
def pstAddr (s : State) (region : Nat) : Nat := (regionAt region).1 + 64 * fldAt s (pstPg + 0x110) 21 6

/-- PST.BUF takes bytes from word 0 on (R518). -/
def bufPut (s : State) (base : Nat) : List Byte → Nat → State
  | a :: b :: c :: d :: l, i => bufPut (regPut s (base + 4 * i) (BitVec.ofNat 32 (leNat [a, b, c, d]))) base l (i + 1)
  | _, _ => s
/-- `n` words of a buffer, as bytes. -/
def bufGet (s : State) (base n : Nat) : List Byte := (List.range n).flatMap (fun i => wordBytes (regAt s (base + 4 * i)))

/-- PST_READ: granules move from the store to PST.BUF (R519). `corr` granules needed a correction; `bad`: one was uncorrectable (R517). -/
def pstRead (s : State) (r : Req) (len region corr : Nat) (bad : Bool) : State :=
  if !trusted s r then logAccess s pstPg r 5 true 0x114
  else if flagAt s pstCmd 27 then fldPut (pstSet s len region) pstCmd 31 28 4
  else
    let st := pstRefusal s false region len
    let s := pstSet s len region
    if st ≠ 0 then fldPut s pstCmd 31 28 st
    else
      let s := bumpBy s (pstPg + 0x208) (min corr (len + 1))
      if bad then raiseErr (fldPut s pstCmd 31 28 3) pstPg 8
      else fldPut (bufPut s (pstPg + 0x400) (storeRead s (pstAddr s region) (64 * (len + 1))) 0) pstCmd 31 28 0

/-- PST_WRITE: a batch of the customer area (R519). -/
def pstWrite (s : State) (r : Req) (len region : Nat) : State :=
  if !trusted s r then logAccess s pstPg r 5 true 0x114
  else if flagAt s pstCmd 27 then fldPut (pstSet s len region) pstCmd 31 28 4
  else
    let st := pstRefusal s true region len
    let s := pstSet s len region
    if st ≠ 0 then fldPut s pstCmd 31 28 st
    else
      let s := fldPut (fldPut s pstCmd 31 28 0) pstCmd 27 27 1
      askBatch s { who := .pst, addr := pstAddr s region, data := bufGet s (pstPg + 0x400) (16 * (len + 1)), rec_ := none }

/-! ## Power failure (R524, R525) -/

/-- The body of the POWER_FAIL record, from byte 0x20 (R525). -/
def failBody (s : State) : List Byte :=
  let w := (pwrWords s).take 3 ++ [foldStat s, regAt s (safPg + 0x104), regAt s (safPg + 0x108)] ++
    (List.range 11).map (fun p => regAt s (foldReg p)) ++ [regAt s 0x180, s.activeId] ++
    (List.range 10).map (fun p => regAt s (linkPg p + 0x110)) ++ (List.range 16).map (fun c => (chanOf s c).word) ++
    [BitVec.ofNat 32 s.store.lastE]
  let head := (w.flatMap wordBytes ++ List.replicate 0xE0 0#8).take 0xE0
  head ++ s.trace.flatMap (fun e => natLe 8 e.1 ++ natLe 4 e.2.1 ++ natLe 4 e.2.2)

/-- POWER_FAIL: PWR_FAIL_N is asserted (R524, R590): the table folds, shed mode begins, the final record is due. -/
def powerFail (s : State) : State :=
  if isOff s ∨ s.boot.shed then s
  else
    let body := failBody s
    let len := if s.pwr.state = 3 then 256 else 4096
    let due := if s.store.ready then some (len, s.time.toNat, handNo s, body) else none
    let s := faultTable s 0x0B 0 false
    let s := setEvt s pstPg 9
    let s := refuseQueued (storeMod { s with boot := { s.boot with shed := true } } (fun x => { x with final := due }))
    { s with crp := { s.crp with engs := s.crp.engs.map (fun p => (p.1, { p.2 with run := false, pend := [] })) } }

/-- POWER_FAIL_RECORD: the final record is committed once no batch is being written (R524, R525). -/
def powerFailRecord (s : State) : State :=
  match s.store.final, s.store.busy with
  | some (len, t, h, body), none =>
    let g := ringPlace s len
    let s := storeWrite s (0x210000 + 64 * g) (ringBytes 2 (ringSeq s) t h len body)
    ringDone (storeMod s (fun x => { x with final := none })) g len
  | _, _ => s

/-! ## Commands -/

/-- PST_READ (R519). -/
def execPstRead (r : Req) (len : Fin 16) (region : Fin 4) (corr : Nat) (bad : Bool) (s : State) : Answer :=
  finish (pstRead s r len.val region.val corr bad)
/-- PST_WRITE (R519). -/
def execPstWrite (r : Req) (len : Fin 16) (region : Fin 4) (s : State) : Answer := finish (pstWrite s r len.val region.val)
/-- PST_BATCH_DONE (R517). -/
def execPstBatchDone (s : State) : Answer := finish (batchDone s)
/-- POWER_FAIL (R524). -/
def execPowerFail (s : State) : Answer := finish (powerFail s)
/-- POWER_FAIL_RECORD (R525). -/
def execPowerFailRecord (s : State) : Answer := finish (powerFailRecord s)

end Sys2Proof.Machine
end

