-- ==== Sys2Proof/Machine/Security.lean ====
section
/-! DEFINITION. Life cycle (R528 to R532), SPDM and IDE key management (R535, R536). -/

namespace Sys2Proof.Machine

def lcsMod (s : State) (g : LifeCycle → LifeCycle) : State := { s with lcs := g s.lcs }
def lcsCmd : Nat := lcsPg + 0x104
/-- LCS.CMD ends with STATUS `st` (R532). -/
def lcsEnd (s : State) (st : Nat) : State := fldPut s lcsCmd 31 28 st

/-! ## Tokens (R530) -/

/-- The first 256 bytes of PST.BUF. -/
def tokenBytes (s : State) : List Byte := bufGet s (pstPg + 0x400) 64

/-- Everything R530 asks of a token but that the lockout is open: layout, UID, NONCE, signature. `type` 1 debug, 2 return. -/
def tokenOk (s : State) (type : Nat) : Bool :=
  let t := tokenBytes s
  let dur := numAt t 0x28 2
  numAt t 0 4 == 0x544B4E31 && numAt t 4 1 == type && numAt t 5 3 == 0 && numAt t 8 16 == Config.uid % 2 ^ 128 &&
  numAt t 0x18 16 == Config.nonce s.lcs.nonce % 2 ^ 128 && (if type = 1 then decide (1 ≤ dur) else dur == 0) &&
  numAt t 0x2A 0x76 == 0 && !s.lcs.revoked && Config.tokenSigned s.lcs.owner t

/-- A token command is judged: STATUS, 0 when the token is accepted. NONCE changes either way (R530). -/
def tokenJudge (s : State) (type : Nat) : Nat × State :=
  let s' := lcsMod s (fun l => { l with nonce := l.nonce + 1 })
  if 8 ≤ s.lcs.fails then (5, s')
  else if tokenOk s type then (0, s')
  else (2, lcsMod s' (fun l => { l with fails := l.fails + 1 }))

/-- The first 8 bytes of the token's SHA-384, which another document defines: an open value. -/
def tokenHash (s : State) : List Word × State :=
  let (a, s) := freshFree s
  let (b, s) := freshFree s
  ([BitVec.ofNat 32 (Config.freeValue a), BitVec.ofNat 32 (Config.freeValue b)], s)

/-! ## Transitions (R529) -/

/-- A LIFE_CYCLE record: state left, state entered, transition code, token hash (R526). -/
def lifeRec (s : State) (left to_ code : Nat) (h : List Word) : State :=
  putRec s 4 64 (BitVec.ofNat 32 (left + 256 * to_ + 65536 * code) :: h)

/-- The fuses of a judged transition are blown, under the hold-up check; it awaits the next reset (R529). -/
def lcsBlow (s : State) (to_ code : Nat) (h : List Word) : State :=
  let (ok, s) := holdup s 1024
  if s.boot.shed || !ok then lcsEnd (if ok then s else setEvt (bump s (pstPg + 0x200)) pstPg 8) 3
  else
    let left := s.lcs.fuse
    let s := lcsMod (fuseSvn s) (fun l => { l with next := to_ })
    lifeRec (lcsEnd (fldPut s (lcsPg + 0x100) 27 27 1) 0) left to_ code h

/-- LCS.CMD is honoured for MGMT and the button PF; a pending transition ends it with BUSY (R529). -/
def lcsCommand (s : State) (r : Req) (f : State → State) : State :=
  if !(fromButton s r || r.code.val == 6) then logAccess s lcsPg r 5 true 0x104
  else if s.lcs.next ≠ 0 then lcsEnd s 4
  else f s

/-- PROVISION: MAKER to OWNED, with the owner root hash of PST.BUF (R529). -/
def provision (s : State) : State :=
  if s.lcs.fuse ≠ 1 then lcsEnd s 1
  else
    let h := bufGet s (pstPg + 0x400) 12
    let t := lcsBlow s 2 1 []
    if t.lcs.next = 2 then lcsMod t (fun l => { l with owner := h }) else t

/-- CLOSE: OWNED to FIELD. -/
def closePart (s : State) : State := if s.lcs.fuse ≠ 2 then lcsEnd s 1 else lcsBlow s 3 2 []

/-- RETURN: FIELD to RETURN, with a return token. -/
def returnPart (s : State) : State :=
  if s.lcs.fuse ≠ 3 then lcsEnd s 1
  else
    let (h, s) := tokenHash s
    let (st, s) := tokenJudge s 2
    if st ≠ 0 then lcsEnd s st else lcsBlow s 4 3 h

/-- SCRAP: from any state, with CONFIRM 0xA5C; without it the command names no row. -/
def scrapPart (s : State) : State := if fldAt s lcsCmd 15 4 ≠ 0xA5C then lcsEnd s 1 else lcsBlow s 5 4 []

/-- DEBUG: FIELD, with a debug token; no state changes, so no fuse and no reset is awaited (R529, R530). -/
def debugPart (s : State) : State :=
  if s.lcs.fuse ≠ 3 then lcsEnd s 1
  else
    let d := numAt (tokenBytes s) 0x28 2
    let (st, s) := tokenJudge s 1
    if st ≠ 0 then lcsEnd s st
    else lcsEnd (fldPut (lcsMod s (fun l => { l with debugLeft := some d })) (lcsPg + 0x100) 26 26 1) 0

/-- A rubber has passed: a debug token has one less left (R530). -/
def debugRubber (s : State) : State := lcsMod s (fun l => { l with debugLeft := l.debugLeft.map (fun n => n - 1) })

/-- DEBUG_TOKEN_EXPIRE: its rubbers have passed (R530). -/
def debugExpire (s : State) : State :=
  if s.lcs.debugLeft = some 0 then fldPut (lcsMod s (fun l => { l with debugLeft := none })) (lcsPg + 0x100) 26 26 0 else s

/-! ## IDE_KM (R169, R536) -/

/-- Index of a sub-stream and direction; of a key in a set. -/
def ideSlot (k : IdeKey) : Nat := k.sub.val * 2 + k.dir.val
def ideKeyNo (k : IdeKey) : Nat := k.set.val * 8 + ideSlot k
def ideOf (s : State) (n : Nat) (t : Nat) : IdeStream := tabGet IdeStream.none_ (seatOf s n).ide t
def ideMod (s : State) (n t : Nat) (g : IdeStream → IdeStream) : State := seatMod s n (fun x => { x with ide := tabMod IdeStream.none_ x.ide t g })

/-- The message comes inside a secure session on PF n (R536). In SCRAP there is none (R528). -/
def inSession (s : State) (n session : Nat) : Bool := (seatOf s n).sessions.contains session && s.lcs.fuse != 5

/-- IDE_KM QUERY: the streams and the key sets they hold are reported; keys are not (R169, R536). -/
def ideQuery (s : State) (n session : Nat) : State :=
  if inSession s n session then emit s (.mgmt "IDE_KM QUERY_RESP" (n :: (List.range 9).map (fun t => b2n (ideOf s n t).secure))) else s

/-- IDE_KM KEY_PROG: a key is taken unless its set is in use in that direction (R536). -/
def ideKeyProg (s : State) (n session : Nat) (k : IdeKey) (key : Nat) : State :=
  if !inSession s n session then s
  else
    let x := ideOf s n k.stream.val
    if tabGet 0 x.active (ideSlot k) = k.set.val + 1 then emit s (.mgmt "IDE_KM KP_ACK" [n, k.stream.val, 1])
    else emit (ideMod s n k.stream.val (fun x => { x with keys := tabIns x.keys (ideKeyNo k) key, stale := setDel (ideKeyNo k) x.stale })) (.mgmt "IDE_KM KP_ACK" [n, k.stream.val, 0])

/-- A stream is Secure while every sub-stream uses a key set in both directions. -/
def ideShow (s : State) (n t : Nat) : State :=
  ideMod s n t (fun x => { x with secure := (List.range 6).all (fun i => tabGet 0 x.active i != 0) })

/-- IDE_KM K_SET_GO: the sub-stream and direction use the named key set, unless a failed check has spent its key; a switch is counted
and reported (R169, R170, R175, R176). -/
def ideSetGo (s : State) (n session : Nat) (k : IdeKey) : State :=
  let x := ideOf s n k.stream.val
  if !inSession s n session || !x.keys.any (fun p => p.1 == ideKeyNo k) || x.stale.contains (ideKeyNo k) then s
  else
    let switched := tabGet 0 x.active (ideSlot k) != 0 && tabGet 0 x.active (ideSlot k) != k.set.val + 1
    let s := ideShow (ideMod s n k.stream.val (fun x => { x with active := tabPut 0 x.active (ideSlot k) (k.set.val + 1) })) n k.stream.val
    let s := if switched then setEvt (bump s (idePg n + 0x404)) (idePg n) 9 else s
    emit s (.mgmt "IDE_KM K_GOSTOP_ACK" [n, k.stream.val])

/-- IDE_KM K_SET_STOP: the key set is in use no more and its key is gone; the stream is Insecure (R169, R536). -/
def ideSetStop (s : State) (n session : Nat) (k : IdeKey) : State :=
  if !inSession s n session then s
  else
    let s := ideMod s n k.stream.val (fun x => { x with
      active := if tabGet 0 x.active (ideSlot k) = k.set.val + 1 then tabDel x.active (ideSlot k) else x.active, keys := tabDel x.keys (ideKeyNo k), stale := setDel (ideKeyNo k) x.stale })
    emit (ideShow s n k.stream.val) (.mgmt "IDE_KM K_GOSTOP_ACK" [n, k.stream.val])

/-! ## DOE and SPDM (R535) -/

/-- Certificate slots of the life-cycle state (R528). -/
def certSlot (s : State) (i : Nat) : Bool := i == 0 || (i == 1 && (s.lcs.fuse == 2 || s.lcs.fuse == 3))

/-- The session number that KEY_EX opens: the lower of two (R535). -/
def freeSession (l : List Nat) : Option Nat := if !l.contains 0 then some 0 else if !l.contains 1 then some 1 else none

/-- What a measurement covers, as far as the manual names it (R535). -/
def measured (s : State) (i : Nat) : List Nat :=
  match i with
  | 2 => [fldAt s (hsePg + 0x120) 27 27, fldAt s (hsePg + 0x120) 23 8]
  | 3 => [s.house.lane]
  | 4 => [s.activeId.toNat, (regAt s 0x180).toNat]
  | 5 => (List.range 16).map (fun e => b2n (engBank s e))
  | 6 => [s.lcs.fuse]
  | _ => []

/-- A request on PF n's DOE mailbox is answered (R535, R536). The contents of a response are the SPDM specification's. -/
def spdm (s : State) (n : Nat) (q : Spdm) : State :=
  let x := seatOf s n
  let say (what : String) (l : List Nat) : State := emit s (.mgmt what (n :: l))
  let no : State := say "SPDM ERROR" []
  let within (i : Nat) (what : String) : State := if x.sessions.contains i then say what [i] else no
  if !seatPresent s n then s
  else if s.lcs.fuse = 5 then no
  else match q with
  | .discovery => say "DOE DISCOVERY" [0, 1, 2]
  | .version => say "SPDM VERSION" [0x13, 0x12]
  | .capabilities => say "SPDM CAPABILITIES" []
  | .algorithms => say "SPDM ALGORITHMS" []
  | .digests => say "SPDM DIGESTS" ((List.range 2).filter (certSlot s))
  | .certificate i => if certSlot s i.val then say "SPDM CERTIFICATE" [i.val] else no
  | .challenge i => if certSlot s i.val then say "SPDM CHALLENGE_AUTH" [i.val] else no
  | .measurements i signed => if 1 ≤ i.val ∧ i.val ≤ 6 then say "SPDM MEASUREMENTS" (i.val :: b2n signed :: measured s i.val) else no
  | .keyExchange i =>
    match certSlot s i.val, freeSession x.sessions with
    | true, some j => emit (seatMod s n (fun x => { x with sessions := setIns j x.sessions })) (.mgmt "SPDM KEY_EXCHANGE_RSP" [n, j])
    | _, _ => no
  | .finishSession i => within i "SPDM FINISH_RSP"
  | .heartbeat i => within i "SPDM HEARTBEAT_ACK"
  | .keyUpdate i => within i "SPDM KEY_UPDATE_ACK"
  | .endSession i =>
    if x.sessions.contains i then emit (seatMod s n (fun x => { x with sessions := setDel i x.sessions })) (.mgmt "SPDM END_SESSION_ACK" [n, i]) else no
  | .other _ => no

/-! ### The DOE mailbox's registers (R184, R535). PRESUMED: their layout and the form of data objects, the PCI Express specification. -/

def doeMod (s : State) (n : Nat) (g : Doe → Doe) : State := seatMod s n (fun x => { x with doe := g x.doe })

/-- A response is ready: Data Object Ready; with Interrupt Enable, vector 0 of the PF (R185). -/
def doeReply (s : State) (n : Nat) (ws : List Word) : State :=
  let on := bitOf (cfgAt s n 0x1E0) 1
  let s := doeMod s n (fun x => { x with out := ws, busy := none, irq := x.irq || on })
  if on then fire s n 0 else s

/-- The data objects: DOE Discovery, CMA/SPDM, Secured CMA/SPDM. -/
def doeDiscovery (i : Nat) : Word :=
  if 2 < i then BitVec.ofNat 32 0xFFFF else BitVec.ofNat 32 (1 + i * 2 ^ 16 + (if i = 2 then 0 else i + 1) * 2 ^ 24)

/-- Go: the data object is taken. Discovery is answered at once; firmware works on the others, until an SPDM_REQUEST says what one asks; one of
another type is discarded; one whose length is not its own ends in Error. -/
def doeGo (s : State) (n : Nat) : State :=
  let d := (seatOf s n).doe
  let s := doeMod s n (fun x => { x with inp := [] })
  match d.inp, d.busy with
  | a :: b :: r, none =>
    if bits b 17 0 ≠ d.inp.length then doeMod s n (fun x => { x with err := true })
    else if bits a 15 0 ≠ 1 ∨ 2 < bits a 23 16 then s
    else if bits a 23 16 = 0 then doeReply s n [1#32, 3#32, doeDiscovery (bits (r.headD 0) 7 0)]
    else doeMod s n (fun x => { x with busy := some (bits a 23 16) })
  | _, _ => doeMod s n (fun x => { x with err := true })

/-- What firmware worked on is answered: a data object of its type, whose content is the SPDM specification's, an open value. -/
def doeAnswered (s : State) (n : Nat) : State :=
  match (seatOf s n).doe.busy with
  | some t =>
    let (k, s) := freshFree s
    doeReply s n [BitVec.ofNat 32 (1 + t * 2 ^ 16), 3#32, BitVec.ofNat 32 (Config.freeValue k)]
  | none => s

/-- The host writes a register of PF n's DOE capability: Control (Abort, Go), Status, Write Data Mailbox, Read Data Mailbox. -/
def doeWrite (s : State) (n o : Nat) (v : Word) : State :=
  if o = 0x1E0 then (if bitOf v 0 then doeMod s n (fun _ => Doe.idle) else if bitOf v 31 then doeGo s n else s)
  else if o = 0x1E4 then (if bitOf v 1 then doeMod s n (fun x => { x with irq := false }) else s)
  else if o = 0x1E8 then doeMod s n (fun x => { x with inp := x.inp ++ [v] })
  else if o = 0x1EC then doeMod s n (fun x => { x with out := x.out.drop 1 })
  else s

/-! ## Commands -/

/-- PROVISION (R529). -/
def execProvision (r : Req) (s : State) : Answer := finish (lcsCommand s r provision)
/-- CLOSE (R529). -/
def execClose (r : Req) (s : State) : Answer := finish (lcsCommand s r closePart)
/-- RETURN (R529). -/
def execReturnPart (r : Req) (s : State) : Answer := finish (lcsCommand s r returnPart)
/-- SCRAP (R529). -/
def execScrap (r : Req) (s : State) : Answer := finish (lcsCommand s r scrapPart)
/-- DEBUG (R530). -/
def execDebug (r : Req) (s : State) : Answer := finish (lcsCommand s r debugPart)
/-- DEBUG_TOKEN_EXPIRE (R530). -/
def execDebugTokenExpire (s : State) : Answer := finish (debugExpire s)
/-- IDE_KM_QUERY (R536). -/
def execIdeKmQuery (n : Fin 6) (session : Nat) (s : State) : Answer := finish (ideQuery s n.val session)
/-- IDE_KM_KEY_PROG (R536). -/
def execIdeKmKeyProg (n : Fin 6) (session : Nat) (k : IdeKey) (key : BitVec 352) (s : State) : Answer :=
  finish (ideKeyProg s n.val session k key.toNat)
/-- IDE_KM_K_SET_GO (R536). -/
def execIdeKmKSetGo (n : Fin 6) (session : Nat) (k : IdeKey) (s : State) : Answer := finish (ideSetGo s n.val session k)
/-- IDE_KM_K_SET_STOP (R536). -/
def execIdeKmKSetStop (n : Fin 6) (session : Nat) (k : IdeKey) (s : State) : Answer := finish (ideSetStop s n.val session k)
/-- SPDM_REQUEST (R535): also the answer to the data object that waits in the mailbox. -/
def execSpdmRequest (n : Fin 6) (q : Spdm) (s : State) : Answer := finish (doeAnswered (spdm s n.val q) n.val)

end Sys2Proof.Machine
end

