-- ==== Sys2Proof/Machine/Mailbox.lean ====
section
/-! DEFINITION. The wide values that a page's mailbox captures (R43, R68, R137, R177, R277, R313, R354, R395, R459, R484, R513, R515,
R532, R635), and the mailbox itself (R58, R68 to R70). -/

namespace Sys2Proof.Machine

def w32 (n : Nat) : Word := BitVec.ofNat 32 n
/-- The low word of the hand counter. -/
def hand32 (s : State) : Word := w32 (handNo s)

/-- Selector 0x010 (R43): hand counter and trick. -/
def timeMbox (s : State) : List Word := [hand32 s, w32 (handNo s / 2 ^ 32 % 256), w32 (trickNo s), 0]

/-- Free, outstanding and quarantined tags of a pool of 4,096 (R177, R395). -/
def tagMbox (s : State) (t : Tab TagEnt) : List Word :=
  let q := (t.filter (fun p => p.2.quar)).length
  [w32 (4096 - t.length), w32 (t.length - q), w32 q, hand32 s]

/-- Four signed bytes in a word, the first in [7:0]. -/
def tapWord (l : List Nat) : Word := w32 (l.foldr (fun b a => b % 256 + 256 * a) 0)

/-- Eye summary of lane i of port p (R137): open values of the last complete hand; 0 where it was not locked all through it. -/
def eyeMbox (s : State) (p i : Nat) : List Word :=
  let v := ((laneOf s p i).eye.map Config.freeValue).getD 0
  [w32 v, w32 (v / 2 ^ 32 % 65536), w32 (handNo s + 2 ^ 32 - 1), 0]

/-- Equalizer state of lane i of port p (R114, R137): the middle threshold is 0 at NRZ rates. -/
def tapMbox (s : State) (p i : Nat) : List Word :=
  let x := laneOf s p i
  let rate := fldAt s (lanePg p + 0x304) 27 24
  let mid := if rate < 6 ∨ rate = 8 then 0 else x.thr.getD 1 0
  [tapWord (x.ffe.take 4), tapWord ((x.ffe.drop 4).take 4), tapWord (x.ffe.drop 8), w32 (mid * 16384 + x.ctle * 256 + x.dfe)]

/-- Lane selectors (R137); those of an unused lane read 0 (R110). -/
def laneMbox (s : State) (p sel : Nat) : Option (List Word) :=
  let lanes := if p < 6 then 16 else 32
  let show_ (i : Nat) (v : List Word) : List Word := if laneUsed s p i then v else [0, 0, 0, 0]
  if 0x100 ≤ sel ∧ sel < 0x100 + lanes then some (show_ (sel - 0x100) (eyeMbox s p (sel - 0x100)))
  else if 0x140 ≤ sel ∧ sel < 0x140 + lanes then some (show_ (sel - 0x140) (tapMbox s p (sel - 0x140)))
  else none

/-- Seat selectors (R177): round trip; tags and credit books L, A, O, P. -/
def seatMbox (s : State) (n : Nat) (link : Bool) (sel : Nat) : Option (List Word) :=
  let x := seatOf s n
  if link then
    if sel = 0x200 then some [w32 x.rttLast.1, w32 x.rttLast.2.1, w32 x.rttHand, w32 x.rttLast.2.2] else none
  else if sel = 0x210 then some (tagMbox s x.tags)
  else if 0x220 ≤ sel ∧ sel < 0x224 then
    let c := sel - 0x220
    let l := (seatLimits s n).getD c 0
    let o := x.credO.getD c 0
    let f := x.credP.getD c 0
    some [w32 l, w32 (l - o - f), w32 o, w32 f]
  else none

/-- DLR and TAL selectors (R277). -/
def dlrMbox (s : State) (sel : Nat) : Option (List Word) :=
  if 0x300 ≤ sel ∧ sel < 0x328 then
    let k := sel - 0x300
    let d := tabGet 0 s.dealer.dealtCnt k
    some [w32 d, w32 (d / 2 ^ 32), hand32 s, w32 (tabGet 0 s.dealer.demoted (k / 4))]
  else none

def talMbox (s : State) (sel : Nat) : Option (List Word) :=
  let held := (s.talon.held.map (fun p => p.2)).sum
  let land := (s.talon.landing.map (fun p => p.2)).sum
  if sel = 0x400 then some [w32 (s.talon.free + b2n s.talon.phantom), w32 (held + land), w32 s.talon.flight, hand32 s]
  else if sel = 0x401 then some [w32 (held - kittyTotal s), w32 (kittyTotal s), w32 land, w32 (sharedKitty s)]
  else if 0x1000 ≤ sel ∧ sel < 0x2000 then
    let f := sel - 0x1000
    some [w32 (anteHeld s f), w32 (kittyHeld s f), w32 (tabGet 0 s.talon.resv f), w32 (satNat 0xFFFFFFFF (tabGet 0 s.talon.waited f))]
  else none

/-- DMA selectors (R313). A queue pair is placed on a cell while it is not DISABLED or ENABLING. -/
def dmaMbox (s : State) (sel : Nat) : Option (List Word) :=
  if 0x500 ≤ sel ∧ sel < 0x530 then
    let c := sel - 0x500
    some [w32 (s.queues.filter (fun q => decide (2 ≤ q.2.st) && q.2.cell == c)).length, w32 (tabGet 0 s.cells.last c % 2 ^ 18),
          w32 s.cells.hand, w32 (tabGet 0 s.cells.moves c)]
  else if 0x4000 ≤ sel ∧ sel < 0x8000 then
    let q := queueOf s (sel - 0x4000)
    let (f, i) := pairOwner s (sel - 0x4000)
    some [w32 (q.cell * 2 ^ 26 + f * 256 + i), w32 q.reported, w32 q.bytes, w32 (q.bytes / 2 ^ 32)]
  else none

/-- Nicen link page selectors (R354). -/
def nlkMbox (s : State) (k sel : Nat) : Option (List Word) :=
  let x := physOf s k
  if sel = 0x600 then some [w32 x.rttLast.1, w32 x.rttLast.2.1, w32 x.rttHand, w32 x.rttLast.2.2]
  else if 0x620 ≤ sel ∧ sel < 0x640 then some [w32 (tabGet 0 x.symLast (sel - 0x620)), w32 (tabGet 0 x.symAll (sel - 0x620)), w32 x.rttHand, 0]
  else none

/-- Credits of the partner still to be used; all ones where they are infinite (R395). -/
def partnerBook (t : LinkTx) (i : Nat) : List Word :=
  let l := t.pLim.getD i 0
  let u := t.pUsed.getD i 0
  let r := t.pRet.getD i 0
  [w32 l, w32 u, w32 r, if l = 0 then 0xFFFFFFFF#32 else w32 l + w32 r - w32 u]

/-- Nicen transaction page selectors (R395). -/
def nlkTxMbox (s : State) (k sel : Nat) : Option (List Word) :=
  let t := linkTxOf s k
  if sel = 0x700 then some (tagMbox s t.tags)
  else if 0x710 ≤ sel ∧ sel < 0x718 then
    let i := sel - 0x710
    if i / 2 = 2 then some [0, 0, 0, 0]
    else
      let l := t.lim.getD i 0
      let o := t.held.getD i 0
      let f := t.freed.getD i 0
      some [w32 l, w32 (l - o - f), w32 o, w32 f]
  else if 0x720 ≤ sel ∧ sel < 0x728 then some (partnerBook t (sel - 0x720))
  else if 0x730 ≤ sel ∧ sel < 0x734 then
    let j := sel - 0x730
    some ((List.range 4).map (fun w => w32 (t.shedRpt.getD (8 * j + 2 * w) 0 + 65536 * t.shedRpt.getD (8 * j + 2 * w + 1) 0)))
  else none

/-- Time selectors (R459). The error estimate is an open value. -/
def timMbox (s : State) (sel : Nat) : Option (List Word) × State :=
  if sel = 0x800 then
    let (e, s) := freshFree s
    (some [w32 s.time.toNat, w32 (s.time.toNat / 2 ^ 32), w32 (Config.freeValue e % 65536 * 65536 + timState s), hand32 s], s)
  else if 0x810 ≤ sel ∧ sel < 0x816 then
    let x := seatOf s (sel - 0x810)
    let d := setBit (x.ptm.getD 2 0) 15 x.ptmOk
    (some [x.ptm.getD 0 0, x.ptm.getD 1 0, d, x.ptm.getD 3 0], s)
  else if 0x820 ≤ sel ∧ sel < 0x824 then
    let k := sel - 0x820
    let (th, d, h) := tabGet (0, 0, 0) s.tim.links k
    (some [BitVec.ofInt 32 th, BitVec.ofInt 32 d, w32 h, w32 (b2n (s.tim.links.any (fun p => p.1 == k)))], s)
  else (none, s)

/-- Life-cycle selectors (R532): NONCE, UID. -/
def lcsMbox (s : State) (sel : Nat) : Option (List Word) :=
  let four (v : Nat) : List Word := (List.range 4).map (fun i => w32 (v / 2 ^ (32 * i)))
  if sel = 0xC00 then some (four (Config.nonce s.lcs.nonce)) else if sel = 0xC01 then some (four Config.uid) else none

/-- Safety selector (R635). -/
def safMbox (s : State) (sel : Nat) : Option (List Word) :=
  if sel = 0xD00 then some [foldStat s, regAt s (safPg + 0x100), regAt s (safPg + 0x104), hand32 s] else none

/-- The wide value that a selector names in page `pg`; none where it names none (R58). -/
def wideValue (s : State) (pg sel : Nat) : Option (List Word) × State :=
  let inst := pageInstance pg
  match pageKindOf pg with
  | some .tbl => (if sel = 0x10 then some (timeMbox s) else none, s)
  | some .dlr => (dlrMbox s sel, s)
  | some .tal => (talMbox s sel, s)
  | some .dma => (dmaMbox s sel, s)
  | some .saf => (safMbox s sel, s)
  | some .tim => timMbox s sel
  | some .crp0 => (if 0x900 ≤ sel ∧ sel < 0x910 then some (engMbox s (sel - 0x900)) else none, s)
  | some .pwr => (if sel = 0xA00 then some (wakeMbox s) else none, s)
  | some .sns => (if 0xB00 ≤ sel ∧ sel < 0xB10 then some (chanMbox s (sel - 0xB00)) else none, s)
  | some .lcs => (lcsMbox s sel, s)
  | some .seatLink => (seatMbox s inst true sel, s)
  | some .seatTxn => (seatMbox s inst false sel, s)
  | some .seatLane | some .nlkLane => (laneMbox s inst sel, s)
  | some .nlkLink => (nlkMbox s (inst - 6) sel, s)
  | some .nlkTxn => (nlkTxMbox s (inst - 6) sel, s)
  | _ => (none, s)

/-! ## The mailbox (R58, R68 to R70) -/

def mboxOf (s : State) (pg : Nat) : Mbox := tabGet Mbox.idle s.mbox pg
def mboxMod (s : State) (pg : Nat) (g : Mbox → Mbox) : State := { s with mbox := tabMod Mbox.idle s.mbox pg g }
/-- Table offset of MBOX_CTRL of page number `pg`. -/
def mboxCtl (pg : Nat) : Nat := pg * 0x1000 + 0x02C

/-- A book, which is captured at a trick end (R177, R277, R395). -/
def trickEndBook (pg sel : Nat) : Bool :=
  match pageKindOf pg with
  | some .seatTxn | some .dlr | some .tal => true
  | some .nlkTxn => decide (sel < 0x730)
  | _ => false

/-- Page `pg` captures the value that selector `sel` names. -/
def mboxTake (s : State) (pg sel : Nat) : State :=
  let (v, s) := wideValue s pg sel
  mboxMod s pg (fun x => { x with data := v.getD [0, 0, 0, 0], bad := v.isNone, due := none })

/-- An accepted SNAP of page `pg` by requester `c` (R58, R68, R70): VALID and BADSEL clear, SEQ and OWNER take the snapshot's, the
value is captured at this instant, a book at the end of this trick. The overtaken one is reported. -/
def mboxSnap (s : State) (pg c : Nat) : State :=
  let ctl := regAt s (mboxCtl pg)
  let sel := fldAt s (pg * 0x1000 + 0x028) 15 0
  let ovr := !(mboxOf s pg).seen && decide (bits ctl 7 4 ≠ c)
  let s := mboxMod (if ovr then setEvt s (pg * 0x1000) 1 else s) pg (fun x => { x with due := some sel, seen := false })
  let s := if trickEndBook pg sel then s else mboxTake s pg sel
  regPut s (mboxCtl pg) (w32 ((bits ctl 15 8 + 1) % 256 * 256 + c * 16 + 1))

/-- The books that wait for it are captured at a trick end. -/
def mboxBooks (s : State) : State := (s.mbox.filterMap (fun p => p.2.due.map (fun sel => (p.1, sel)))).foldl (fun s q => mboxTake s q.1 q.2) s

/-- The snapshot, captured, is in MBOX_DATA0 to 3 (R68): VALID sets, SNAP clears. -/
def mboxValid (s : State) (pg : Nat) : State :=
  let x := mboxOf s pg
  if !flagAt s (mboxCtl pg) 0 || x.due.isSome then s
  else
    let s := (List.range 4).foldl (fun s i => regPut s (pg * 0x1000 + 0x030 + 4 * i) (x.data.getD i 0)) s
    regPut s (mboxCtl pg) (setBit (setBit (setBit (regAt s (mboxCtl pg)) 0 false) 1 true) 2 x.bad)

/-- A read of MBOX_CTRL by requester `c` (R70): it has read VALID at 1 when it took the snapshot. -/
def mboxSeen (s : State) (pg c : Nat) : State :=
  let ctl := regAt s (mboxCtl pg)
  if bitOf ctl 1 && bits ctl 7 4 == c then mboxMod s pg (fun x => { x with seen := true }) else s

end Sys2Proof.Machine
end

