-- ==== Sys2Proof/Machine/Views.lean ====
section
/-! DEFINITION. Registers that show state held elsewhere: their words as a read gives them. -/

namespace Sys2Proof.Machine

/-- PAGE_STAT of page `pg` (R56): COPY_SEQ is stored; POISON, SHADOW_DIRTY and ABSENT are derived. -/
def pageStat (s : State) (pg : Nat) : Word :=
  let here (o : Nat) : Bool := o / 0x1000 == pg
  let absent := if 0x1000 ≤ pg then (fnSeat s (pg - 0x1000)).isNone else if 0x100 ≤ pg then !portPresent s ((pg - 0x100) / 16) else false
  let w := setBit (regAt s (pg * 0x1000 + 0x00C)) 8 (s.parLive.any here)
  setBit (setBit w 1 (s.decks.any (fun d => d.2.shadow.any (fun p => here p.1)))) 0 absent

/-- FN.LOG_STAT of f (R232). -/
def fnLogStat (s : State) (f : Nat) : Word := setBit (setBit (regAt s (fnPg f + 0x158)) 29 (logPending s f)) 28 (logged s f)

/-- Status registers of function page f (R197, R232, R309, R405). -/
def fnView (s : State) (f o : Nat) : Option Word :=
  if o = 0x100 then some (fnIdent s f)
  else if o = 0x104 then some (fnState s f)
  else if o = 0x108 then some (fnFlrStat s f)
  else if o = 0x158 then some (fnLogStat s f)
  else if 0x180 ≤ o ∧ o < 0x1A0 then some (qHaltedWord s f ((o - 0x180) / 4))
  else if o = 0x1D4 ∧ f < 6 then some (seatBank s f)
  else none

/-- LCS.STATE and LCS.SVN (R532). -/
def lcsView (s : State) (o : Nat) : Option Word :=
  if o = 0x100 then some (w32 (s.lcs.fuse * 2 ^ 28 + b2n (s.lcs.next != 0) * 2 ^ 27 + b2n s.lcs.debugLeft.isSome * 2 ^ 26))
  else if 0x110 ≤ o ∧ o < 0x11C then some (w32 (s.lcs.svn.getD ((o - 0x110) / 4) 0))
  else none

/-- The place of a lane page and what it shows at page offset `o`: LANE_STAT, LANE_TXEQ of a lane (R110). -/
def laneView (s : State) (p o : Nat) : Option Word :=
  let n := if p < 6 then 16 else 32
  if 0x180 ≤ o ∧ o < 0x180 + 4 * n then some (laneStatWord s p ((o - 0x180) / 4))
  else if 0x200 ≤ o ∧ o < 0x200 + 4 * n then some (laneTxeqWord s p ((o - 0x200) / 4))
  else if o = 0x304 then some (setBit (setBit (regAt s (lanePg p + o)) 30 (portHeld s p)) 29 (portLimp s p))
  else none

/-- The word of the implemented register at Table offset `off` (a multiple of 4), as far as no access changes it. -/
def viewAt (s : State) (off : Nat) : Word :=
  let pg := off / 0x1000
  let o := off % 0x1000
  let derived : Option Word :=
    if o = 0x00C then some (pageStat s pg)
    else if 0x100 ≤ pg ∧ pg < 0x1A0 ∧ pg % 16 = 7 then laneView s ((pg - 0x100) / 16) o
    else if 0x1000 ≤ pg then
      (if o = 0x1BC then some (setBits (regAt s off) 15 0 s.gen) else fnView s (pg - 0x1000) o)
    else if off = 0x1BC then some (setBits (regAt s off) 15 0 s.gen)
    else if off = 0x1D4 then some (if decide (fldAt s off 31 28 = 7 ∧ fldAt s off 25 24 ≤ 1) then
      setBits (regAt s off) 25 24 (b2n ((List.range 4).all (fun k => !portPresent s (6 + k)))) else regAt s off)
    else if off = safPg + 0x110 then some (foldStat s)
    else if dlrPg + 0x180 ≤ off ∧ off < dlrPg + 0x1A8 then
      some (w32 (configShare s ((o - 0x180) / 4) * 256 + currentShare s ((o - 0x180) / 4)))
    else if pg = lcsPg / 0x1000 then lcsView s o
    else none
  derived.getD (regAt s off)

end Sys2Proof.Machine
end

