-- ==== Sys2Proof/Machine/House.lean ====
section
/-! DEFINITION. House firmware: the command mailbox (R544 to R548), slot updates (R549, R550), activation and rollback (R551, R552), the
watchdog (R427, R543), the SHOWDOWN record (R554 to R556), Lane firmware of the groups (R127, R542). -/

namespace Sys2Proof.Machine

def houseMod (s : State) (g : House → House) : State := { s with house := g s.house }
def hseCmd : Nat := hsePg + 0x100
def hseStat : Nat := hsePg + 0x120
/-- STATE of HSE.STAT (R545): 0 ROM_SERVICE, 1 STARTING, 2 READY, 3 RESTARTING, 4 ROM_ONLY. -/
def houseState (s : State) : Nat := fldAt s hseStat 31 28
def setHouse (s : State) (st : Nat) : State := fldPut s hseStat 31 28 st
/-- Slot that RUN_SLOT names. -/
def runSlot (s : State) : Nat := fldAt s hseStat 27 27
/-- LIMP of HSE.STAT (R542). -/
def houseLimp (s : State) : Bool := flagAt s hseStat 26
/-- 64 rubbers in table time (R543, R552). -/
def rubbers64 : Nat := 64 * 64 * handUnits

/-! ## Lane firmware of the groups (R127, R542) -/

/-- LFW_STAT of a group whose microcontroller starts now (R127, R542): RUNNING on the running Lane image, NOT_STARTED under LIMP and
in ROM service, NOT_LOADED before House firmware has looked for an image. -/
def lfwWord (s : State) : Word :=
  if houseLimp s || houseState s == 0 then w32 (3 * 4096)
  else w32 (s.house.lane * 65536 + 4096)
def lfwReg (p j : Nat) : Nat := lanePg p + 0x320 + 4 * j
/-- Place of an unused group's microcontroller word in `lfw`. -/
def lfwIdle (g : Nat) : Nat := 64 + g
/-- LFW_STAT word of lane group g: of its port, or as it was when its port gave it up. -/
def lfwOf (s : State) (g : Nat) : Word :=
  match (List.range 10).find? (fun p => (portGroups s p).contains g) with
  | some p => regAt s (lfwReg p ((portGroups s p).idxOf g))
  | none => w32 (tabGet ((lfwWord s).toNat, 0) s.lfw (lfwIdle g)).1

/-- Write the LFW_STAT words of all groups, given by group number: entries of groups that no port uses read 0 (R127). -/
def lfwPut (s : State) (w : Nat → Word) : State :=
  let s := (List.range 10).foldl (fun s p => (List.range (if p < 6 then 2 else 4)).foldl (fun s j =>
    regPut s (lfwReg p j) (match (portGroups s p)[j]? with
      | some g => w g
      | none => 0)) s) s
  { s with lfw := (List.range 12).foldl (fun t g =>
      if (List.range 10).any (fun p => (portGroups s p).contains g) then tabDel t (lfwIdle g) else tabIns t (lfwIdle g) ((w g).toNat, 0)) s.lfw }

/-- Lane groups change ports at a cut: each takes its microcontroller's state along. -/
def lfwCut (old s : State) : State := lfwPut s (lfwOf old)

/-- Every lane group's microcontroller runs the Lane image now running (R551 step 4); one that R118 left halted stays halted until a
reset. RESTARTS counts restarts of R118 alone. Lanes that ran the ROM baseline adapt from here on (R135). -/
def lfwRestart (s : State) : State :=
  let w (g : Nat) : Word :=
    let o := lfwOf s g
    if bits o 15 12 = 4 then o else setBits (lfwWord s) 7 0 (bits o 7 0)
  let s := lfwPut s w
  if houseLimp s then s
  else (List.range 10).foldl (fun s p => (List.range (portLanes s p)).foldl (fun s i =>
    if 4 ≤ fldAt s (laneStat p i) 23 20 then laneHold s p i (flagAt s (laneStat p i) 29) else s) s) s

/-! ## FIRMWARE records (R553) -/

/-- A FIRMWARE record: event, slot, the previous and the new House version. -/
def firmRec (s : State) (event slot prev new : Nat) : State :=
  let lane := if houseLimp s then 0 else s.house.lane
  putRec s 5 64 [w32 (event + slot * 256 + prev / 256 * 65536 + prev % 256 * 2 ^ 24), w32 (new / 256 + new % 256 * 256 + lane / 256 * 65536 + lane % 256 * 2 ^ 24)]
/-- Version of the running House image, MAJOR × 256 + MINOR. -/
def houseVer (s : State) : Nat := fldAt s hseStat 23 8
def verNum (v : Nat × Nat) : Nat := v.1 * 256 + v.2

/-- ROM_ONLY is entered (R543). -/
def romOnly (s : State) : State :=
  let v := houseVer s
  let s := raiseErr (setHouse (houseMod s (fun h => { h with act := none, prev := none, hist := [] })) 4) hsePg 8
  firmRec s 3 0xFF v 0

/-! ## The end of a command (R546, R548) -/

/-- The running command ends with STATUS `st`. -/
def hseEnd (s : State) (st : Nat) : State :=
  let s := fldPut (fldPut (fldPut s hseCmd 31 28 st) hseCmd 27 27 0) hseCmd 7 0 0
  setEvt (houseMod s (fun h => { h with cmd := none, began := false })) hsePg 8

/-- It ends OK with its results. -/
def hseOk (s : State) (r0 : Word) : State := hseEnd (regPut s (hsePg + 0x114) r0) 0

/-! ## Starting a command (R544, R547 to R551) -/

/-- Opcodes of R547. -/
def hseListed (op : Nat) : Bool := [0x01, 0x02, 0x10, 0x11, 0x12, 0x13, 0x14, 0x15].contains op
/-- Argument `i` of the running command. -/
def hseArg (s : State) (i : Nat) : Nat := (s.house.args.getD i 0).toNat
/-- The slot holds the running House image: none runs in ROM service and in ROM_ONLY. -/
def slotRuns (s : State) (slot : Nat) : Bool := houseState s == 2 && runSlot s == slot
/-- Key of a part of a flash area (R548). -/
def tornKey (slot lane off : Nat) : Nat := (slot * 2 + lane) * 2 ^ 23 + off
def tornWhole : Nat := 2 ^ 23 - 1
def tornAdd (s : State) (k : Nat) : State := storeMod s (fun x => { x with torn := setIns k x.torn })

/-- Work that keeps ACTIVATE from starting (R551). -/
def activateBusy (s : State) : Bool :=
  (List.range 7).any (deckBusy s) || s.crp.load.isSome || flagAt s pstCmd 27 || s.store.save.isSome

/-- ACTIVATE is judged (R551): the cores restart on the slot; from ROM service a table soft reset is due that boots it. -/
def activate (s : State) (slot : Nat) : State :=
  let v := verifyStatus s slot
  if 1 < slot then hseEnd s 4
  else if slotRuns s slot then hseEnd s 9
  else if v ≠ 0 then hseEnd s v
  else if activateBusy s then hseEnd s 0xB
  else
    let seen (s : State) : State := (List.range 2).foldl (fun s l => svnSeen s (1 + l) (flashRead s slot (areaAt l) 0x800)) s
    if houseState s = 0 then { s with boot := { s.boot with soft := true, slot := some slot } }
    else releaseClaims (setHouse (houseMod (seen s) (fun h => { h with act := some slot, prev := some (runSlot s) })) 3) 6

/-- The running command starts (R546, R547, R549, R550). -/
def hseBegin (s : State) : State :=
  match s.house.cmd with
  | none => s
  | some (op, r) =>
    let st := houseState s
    let a := hseArg s
    if s.house.began ∨ st = 1 ∨ st = 3 then s
    else if !hseListed op then hseEnd s 3
    else if (st = 0 ∨ st = 4) ∧ (op = 0x14 ∨ op = 0x15) then hseEnd s 2
    else
      let s := houseMod s (fun h => { h with began := true, status := 0 })
      match op with
      | 0x01 => if a 0 % 64 ≠ 0 ∨ (6 ≤ r.code.val ∧ (a 0 ≠ 0 ∨ a 1 ≠ 0)) then hseEnd s 4 else s
      | 0x02 => if a 0 % 1024 ≠ 0 then hseEnd s 4 else s
      | 0x10 =>
        if 1 < a 0 ∨ 1 < a 1 then hseEnd s 4
        else if slotRuns s (a 0) then hseEnd s 9
        else tornAdd (flashErase (houseMod s (fun h => { h with area := some (a 0, a 1) })) (a 0) (areaAt (a 1)) 0x800000) (tornKey (a 0) (a 1) tornWhole)
      | 0x11 =>
        match s.house.area with
        | none => hseEnd s 4
        | some (slot, lane) =>
          if a 0 % 1024 ≠ 0 ∨ 0x800000 ≤ a 0 then hseEnd s 4
          else if slotRuns s slot then hseEnd s 9
          else tornAdd s (tornKey slot lane (a 0))
      | 0x12 => if 1 < a 0 then hseEnd s 4 else s
      | 0x13 => activate s (a 0)
      | 0x14 =>
        if 15 < a 0 ∨ a 1 % 1024 ≠ 0 ∨ 0x4000 ≤ a 1 then hseEnd s 4
        else if s.lcs.fuse = 5 then hseEnd s 2
        else if (match s.crp.load with
                 | some (slot, _, _) => slot == a 0
                 | none => false) then hseEnd s 0xB
        else askBatch s { who := .crp, addr := slotAddr (a 0) + a 1, data := bufGet s (hsePg + 0x400) 256, rec_ := none }
      | _ => if 15 < a 0 then hseEnd s 4 else s

/-- A command is written to HSE.CMD (R544, R548). -/
def hseStart (s : State) (r : Req) (op : Nat) : State :=
  if !trusted s r then logAccess s hsePg r 5 true 0x100
  else if flagAt s hseCmd 27 then setEvt (fldPut s hseCmd 31 28 1) hsePg 8
  else
    let s := regPut s hseCmd (setBits (setBits (setBits (regAt s hseCmd) 27 27 1) 26 23 r.code.val) 7 0 op)
    hseBegin (houseMod s (fun h => { h with cmd := some (op, r), began := false, args := (List.range 4).map (fun i => regAt s (hsePg + 0x104 + 4 * i)) }))

/-! ## SHOWDOWN (R554 to R556) -/

/-- A section: TYPE, FLAGS, LENGTH, body padded to 8 bytes (R556). -/
def sectionOf (type : Nat) (body : List Byte) : List Byte :=
  natLe 4 type ++ natLe 4 body.length ++ body ++ List.replicate ((8 - body.length % 8) % 8) 0#8
def wordsOf (ws : List Word) : List Byte := ws.flatMap wordBytes
/-- Registers as they read. -/
def regsOf (s : State) (offs : List Nat) : List Byte := wordsOf (offs.map (viewAt s))
/-- A mailbox's words, some of them. -/
def boxOf (v : Option (List Word)) (n : Nat) : List Byte := wordsOf ((v.getD [0, 0, 0, 0]).take n)

/-- Function slots as a bitmap, bit f % 8 of byte f / 8 (R556). -/
def bitmapOf (p : Nat → Bool) : List Byte :=
  (List.range 512).map (fun b => BitVec.ofNat 8 (((List.range 8).map (fun i => if p (8 * b + i) then 2 ^ i else 0)).sum))

/-- IDENTITY. -/
def sdIdentity (s : State) : List Byte :=
  regsOf s [0x100, 0x104, hseStat] ++ (List.range 12).flatMap (fun g => natLe 1 (bits (lfwOf s g) 31 24) ++ natLe 1 (bits (lfwOf s g) 23 16)) ++ natLe 16 Config.uid
/-- PORTS. -/
def sdPorts (s : State) : List Byte :=
  (List.range 10).flatMap (fun p => regsOf s ([linkPg p + 0x110, lanePg p + 0x304, foldReg p, lfwReg p 0, lfwReg p 1] ++ (if p < 6 then [] else [lfwReg p 2, lfwReg p 3])) ++
    (if p < 6 then List.replicate 8 0#8 else []))
/-- FUNCTIONS. -/
def sdFunctions (s : State) : List Byte :=
  bitmapOf (fnPresent s) ++ bitmapOf (fun f => (fnOf s f).master) ++
  bitmapOf (fun f => match fnSeat s f with
    | some n => folded s n
    | none => false) ++ bitmapOf (fun f => (fnOf s f).bench)
/-- BOOKS. -/
def sdBooks (s : State) : List Byte :=
  let fs := assignedFns s
  let total (g : Nat → Nat) : Word := w32 ((fs.map g).sum)
  boxOf (talMbox s 0x400) 3 ++ boxOf (talMbox s 0x401) 4 ++
  (List.range 6).flatMap (fun n => (List.range 4).flatMap (fun c => boxOf (seatMbox s n false (0x220 + c)) 4)) ++
  (List.range 4).flatMap (fun k => [0x710, 0x711, 0x712, 0x713, 0x716, 0x717].flatMap (fun sel => boxOf (nlkTxMbox s k sel) 4)) ++
  wordsOf [total (queueCount s), total (vectorCount s), total (fun f => fldAt s (fnPg f + 0x11C) 22 0), total (fun f => fldAt s (fnPg f + 0x124) 20 0), w32 fs.length]
/-- TAGS. -/
def sdTags (s : State) : List Byte :=
  (List.range 6).flatMap (fun n => boxOf (seatMbox s n false 0x210) 3) ++ (List.range 4).flatMap (fun k => boxOf (nlkTxMbox s k 0x700) 3)
/-- DECK: TOKEN reads as 0. -/
def sdDeck (s : State) : List Byte :=
  wordsOf ([s.activeId, regAt s 0x180, regAt s 0x184, regAt s 0x188, viewAt s 0x1BC] ++ (List.range 7).map (fun d => setBits (regAt s (deckReg d 0x1A4)) 31 20 0))
/-- TIME. -/
def sdTime (s : State) : List Byte × State :=
  (0x800 :: numsFrom 0x810 6).foldl (fun p sel => let (v, t) := timMbox p.2 sel; (p.1 ++ boxOf v 4, t)) ([], s)

/-- The record of this instant, number `seq`, TRUNCATED when longer than a non-zero `room` (R555, R556). -/
def showdown (s : State) (seq room : Nat) : List Byte × State :=
  let st := houseState s
  let small := st == 0 || st == 4
  let (tm, s') := sdTime s
  let faults := regsOf s [safPg + 0x100, safPg + 0x110, safPg + 0x104, safPg + 0x108, foldReg 10, pstPg + 0x144, pstPg + 0x148]
  let head := sectionOf 1 (sdIdentity s) ++ sectionOf 2 (regsOf s [lcsPg + 0x100, lcsPg + 0x110, lcsPg + 0x114, lcsPg + 0x118]) ++ sectionOf 3 (sdPorts s)
  let body :=
    if small then head ++ sectionOf 7 faults ++ sectionOf 0xFFFF []
    else head ++ sectionOf 4 (sdFunctions s) ++ sectionOf 5 (sdBooks s) ++ sectionOf 6 (sdTags s) ++ sectionOf 7 faults ++
      sectionOf 8 (regsOf s [pwrPg + 0x140, pwrPg + 0x144, pwrPg + 0x148] ++ wordsOf (wakeMbox s)) ++ sectionOf 9 (sdDeck s) ++
      sectionOf 0xA ((List.range 16).flatMap (fun e => regsOf s [engStat e] ++ wordsOf (engMbox s e))) ++ sectionOf 0xB tm ++ sectionOf 0xFFFF []
  let n := 40 + body.length
  let flags := b2n (st == 0) + 2 * b2n (houseLimp s) + 4 * b2n (st == 4) + 8 * b2n (decide (room ≠ 0) && decide (room < n))
  let rec_ (c : Nat) : List Byte :=
    natLe 4 0x574F4853 ++ natLe 2 1 ++ natLe 2 flags ++ natLe 4 n ++ natLe 4 seq ++ natLe 8 s.time.toNat ++ natLe 8 (handNo s) ++ natLe 4 c ++ natLe 4 0 ++ body
  (rec_ (crcBytes (rec_ 0)).toNat, if small then s else s')

/-- SHOWDOWN ends (R554, R557): the record is kept; delivery needs a PF that can master. -/
def showdownEnd (s : State) : State :=
  let addr := hseArg s 0 + hseArg s 1 * 2 ^ 32
  let seq := s.house.seq + 1
  let n := buttonSeat s
  let (d, s) := showdown s seq (if addr = 0 then 0 else max 1 (hseArg s 2))
  let s := houseMod s (fun h => { h with record := some d, seq := seq })
  let s := regPut (regPut s (hsePg + 0x114) (w32 d.length)) (hsePg + 0x118) (w32 seq)
  if addr = 0 then hseEnd s 0
  else if !(fnOf s n).master || folded s n then hseEnd s 0xA
  else hseEnd (sendWrites s n addr (d.take (hseArg s 2)) false 0 (xact0 n n 3 1 (.tlp n (tlp0 .memWr n addr 0))) (fun _ => .none)) 0

/-! ## The end of the command's work (R548) -/

/-- Set 1 KiB of HSE.BUF. -/
def hseBufPut (s : State) (bs : List Byte) : State :=
  (List.range 256).foldl (fun s w => regPut s (hsePg + 0x400 + 4 * w) (w32 (numAt bs (4 * w) 4))) s

/-- FW_WRITE's 1 KiB is programmed, unless power is failing or the device reports an error (R549, R557). -/
def fwWriteEnd (s : State) (flashErr : Bool) : State :=
  match s.house.area with
  | none => hseEnd s 4
  | some (slot, lane) =>
    if s.boot.shed then
      let (n, s) := freshFree s
      hseEnd s (if Config.freeValue n % 2 = 0 then 0xE else 0xC)
    else if flashErr then hseEnd s 0xC
    else
      let k := tornKey slot lane (hseArg s 0)
      hseEnd (storeMod (flashWrite s slot (areaAt lane + hseArg s 0) (bufGet s (hsePg + 0x400) 256)) (fun x => { x with torn := setDel k x.torn })) 0

/-- CRP_VERIFY (R550). -/
def crpVerify (s : State) (slot : Nat) : State :=
  match slotCheck s slot with
  | .ok ws => hseOk (regPut s (hsePg + 0x118) (w32 (wordField (ws.getD 0 0) 11 8))) (w32 (wordField (ws.getD 5 0) 15 0 * 65536 + ws.length))
  | .svn => hseEnd s 7
  | .empty | .badSig | .badHeader | .badCode => hseEnd s 5

/-- CMD_DONE: the running command's work is finished (R546 to R551). -/
def cmdDone (s : State) (flashErr : Bool) : State :=
  match s.house.cmd with
  | none => s
  | some (op, _) =>
    let a := hseArg s
    if !s.house.began then s
    else match op with
      | 0x01 => showdownEnd s
      | 0x02 =>
        match s.house.record with
        | none => hseEnd s 0xD
        | some d => hseEnd (hseBufPut s ((d.drop (a 0)).take 1024)) 0
      | 0x10 =>
        if flashErr then hseEnd s 0xC
        else hseEnd (storeMod s (fun x => { x with torn := x.torn.filter (fun k => k / 2 ^ 23 != a 0 * 2 + a 1) })) 0
      | 0x11 => fwWriteEnd s flashErr
      | 0x12 =>
        if flashErr then hseEnd s 0xC
        else
          let v := verifyStatus s (a 0)
          if v = 0 then hseOk s (versionWord s (a 0)) else hseEnd s v
      | 0x13 => if houseState s = 2 ∧ s.house.act.isNone then hseOk s (versionWord s (runSlot s)) else s
      | 0x14 =>
        if s.store.wait.any (fun b => b.who == .crp) || (s.store.busy.map (fun b => b.who == .crp)).getD false then s else hseEnd s s.house.status
      | _ => crpVerify s (a 0)

/-! ## READY, rollback, the watchdog (R427, R543, R551, R552) -/

/-- The cores run the slot's House image, and the groups its Lane image. -/
def takeSlot (s : State) (slot : Nat) : State :=
  let h := imageVer s slot 0
  let s := fldPut (fldPut (fldPut (fldPut s hseStat 27 27 slot) hseStat 23 16 h.1) hseStat 15 8 h.2) hseStat 26 26 0
  lfwRestart (houseMod s (fun x => { x with lane := verNum (imageVer s slot 1), act := none, hist := [], readyAt := s.time.toNat }))

/-- HOUSE_READY (R551, R552): STATE becomes READY; the image of an ACTIVATE, or of a rollback, runs from now on. -/
def houseReady (s : State) : State :=
  if houseState s ≠ 3 then s
  else
    let was := houseVer s
    let s := match s.house.act, s.house.prev with
      | none, _ => setHouse s 2
      | some slot, none => takeSlot (setHouse s 2) slot
      | some slot, some _ =>
        let s := setEvt (takeSlot (setHouse s 2) slot) hsePg 9
        firmRec s 1 slot was (houseVer s)
    hseBegin (houseMod s (fun h => { h with kick := 0 }))

/-- The cores go back to the previous image (R552). -/
def rollback (s : State) (failed prev : Nat) : State :=
  let s := setEvt (houseMod (setHouse s 3) (fun h => { h with act := some prev, prev := none, hist := [] })) hsePg 10
  firmRec (releaseClaims s 6) 2 prev failed (verNum (imageVer s prev 0))

/-- ACTIVATE_ROLLBACK (R552): the image did not reach READY within 40 ms; when it was the previous one already, ROM_ONLY follows. -/
def activateRollback (s : State) : State :=
  match s.house.act, s.house.prev with
  | some slot, some p =>
    let s := if s.house.cmd.isSome && s.house.began then hseEnd s 0xE else s
    rollback s (verNum (imageVer s slot 0)) p
  | some _, none => hseBegin (romOnly s)
  | none, _ => s

/-- HSE_WDOG_EXPIRE (R427, R543, R552). -/
def hseWdog (s : State) : State :=
  if s.house.kick < 4 ∨ houseState s ≠ 2 ∨ s.pwr.state = 3 then s
  else
    let now := s.time.toNat
    let s := setEvt (bump (faultLog s 0x15 15 0 (byIgnoring s s.safe.kickOff)) (safPg + 0x40C)) safPg 10
    let s := fldPut s hseStat 7 0 (satNat 255 (fldAt s hseStat 7 0 + 1))
    let s := if s.house.cmd.isSome && s.house.began then hseEnd s 0xE else s
    let hist := (s.house.hist.filter (fun t => decide (now < t + rubbers64))) ++ [now]
    let s := houseMod s (fun h => { h with hist := hist, kick := 0 })
    match s.house.prev with
    | some p =>
      if now < s.house.readyAt + rubbers64 then rollback s (houseVer s) p
      else if 4 ≤ hist.length then hseBegin (romOnly s) else releaseClaims (setHouse s 3) 6
    | none => if 4 ≤ hist.length then hseBegin (romOnly s) else releaseClaims (setHouse s 3) 6

/-- A write of SAF.HSE_KICK by requester `c` (R427, R438, R439). -/
def hseKick (s : State) (c : Nat) : State :=
  if c = 7 ∧ !ignores s s.safe.kickOff then houseMod s (fun h => { h with kick := 0 }) else s

/-! ## Commands -/

/-- SHOWDOWN (R554). -/
def execShowdown (r : Req) (s : State) : Answer := finish (hseStart s r 0x01)
/-- SHOWDOWN_READ (R547). -/
def execShowdownRead (r : Req) (s : State) : Answer := finish (hseStart s r 0x02)
/-- FW_BEGIN (R549). -/
def execFwBegin (r : Req) (s : State) : Answer := finish (hseStart s r 0x10)
/-- FW_WRITE (R549). -/
def execFwWrite (r : Req) (s : State) : Answer := finish (hseStart s r 0x11)
/-- FW_VERIFY (R549). -/
def execFwVerify (r : Req) (s : State) : Answer := finish (hseStart s r 0x12)
/-- ACTIVATE (R551). -/
def execActivate (r : Req) (s : State) : Answer := finish (hseStart s r 0x13)
/-- HOUSE_READY (R551). -/
def execHouseReady (s : State) : Answer := finish (houseReady s)
/-- ACTIVATE_ROLLBACK (R552). -/
def execActivateRollback (s : State) : Answer := finish (activateRollback s)
/-- CRP_WRITE (R550). -/
def execCrpWrite (r : Req) (s : State) : Answer := finish (hseStart s r 0x14)
/-- CRP_VERIFY (R550). -/
def execCrpVerify (r : Req) (s : State) : Answer := finish (hseStart s r 0x15)
/-- CMD_DONE (R548). -/
def execCmdDone (flashErr : Bool) (s : State) : Answer := finish (cmdDone s flashErr)
/-- HSE_KICK (R427). -/
def execHseKick (r : Req) (s : State) : Answer := finish (hseKick s r.code.val)
/-- HSE_WDOG_EXPIRE (R427). -/
def execHseWdogExpire (s : State) : Answer := finish (hseWdog s)

end Sys2Proof.Machine
end

