-- ==== Sys2Proof/Machine/Slots.lean ====
section
/-! DEFINITION. Seat slots: presence, power, attention, insertion after a removal (R558 to R572). -/

namespace Sys2Proof.Machine

/-- PWR_FAULT of seat n's SLOT page is set (R565). -/
def pwrFaulted (s : State) (n : Nat) : Bool := flagAt s (slotPg n + 0x010) 10

/-- The slot is being powered (R563). -/
def powerUp (s : State) (n : Nat) : State := setSlot (pwrEn s n true) n 2

/-- A change of Sn_PRSNT_N has held for 100 ms (R411, R564, R566): `low` is its new level. -/
def presence (s : State) (n : Nat) (low : Bool) : State :=
  if flagAt s (slotStat n) 28 = low then s
  else
    let s := setEvt (fldPut (wake s (7 + n)) (slotStat n) 28 27 (3 * low.toNat)) (slotPg n) 8
    let st := slotState s n
    if low then
      if st = 4 then s
      else
        let s := setSlot s n 1
        if flagAt s (slotPg n + 0x100) 0 && !pwrFaulted s n then powerUp s n else s
    else if st = 4 then s
    else if seatPresent s n && !removed s n then removal s n
    else pwrEn (setSlot s n 0) n false

/-- PWR_OP ends with a STATUS (R562). -/
def slotEnd (s : State) (n st : Nat) : State := fldPut s (slotStat n) 3 0 st

/-- PWR_ON (R563). -/
def pwrOn (s : State) (n : Nat) : State :=
  let st := slotState s n
  if st = 4 then slotEnd s n 3
  else if pwrFaulted s n then slotEnd s n 2
  else if st ≠ 1 then slotEnd s n 1
  else slotEnd (powerUp s n) n 0

/-- PWR_OFF (R563, R566): with the link up it is a surprise removal; a slot that drains goes on draining. -/
def pwrOff (s : State) (n : Nat) : State :=
  let s := slotEnd (pwrEn s n false) n 0
  if slotState s n = 4 then s
  else
    let s := setSlot s n 0
    if dlUp s n then removal s n else s

/-- Power is good PWR_DELAY after Sn_PWR_EN (R565): Sn_PWR_FLT_N was high throughout. -/
def powerGood (s : State) (n : Nat) : State :=
  if slotState s n = 2 ∧ flagAt s (slotStat n) 26 then setEvt (setSlot (fldPut s (slotStat n) 25 25 0) n 3) (slotPg n) 11 else s

/-- Sn_PWR_FLT_N falls (R565, R566). -/
def powerFault (s : State) (n : Nat) : State :=
  let on := flagAt s (slotStat n) 26
  let s := fldPut s (slotStat n) 25 25 1
  if !on then s
  else
    let s := setEvt (setSlot (pwrEn s n false) n 5) (slotPg n) 10
    if dlUp s n then removal s n else s

/-- The REMOVAL fold of a seat that is powered, and drained, ends (R568). -/
def removalClear (s : State) (n : Nat) : State :=
  if removed s n && slotState s n == 3 && !flagAt s (slotStat n) 25 && flagAt s (foldReg n) 30 && !tableFolded s then
    setEvt (endFold s n) (slotPg n) 13
  else s

/-- DRAINED has been set for seat n: a slot that drains goes to PRESENT or EMPTY (R567). -/
def slotDrained (s : State) (n : Nat) : State :=
  if slotState s n = 4 then setSlot s n (b2n (flagAt s (slotStat n) 28)) else s

/-- A write of SLOT.CTRL by requester r: honoured for the button PF, MGMT and House firmware (R558, R561). -/
def slotWrite (s : State) (r : Req) (n : Nat) (f : State → State) : State :=
  if trusted s r then f s else logAccess s (slotPg n) r 5 true 0x104

/-! ## Indicators (R561, R584) -/

/-- What an indicator pin shows: driven low, released, or blinking at 1.5 Hz. -/
inductive Led
  | off | on | blink
  deriving DecidableEq, Repr

/-- Sn_LED_ATTN; low until cut 0. -/
def ledAttn (s : State) (n : Nat) : Led :=
  if !booted s then .off
  else match fldAt s (slotPg n + 0x104) 5 4 with
  | 1 => .on
  | 2 => .blink
  | _ => .off

/-- Sn_LED_PWR; AUTO follows the slot's state. -/
def ledPwr (s : State) (n : Nat) : Led :=
  if !booted s then .off
  else match fldAt s (slotPg n + 0x104) 7 6 with
  | 0 => .off
  | 1 => .on
  | 2 => .blink
  | _ => if slotState s n = 3 then .on else if slotState s n = 2 ∨ slotState s n = 4 then .blink else .off

/-! ## Commands -/

/-- PRESENCE_DEBOUNCED (R564). -/
def execPresenceDebounced (n : Fin 6) (low : Bool) (s : State) : Answer := finish (presence s n.val low)
/-- ATTN_BUTTON_PRESS (R411, R564). -/
def execAttnButtonPress (n : Fin 6) (s : State) : Answer := finish (setEvt (wake s (7 + n.val)) (slotPg n.val) 9)
/-- PWR_ON (R563). -/
def execPwrOn (r : Req) (n : Fin 6) (s : State) : Answer := finish (slotWrite s r n.val (fun s => pwrOn s n.val))
/-- PWR_OFF (R563). -/
def execPwrOff (r : Req) (n : Fin 6) (s : State) : Answer := finish (slotWrite s r n.val (fun s => pwrOff s n.val))
/-- POWER_GOOD (R565). -/
def execPowerGood (n : Fin 6) (s : State) : Answer := finish (powerGood s n.val)
/-- POWER_FAULT (R565). -/
def execPowerFault (n : Fin 6) (s : State) : Answer := finish (powerFault s n.val)
/-- REMOVAL_CLEAR (R568). -/
def execRemovalClear (n : Fin 6) (s : State) : Answer := finish (removalClear s n.val)

end Sys2Proof.Machine
end

