-- ==== Sys2Proof/Machine/Check.lean ====
section
/-! DEFINITION. CHECK's consistency rules (R97, R98, R99) over the configuration a deck would produce: R3, R20, R21, R44, R152, R159, R172,
R195, R210, R231, R257, R350, R385, R391, R407, R444, R457, R464, R473, R480, R523, R560, R638. -/

namespace Sys2Proof.Machine

/-- A violation: register, rule, code; whether it is one of a sum, a limit over several registers, or a pair of ranges (R98). -/
structure Viol where
  off   : Nat
  rule  : Nat
  code  : Nat
  multi : Bool
  deriving DecidableEq, Repr

/-- A violation of one register's own value, or of several registers, when `b` holds. -/
def own (b : Bool) (off rule code : Nat) : List Viol := if b then [⟨off, rule, code, false⟩] else []
def joint (b : Bool) (off rule code : Nat) : List Viol := if b then [⟨off, rule, code, true⟩] else []


/-- The part is UZ-RY9612-064-B0 (R3, R46). -/
def part064 (s : State) : Bool := fldAt s 0x104 19 16 == 1
/-- The seats present in a configuration. -/
def present (v : State) : List Nat := (List.range 6).filter (seatPresent v)

/-! ## Ranges -/

/-- Pairs of ranges (start, length, register) that overlap, in ascending start: reported at the lower register. -/
def overlapsSorted (rule : Nat) : List (Nat × Nat × Nat) → List Viol
  | [] => []
  | (a, n, o) :: r => ((r.takeWhile (fun x => decide (x.1 < a + n))).map (fun x => (⟨min o x.2.2, rule, 0x203, true⟩ : Viol))) ++ overlapsSorted rule r
/-- Overlaps among ranges; one of length 0 overlaps nothing (R108, R178). -/
def overlaps (rule : Nat) (l : List (Nat × Nat × Nat)) : List Viol :=
  overlapsSorted rule ((l.filter (fun x => x.2.1 != 0)).mergeSort (fun a b => decide (a.1 ≤ b.1)))
/-- A range lies inside another, or is empty. -/
def inside (a n b m : Nat) : Bool := n == 0 || (decide (b ≤ a) && decide (a + n ≤ b + m))

/-! ## Lane groups, seats, button (R20, R21) -/

def laneMapViols (v : State) : List Viol :=
  let host (g : Nat) : Bool := lgRole v g == 1
  let btn := fldAt v 0x130 26 24
  let bak := fldAt v 0x130 30 28
  (List.range 6).flatMap (fun n =>
    let w := seatWidth v n
    if w = 0 then []
    else joint (!host (2 * n)) 0x130 20 0x301 ++ joint (w == 3 && !host (2 * n + 1)) 0x130 20 0x301 ++ joint (w != 3 && host (2 * n + 1)) 0x130 20 0x301) ++
  (List.range 12).flatMap (fun g =>
    own (lgRole v g == 3) (0x140 + 4 * g) 20 0x301 ++
    joint (host g && !(List.range 6).any (fun n => (seatGroups v n).contains g)) 0x130 20 0x301) ++
  (List.range 4).flatMap (fun k => joint (decide (4 < (linkGroups v k).length)) (0x140 + 4 * (linkGroups v k).headD 0) 20 0x301) ++
  own (!seatPresent v btn) 0x130 20 0x301 ++
  own (bak != 7 && (!seatPresent v bak || bak == btn)) 0x130 20 0x301

/-- The port is down: LANE_PORT_STAT.DOWN (R21, R124). -/
def portIsDown (s : State) (p : Nat) : Bool := flagAt s (lanePg p + 0x304) 31
def moveViols (s v : State) : List Viol :=
  (List.range 12).flatMap (fun g => own ((movedPorts s v g).any (fun p => !portIsDown s p)) (0x140 + 4 * g) 21 0x302)

/-! ## Seats (R3, R44, R152, R159, R172, R195, R560) -/

def seatCfgViols (s v : State) (n : Nat) : List Viol :=
  let lc := linkPg n + 0x100
  let fc := regAt v (linkPg n + 0x104)
  let rate := fldAt v lc 3 0
  own (rate == 7 && part064 s) lc 3 0x303 ++ own (rate == 0 || decide (7 < rate)) lc 172 0x201 ++ own (fldAt v lc 13 12 == 3) lc 172 0x201 ++
  own (bits fc 31 24 == 0 || bits fc 23 16 == 0 || bits fc 15 10 == 0 || bits fc 9 0 == 0) (linkPg n + 0x104) 152 0x201 ++
  own (fldAt v (slotPg n + 0x100) 15 8 == 0) (slotPg n + 0x100) 560 0x201

/-- Base, length and register of a seat's budget range, or of a function's: kind 0 queue pairs, 1 pool entries, 2 XT, 3 return. -/
def budgetOf (v : State) (n kind : Nat) : Nat × Nat × Nat :=
  let t := txnPg n
  match kind with
  | 0 => (fldAt v (t + 0x144) 29 16, fldAt v (t + 0x144) 14 0, t + 0x144)
  | 1 => (fldAt v (t + 0x148) 15 0, fldAt v (t + 0x14C) 16 0, t + 0x148)
  | 2 => (fldAt v (t + 0x150) 22 0, fldAt v (t + 0x154) 22 0, t + 0x150)
  | _ => (fldAt v (t + 0x158) 19 0, fldAt v (t + 0x15C) 20 0, t + 0x158)
def rangeOf (v : State) (f kind : Nat) : Nat × Nat × Nat :=
  let p := fnPg f
  match kind with
  | 0 => (fldAt v (p + 0x110) 29 16, fldAt v (p + 0x110) 8 0, p + 0x110)
  | 1 => (fldAt v (p + 0x114) 31 16, fldAt v (p + 0x114) 11 0, p + 0x114)
  | 2 => (fldAt v (p + 0x118) 22 0, fldAt v (p + 0x11C) 22 0, p + 0x118)
  | _ => (fldAt v (p + 0x120) 19 0, fldAt v (p + 0x124) 20 0, p + 0x120)
/-- How many there are of each kind (R44). -/
def capacityOf (kind : Nat) : Nat :=
  match kind with
  | 0 => 16384
  | 1 => 65536
  | 2 => 5242880
  | _ => 1048576

/-- Functions of seat n that are judged: its PF, and the slots of its run that lie in 0x006 to 0xFFF and in no other run (R638). -/
def judgedFns (v : State) (n : Nat) : List Nat :=
  let inRun (m f : Nat) : Bool := decide (vfFirst v m ≤ f ∧ f < vfFirst v m + vfTotal v m)
  n :: (numsFrom (vfFirst v n) (vfTotal v n)).filter (fun f => decide (6 ≤ f ∧ f < 4096) && !(present v).any (fun m => m != n && inRun m f))

def seatViols (s v : State) (changes : Bool) (n : Nat) : List Viol :=
  let fs := judgedFns v n
  let first := vfFirst v n
  let total := vfTotal v n
  let map := txnPg n + 0x140
  let ovr (kind : Nat) : Bool := let b := budgetOf v n kind; decide (capacityOf kind < b.1 + b.2.1)
  own (total != 0 && (decide (first < 6) || decide (4096 < first + total))) map 195 0x201 ++
  own (changes && vfEnable s n && regAt s map != regAt v map) map 195 0x201 ++
  own (ovr 0) (budgetOf v n 0).2.2 44 0x201 ++ (List.range 3).flatMap (fun i => joint (ovr (i + 1)) (budgetOf v n (i + 1)).2.2 44 0x201) ++
  joint (decide (fldAt v (txnPg n + 0x160) 18 0 < (fs.map (fun f => fldAt v (fnPg f + 0x128) 18 0)).sum)) (txnPg n + 0x160) 195 0x401 ++
  joint (decide (4096 < (fs.map (fun f => fldAt v (fnPg f + 0x130) 12 0)).sum)) (fnPg (fs.foldl min n) + 0x130) 159 0x201

/-! ## Functions (R44, R195, R210, R231, R257) -/

/-- What f would lose of what is in use (R195): a queue that is not DISABLED, an unmasked vector, the vector of a queue. -/
def inUseViols (s v : State) (f : Nat) : List Viol :=
  let mine := s.queues.filter (fun q => q.2.st != 0 && q.2.fn == f)
  let oldV := rangeOf s f 1
  let newV := rangeOf v f 1
  own (mine.any (fun q => decide ((rangeOf v f 0).2.1 ≤ q.2.q) || (rangeOf v f 0).1 + q.2.q != q.1)) (fnPg f + 0x110) 195 0x201 ++
  own (s.intr.pool.any (fun e => !e.2.mask && decide (oldV.1 ≤ e.1 ∧ e.1 < oldV.1 + oldV.2.1) &&
    (newV.1 != oldV.1 || decide (newV.2.1 ≤ e.1 - oldV.1)))) (fnPg f + 0x114) 195 0x201 ++
  own (mine.any (fun q => decide (2 ≤ q.2.st) && q.2.irqEn && decide (newV.2.1 ≤ q.2.vector))) (fnPg f + 0x114) 195 0x201

def fnViols (s v : State) (changes : Bool) (n f : Nat) : List Viol :=
  let p := fnPg f
  let r (kind : Nat) := rangeOf v f kind
  let ovr (kind : Nat) : Bool := decide (capacityOf kind < (r kind).1 + (r kind).2.1)
  let tags := regAt v (p + 0x130)
  let win := regAt v (p + 0x138)
  let k (i : Nat) : Nat := bits win (8 * i + 4) (8 * i)
  own (decide (256 < (r 0).2.1)) (p + 0x110) 195 0x201 ++ own (ovr 0) (p + 0x110) 44 0x201 ++
  own ((r 1).2.1 == 0 || decide (2048 < (r 1).2.1)) (p + 0x114) 195 0x201 ++ own (ovr 1) (p + 0x114) 44 0x201 ++
  joint (ovr 2) (p + 0x118) 210 0x201 ++ joint (ovr 3) (p + 0x120) 210 0x201 ++
  own (decide (bits tags 28 16 < bits tags 12 0) || decide (4096 < bits tags 28 16)) (p + 0x130) 195 0x201 ++
  own (fldAt v (p + 0x134) 7 0 == 0) (p + 0x134) 195 0x201 ++
  joint (flagAt v (p + 0x140) 31 && fldAt v (p + 0x14C) 25 0 == 0) (p + 0x140) 231 0x201 ++
  joint (decide (fldAt v (p + 0x128) 18 0 + fldAt v (p + 0x12C) 18 0 < 64)) (p + 0x128) 257 0x201 ++
  own (decide (f < 6) && ((List.range 4).any (fun i => decide (22 < k i)) || decide (k 1 < k 0) || decide (k 3 < k 2))) (p + 0x138) 195 0x201 ++
  (List.range 4).flatMap (fun i => joint (!inside (r i).1 (r i).2.1 (budgetOf v n i).1 (budgetOf v n i).2.1) (budgetOf v n i).2.2 195 0x401) ++
  (if changes && (fnSeat s f).isSome then inUseViols s v f else [])

/-! ## The Talon (R152, R257) -/

def talonViols (v : State) (fs : List Nat) : List Viol :=
  let o := talPg + 0x100
  let floor := fldAt v o 18 0
  let antes := (fs.map (fun f => fldAt v (fnPg f + 0x128) 18 0)).sum
  own (decide (talonCards < floor)) o 257 0x201 ++ joint (decide (talonCards - floor < antes)) o 257 0x202 ++
  joint (decide (floor < ((List.range 6).map (reserve v)).sum)) o 152 0x201 ++ joint (decide (floor < landingTotal v)) o 257 0x201

/-! ## Nicen Links (R3, R350, R385, R391) -/

/-- MIN_LANES above A_nom is a rule on LINK_CFG, SPARE_CFG and the LG_CFG words. -/
def linkViols (s v : State) (k : Nat) : List Viol :=
  let lc := linkPg (6 + k) + 0x100
  let rc := regAt v (linkPg (6 + k) + 0x10C)
  let t := txnPg (6 + k)
  let rate := fldAt v lc 1 0
  let ml := fldAt v lc 23 18
  let hdr (o : Nat) : Nat := fldAt v (t + o) 27 16
  let cards (o : Nat) : Nat := fldAt v (t + o) 15 0
  let rd := fldAt v (t + 0x10C) 15 0
  let cto := fldAt v (t + 0x10C) 31 16
  let rtt := if linkActive s k then (physOf s k).rttLast.2.1 else 8000
  let cap := fldAt v (t + 0x110) 12 0
  own (rate == 0) lc 350 0x201 ++ own (rate == 3 && part064 s) lc 3 0x303 ++ own (ml == 0) lc 350 0x201 ++
  joint (decide (aNom v k (regAt v (linkPg (6 + k) + 0x104)) < ml)) (0x140 + 4 * (linkGroups v k).headD 0) 350 0x201 ++
  own (bits rc 19 16 == 0 || decide (bits rc 11 0 < 64)) (linkPg (6 + k) + 0x10C) 350 0x201 ++
  own (hdr 0x100 == 0 || cards 0x100 == 0) (t + 0x100) 391 0x201 ++ own (hdr 0x104 == 0 || cards 0x104 == 0) (t + 0x104) 391 0x201 ++
  own (hdr 0x108 == 0 || decide (cards 0x108 < 64)) (t + 0x108) 391 0x201 ++
  own (rd == 0) (t + 0x10C) 391 0x201 ++ own (decide (1000 * cto ≤ rd + 1000) || decide (1000 * rd < rtt)) (t + 0x10C) 385 0x501 ++
  own (cap == 0 || decide (4096 < cap)) (t + 0x110) 391 0x201

/-! ## Routes, time, the Croupier, hold-up (R407, R444, R457, R464, R473, R480, R523) -/

def routeViols (v : State) : List Viol :=
  ((List.range 4).flatMap (fun k => [0x160 + 16 * k, 0x161 + 16 * k, 0x167 + 16 * k])).flatMap (fun i =>
    let m := route v i
    let ts := (List.range 8).filter (fun t => m.testBit t)
    own (ts.length != 1) (evrPg + 0x200 + i / 4 * 4) 407 0x201 ++
    joint (ts.length == 1 && ts.any (fun t => decide (t < 6) && !seatPresent v t)) 0x130 407 0x201)

def miscViols (s v : State) : List Viol :=
  let pps := regAt v (timPg + 0x124)
  let src := fldAt v (timPg + 0x100) 3 0
  let hold := pstPg + 0x100
  let byp := flagAt v (hold + 8) 8
  let eta := fldAt v (hold + 8) 6 0
  own (!([0, 1, 8, 9, 10, 11].contains src)) (timPg + 0x100) 444 0x201 ++
  own (bitOf pps 31 && (bits pps 25 16 == 0 || decide (1000 ≤ bits pps 25 16))) (timPg + 0x124) 457 0x201 ++
  own (!byp && fldAt v hold 19 0 == 0) hold 523 0x201 ++ own (!byp && decide (fldAt v (hold + 4) 15 0 < 256)) (hold + 4) 523 0x201 ++
  own (!byp && (eta == 0 || decide (100 < eta))) (hold + 8) 523 0x201 ++
  (v.regs.filter (fun p => decide (0x0B100 ≤ p.1 ∧ p.1 < 0x0F000) && decide (0xE ≤ bits p.2 31 28) && decide (0x100 ≤ p.1 % 0x1000))).map (fun p => ⟨p.1, 464, 0x201, false⟩) ++
  (List.range 256).flatMap (fun a =>
    let c := actCfg v a
    let o := crpPg + 0x5100 + 4 * a
    let kind := actKind c
    own (decide (8 ≤ kind)) o 473 0x201 ++
    joint ([1, 2, 6].contains kind && !(present v).any (fun n => (judgedFns v n).contains (actTarget c))) 0x130 473 0x201 ++
    joint ([4, 7].contains kind && !seatPresent v (actTarget c % 8)) 0x130 473 0x201) ++
  (List.range 16).flatMap (fun e =>
    let c := regAt v (engCfg e)
    let bank := if bitOf c 30 then (engOf s e).bank1 else (engOf s e).bank0
    own (bitOf c 31 && (bank.isEmpty || wordField (bank.getD 0 0) 11 8 != fldAt s (crpPg + 0x184) 3 0)) (engCfg e) 480 0x702)

/-! ## CHECK (R97, R98) -/

/-- Every violation of configuration `v` (a state with its registers); `changes` adds the rules on what would change under the
live state `s`. -/
def violations (s v : State) (changes : Bool) : List Viol :=
  let ns := present v
  let fs := ns.flatMap (judgedFns v)
  laneMapViols v ++ (if changes then moveViols s v else []) ++
  ns.flatMap (fun n => seatCfgViols s v n ++ seatViols s v changes n ++ (judgedFns v n).flatMap (fnViols s v changes n)) ++
  (List.range 4).flatMap (fun i => overlaps 195 (ns.map (fun n => budgetOf v n i)) ++ overlaps 195 (fs.map (fun f => rangeOf v f i))) ++
  overlaps 195 (ns.map (fun n => (vfFirst v n, vfTotal v n, txnPg n + 0x140))) ++
  talonViols v fs ++ ((List.range 4).filter (fun k => !(linkGroups v k).isEmpty)).flatMap (linkViols s v) ++
  routeViols v ++ miscViols s v

/-- One violation for each register that breaks a rule on its own value (R98); one for each clause, with the seat or group it is judged for,
that several registers break together (DESIGN CHOICE, log entry 107). -/
def distinctOwn : List Viol → List Nat → Nat
  | [], _ => 0
  | x :: r, seen => if x.multi then distinctOwn r seen + 1 else if seen.contains x.off then distinctOwn r seen else distinctOwn r (x.off :: seen) + 1

/-- What CHECK reports (R98): the count, and rule, code and register of the lowest offset, then the lowest rule. -/
def checkReport (l : List Viol) : Nat × Nat × Nat × Nat :=
  match l with
  | [] => (0, 0, 0, 0)
  | a :: r =>
    let b := r.foldl (fun b x => if x.off < b.off ∨ (x.off = b.off ∧ x.rule < b.rule) then x else b) a
    (satNat 255 (distinctOwn l []), b.rule, b.code, b.off)

/-- What CHECK of deck d finds now (R97). -/
def checkDeck (s : State) (d : Nat) : Nat × Nat × Nat × Nat := checkReport (violations s (wouldBe s d) true)

/-- At the boundary that ends the trick of the command, CHECK judges the configuration and notes GEN (R97). -/
def judgeChecks (s : State) : State :=
  (List.range 7).foldl (fun s d =>
    if deckBusy s d && fldAt s (deckReg d 0x1A0) 3 0 == 2 && (deckOf s d).verdict.isNone then
      let v := checkDeck s d
      deckMod s d (fun x => { x with verdict := some v, seenGen := s.gen })
    else s) s

end Sys2Proof.Machine
end

