-- ==== Sys2Proof/Machine/Cut.lean ====
section
/-! DEFINITION. The deck commands (R84 to R97, R636, R637), SAVE and the power-on copies (R106, R107, R522), and what a cut does to the
rest of the device (R104, R116, R122, R196, R262, R397, R456, R481, R570). -/

namespace Sys2Proof.Machine

/-! ## Power-on copies (R106, R107) -/

/-- Store offset of power-on copy `c`. -/
def copyAddr (c : Nat) : Nat := 0x010000 + c * 0x100000

/-- The pairs of an image: Table offset and value, in the order of the bytes (R106). -/
def pairsOf (n : Nat) (bs : List Byte) : Tab Word :=
  match n, bs with
  | n + 1, a :: b :: c :: d :: e :: f :: g :: h :: r => (leNat [a, b, c, d], w32 (leNat [e, f, g, h])) :: pairsOf n r
  | _, _ => []

/-- The pairs of the live configuration (R106). -/
def livePairs (s : State) : Tab Word := crcOffs.map (fun o => (o, regAt s o &&& stgMask o))

/-- Bytes of pairs. -/
def pairBytes (l : Tab Word) : List Byte := l.flatMap (fun p => natLe 4 p.1 ++ wordBytes p.2)

/-- Header bytes 0x00 to 0x17 (R106). -/
def copyHead (magic seq : Nat) (ident ref : Word) (count : Nat) : List Byte :=
  natLe 4 magic ++ natLe 2 1 ++ natLe 1 0xB0 ++ natLe 1 0 ++ natLe 4 seq ++ wordBytes ident ++ wordBytes ref ++ natLe 4 count

/-- The whole image, with its MAGIC or with 0 in its place (R106, R522). -/
def copyImage (s : State) (seq : Nat) (whole : Bool) : List Byte :=
  let ps := livePairs s
  let body := pairBytes ps
  let head (m : Nat) : List Byte := copyHead m seq s.activeId (regAt s 0x180) ps.length
  let crc := crcBytes (head 0x4B434544 ++ body)
  let img := head (if whole then 0x4B434544 else 0) ++ wordBytes crc ++ natLe 4 0 ++ body
  img ++ List.replicate ((64 - img.length % 64) % 64) 0#8

/-- A copy as R107 reads it: its SEQ, DECK_ID, CRC_REF and pairs; none where its form or one of its CRCs fails. -/
structure Copy where
  seq   : Nat
  ident : Word
  ref   : Word
  pairs : Tab Word
  deriving DecidableEq, Repr

/-- The value an image gives the register at `off`; 0 where it names none. -/
def pairVal (ps : Tab Word) (off : Nat) : Word := tabGet 0 ps off

/-- Copy `c` of the store, checked but for CHECK (R107). -/
def readCopy (s : State) (c : Nat) : Option Copy :=
  let h := storeRead s (copyAddr c) 0x20
  let n := numAt h 0x14 4
  if !s.store.ready || numAt h 0 4 != 0x4B434544 || numAt h 4 2 != 1 || numAt h 6 1 != 0xB0 || decide (0x100000 < 0x20 + 8 * n) then none
  else
    let body := storeRead s (copyAddr c + 0x20) (8 * n)
    let ps := pairsOf n body
    let ref := w32 (numAt h 0x10 4)
    if crcBytes (h.take 0x18 ++ body) != w32 (numAt h 0x18 4) || crcBytes body != ref then none
    else some { seq := numAt h 8 4, ident := w32 (numAt h 0x0C 4), ref := ref, pairs := ps }

/-- Every STG field takes the value that `val` gives its register; other bits stay (R107). -/
def loadConfig (s : State) (val : Nat → Word) : State :=
  crcOffs.foldl (fun s o => regPut s o (maskWrite (regAt s o) (stgMask o) (val o))) s

/-- What the power-on check of a copy's configuration finds (R107): CHECK, without the rules on what a cut would change. -/
def copyCheck (s : State) (x : Copy) : Nat × Nat × Nat × Nat := checkReport (violations s (loadConfig s (pairVal x.pairs)) false)

/-- Copy `c` where it passes every check of R107. -/
def goodCopy (s : State) (c : Nat) : Option Copy := (readCopy s c).filter (fun x => (copyCheck s x).1 == 0)

/-! ## SAVE (R106, R522) -/

/-- The copy that SAVE writes, and the SEQ of the other one (R106). -/
def saveTarget (s : State) : Nat × Nat :=
  match goodCopy s 0, goodCopy s 1 with
  | none, none => (0, 0)
  | none, some b => (0, b.seq)
  | some a, none => (1, a.seq)
  | some a, some b => if a.seq < b.seq then (0, b.seq) else (1, a.seq)

/-- The batches of an image at store offset `a`, of at most 1,024 granules each (R517). -/
def cutBatches (a : Nat) : Nat → List Byte → List (Nat × List Byte)
  | 0, _ => []
  | n + 1, bs => if bs.isEmpty then [] else (a, bs.take 0x10000) :: cutBatches (a + 0x10000) n (bs.drop 0x10000)

/-- SAVE starts writing (R106, R522): the image with MAGIC 0, and last the granule of the header. Nothing is written in shed mode, nor
where the store failed to initialise. -/
def saveStart (s : State) : State :=
  if s.boot.shed ∨ !s.store.ready then saveDeferred s
  else
    let (c, seq) := saveTarget s
    let seq := (seq + 1) % 2 ^ 32
    let whole := (copyImage s seq true).take 64
    saveNext (storeMod s (fun x => { x with save := some (c, cutBatches (copyAddr c) 17 (copyImage s seq false) ++ [(copyAddr c, whole)]) }))

/-! ## What a cut does beside its values -/

/-- Function slots whose resources of R196 a cut changes. -/
def resourceFns (old s : State) (offs : List Nat) : List Nat :=
  ((offs.filter (fun o => decide (0x1000000 ≤ o ∧ o < 0x2000000) && decide (0x110 ≤ o % 0x1000 ∧ o % 0x1000 < 0x140) && cutChanged old s o)).map
    (fun o => (o - 0x1000000) / 0x1000)).eraseDups.filter (fun f => (fnSeat s f).isSome)

/-- NLk_RST_N is asserted or released (R324, R584). -/
def driveRst (s : State) (k : Nat) (assert_ : Bool) : State :=
  if s.pins.rstN.contains k = assert_ then s
  else emit { s with pins := { s.pins with rstN := if assert_ then setIns k s.pins.rstN else setDel k s.pins.rstN } } (.pin ("NL" ++ toString k ++ "_RST_N") (b2n !assert_))

/-- Port p is taken down by PORT_DOWN (R122). -/
def portTaken (s : State) (p : Nat) : State :=
  if p < 6 then (if dlUp s p then linkLost s p else lanesDown (setLtssm s p 0) p)
  else
    let k := p - 6
    let s := if nlkState s k = 0 then s else sendDown s k 0xB
    driveRst (toDetect s k 0xB) k true

/-- Ports that a cut takes down, and links that it lets enter DETECT (R122, R324). -/
def portsCut (old s : State) : State :=
  let s := (List.range 10).foldl (fun s p =>
    if flagAt s (lanePg p + 0x300) 0 && !flagAt old (lanePg p + 0x300) 0 then portTaken s p else s) s
  (List.range 4).foldl (fun s k =>
    if portPresent s (6 + k) && !flagAt s (lanePg (6 + k) + 0x300) 0 then driveRst s k false else s) s

/-- Sn_CLKREQ_N is asserted on the present seats and released on the others (R584). -/
def clkreqCut (old s : State) : State :=
  (List.range 6).foldl (fun s n =>
    if seatPresent old n = seatPresent s n then s else emit s (.pin ("S" ++ toString n ++ "_CLKREQ_N") (b2n !(seatPresent s n)))) s

/-- A window size that the host has not chosen stays in force on a ready seat when the cut changes FN.WINDOW (R190, R196). -/
def windowCut (old s : State) : State :=
  (List.range 6).foldl (fun s n => [(0x208, pfBarK), (0x218, vfBarK)].foldl (fun s p =>
    if flagAt s (linkStat n) 1 && !bitOf (cfgAt s n p.1) 30 && decide (p.2 old n ≠ p.2 s n) then cfgPut s n p.1 (w32 (2 ^ 30 + p.2 old n * 256)) else s) s) s

/-- A cut's values have become live; `old` is the state before it, `offs` the registers it held staged writes to. Croupier actions of the
same trick come after it (R38). -/
def cutEffects (old s : State) (offs : List Nat) : State :=
  let s := sourceCut (lfwCut old (poolCut old s))
  let s := (List.range 10).foldl (fun s p => (List.range (portLanes s p)).foldl (fun s i => if offs.contains (laneCfg p i) then laneCut s p i else s) s) s
  let s := windowCut old (clkreqCut old (portsCut old s))
  let s := (resourceFns old s offs).foldl (fun s f => setEvt s (fnPg f) 12) s
  let s := if offs.contains 0x130 then regPut s 0x190 (w32 (fldAt s 0x130 26 24)) else s
  crpCut old s

/-- The armed cut of deck d falls due: it is aborted, or it applies (R103, R104). -/
def cutDeck (s : State) (d : Nat) : State :=
  match cutBlock s d with
  | some why => cutAbort s d why
  | none => cutEffects s (cutApply s d) ((deckOf s d).shadow.map (fun p => p.1))

/-- The deck armed for the hand that begins, if any (R101). -/
def dueDeck (s : State) : Option Nat := (List.range 7).find? (fun d => deckState s d == 4 && (deckOf s d).target == handNo s)

/-! ## CHECK, COMMIT_CRC and SAVE end -/

/-- CHECK and COMMIT_CRC complete with House firmware's part: not while it restarts; in ROM_ONLY they end with WRONG_STATE
(R97, R543). -/
def withHouse (s : State) (d op : Nat) (f : State → State) : State :=
  if houseState s = 1 ∨ houseState s = 3 then s
  else if houseState s = 2 then f s
  else deckRefuse (deckUnbusy s d) d op 0x103

/-- CHECK of deck d ends (R97, R98). -/
def checkDone (s : State) (d : Nat) : State :=
  match deckBusy s d && fldAt s (deckReg d 0x1A0) 3 0 == 2, (deckOf s d).verdict with
  | true, some v => withHouse s d 2 (fun s => checkFinish s d v (deckOf s d).seenGen)
  | _, _ => s

/-- COMMIT_CRC of deck d ends (R100). -/
def commitDone (s : State) (d : Nat) : State :=
  if deckBusy s d && fldAt s (deckReg d 0x1A0) 3 0 == 3 then withHouse s d 3 (fun s => commitFinish s d (deckCrc s d)) else s

/-- DECK_CMD of deck d is written; a SAVE that was accepted starts (R106, R636). -/
def deckWrite (s : State) (d : Nat) (r : Req) (op tok : Nat) : State :=
  let s' := deckCmd s d r op tok
  if op = 7 && !deckBusy s d && deckBusy s' d then saveStart s' else s'

/-- 256 rubbers have passed without a sign of the deck's owner (R91). -/
def deckIdle (s : State) (d : Nat) : State :=
  let st := deckState s d
  if 1 ≤ st ∧ st ≤ 3 then deckAbandon s d 0 else s

/-- DECK_IND_DATA of deck d is written; a dropped write is logged in its page (R95). -/
def deckInd (s : State) (d : Nat) (r : Req) (m v : Word) : State :=
  match indWrite s d r m v with
  | some s => s
  | none => logAccess s (deckPg d) r 5 true 0x1C4

/-! ## Commands -/

/-- DECK_OPEN (R90). -/
def execDeckOpen (r : Req) (d : Fin 7) (s : State) : Answer := finish (deckWrite s d.val r 1 0)
/-- DECK_CHECK (R97). -/
def execDeckCheck (r : Req) (d : Fin 7) (tok : BitVec 12) (s : State) : Answer := finish (deckWrite s d.val r 2 tok.toNat)
/-- CHECK_DONE (R98). -/
def execCheckDone (d : Fin 7) (s : State) : Answer := finish (checkDone s d.val)
/-- DECK_COMMIT_CRC (R100). -/
def execDeckCommitCrc (r : Req) (d : Fin 7) (tok : BitVec 12) (s : State) : Answer := finish (deckWrite s d.val r 3 tok.toNat)
/-- COMMIT_DONE (R100). -/
def execCommitDone (d : Fin 7) (s : State) : Answer := finish (commitDone s d.val)
/-- DECK_CUT_AT (R101). -/
def execDeckCutAt (r : Req) (d : Fin 7) (tok : BitVec 12) (s : State) : Answer := finish (deckWrite s d.val r 4 tok.toNat)
/-- DECK_ABANDON (R91). -/
def execDeckAbandon (r : Req) (d : Fin 7) (tok : BitVec 12) (s : State) : Answer := finish (deckWrite s d.val r 5 tok.toNat)
/-- DECK_FORCE_ABANDON (R91). -/
def execDeckForceAbandon (r : Req) (d : Fin 7) (tok : BitVec 12) (s : State) : Answer := finish (deckWrite s d.val r 6 tok.toNat)
/-- DECK_SAVE (R106). -/
def execDeckSave (r : Req) (d : Fin 7) (tok : BitVec 12) (s : State) : Answer := finish (deckWrite s d.val r 7 tok.toNat)
/-- DECK_IDLE_TIMEOUT (R91). -/
def execDeckIdleTimeout (d : Fin 7) (s : State) : Answer := finish (deckIdle s d.val)
/-- DECK_IND_WRITE (R95). -/
def execDeckIndWrite (r : Req) (d : Fin 7) (data : Word) (s : State) : Answer := finish (deckInd s d.val r 0xFFFFFFFF#32 data)

end Sys2Proof.Machine
end

