-- ==== Sys2Proof/Machine/Boot.lean ====
section
/-! DEFINITION. Resets and the boot sequence (R573 to R590), cut 0 (R107, R108), the erase of a returned part (R531). -/

namespace Sys2Proof.Machine

def bootStat : Nat := 0x1D4
/-- PHASE of BOOT_STAT (R580). -/
def phase (s : State) : Nat := fldAt s bootStat 31 28

/-! ## Cold reset and RESET_N (R573, R574, R587) -/

/-- Output pins take their RESET_N state (R584). -/
def pinsLow (s : State) : State :=
  let s := (List.range 6).foldl (fun s n => pwrEn s n false) s
  let s := (List.range 4).foldl (fun s k => driveRst s k true) s
  let s := if s.tim.pps = 0 then s else emit s (.pin "PPS_OUT" 0)
  if pendingFor s 7 then emit s (.pin "MGMT_ALERT_N" 1) else s

/-- The store as a batch that was being written leaves it: some of its granules are written, no later one (R574, R590). -/
def batchTorn (s : State) : State :=
  match s.store.busy with
  | none => s
  | some b =>
    let (n, s) := freshFree s
    storeWrite s b.addr (b.data.take (64 * (Config.freeValue n % ((b.data.length + 63) / 64 + 1))))

/-- The state after a cold reset or RESET_N (R587): what the fuses, the store, the flash and the part itself hold is kept; a pending
transition takes effect (R529); the token lockout ends with a cold reset alone (R530). -/
def restart (s : State) (cause : Nat) (cold : Bool) : State :=
  let s := batchTorn (pinsLow s)
  let l := s.lcs
  let l := { l with fuse := (if l.next = 0 then l.fuse else l.next), next := 0, svnNext := [0, 0, 0], fails := (if cold then 0 else l.fails), nonce := l.nonce + 1, debugLeft := none }
  let keep (t : State) (o : Nat) : State := regPut t o (regAt s o)
  let t := { State.reset with
    store := { State.reset.store with mem := s.store.mem, flash := s.store.flash, torn := s.store.torn },
    lcs := l, pins := { State.reset.pins with faultN := s.pins.faultN, tripN := s.pins.tripN, gpio := s.pins.gpio },
    boot := { State.reset.boot with cause := cause }, freeCtr := s.freeCtr, out := s.out, pending := s.pending }
  fldPut ([0x104, pstPg + 0x144, pstPg + 0x148].foldl keep t) bootStat 17 16 cause

/-- COLD_RESET (R495, R573): VDD_AON rises from absent, or (`wake`) WAKE_IN_N is asserted in Off, which else does nothing. -/
def coldReset (s : State) (wake : Bool) : State :=
  if !wake then
    let s := restart s 0 true
    pwrMod s (fun p => { p with wake := (0, 0, 7, 0) })
  else if isOff s then
    let s := restart s 2 true
    pwrMod s (fun p => { p with wake := (0, 0x1E0, 4, 0) })
  else s

/-! ## Table soft reset (R588, R589) -/

/-- STATUS of RESET_CMD (R588). -/
def resetEnd (s : State) (st : Nat) : State := fldPut s 0x1D0 31 28 st

/-- SOFT_RESET is written to RESET_CMD (R588). -/
def softReset (s : State) (r : Req) : State :=
  if !trusted s r then logAccess s tblPg r 5 true 0x1D0
  else if fldAt s 0x1D0 15 4 ≠ 0x5EA then resetEnd s 1
  else if s.boot.soft ∨ phase s ≠ 7 then resetEnd s 2
  else if s.boot.shed then resetEnd s 3
  else resetEnd { s with boot := { s.boot with soft := true } } 0

/-- Seat n goes to Detect; its quarantined tags and nothing else of the link are kept (R587, R589). -/
def softSeat (s : State) (n : Nat) : State :=
  let s := regPut (lanesDown (seatLinkDown s n 0) n) (linkStat n) 0
  seatMod (releaseClaims s n) n (fun x => { Seat.down with tags := x.tags, gen := x.gen, freed := x.freed, rttLast := x.rttLast, rttHand := x.rttHand })

/-- Nicen Link k goes to DETECT with DOWN rows; NLk_RST_N is asserted (R589). -/
def softLink (s : State) (k : Nat) : State :=
  let s := if nlkState s k = 0 then s else sendDown s k 0
  driveRst (toDetect s k 0) k true

/-- What is under way in House firmware ends (R590): a SAVE, a LOAD, the running command; an ACTIVATE from ROM service goes on, as the
reset is its own. -/
def softHouse (s : State) : State :=
  let s := if s.store.save.isSome then deckReport (deckUnbusy (storeMod s (fun x => { x with save := none })) 0) 0 7 2 1 91 0x105 (deckReg 0 0x1A0) else s
  let s := if s.crp.load.isSome then setEvt (loadEnd (crpMod s (fun c => { c with load := none })) 6) crpPg 9 else s
  let s := storeMod s (fun x => { x with wait := x.wait.filter (fun b => b.who != .save && b.who != .crp) })
  if s.house.cmd.isSome && s.house.began && s.boot.slot.isNone then hseEnd s 0xE else s

/-- The soft-reset instant (R587, R589): once no batch is being written. The cards that a SYNC waited for are burned, so it ends; bits in the
dirty cache are lost (R224, R237). The folds of PWR_FAIL stay. What R587 does not list is kept. -/
def softInstant (s : State) : State :=
  if !s.boot.soft ∨ s.store.busy.isSome then s
  else
    let s := softHouse s
    let s := (List.range 6).foldl softSeat s
    let s := (List.range 4).foldl softLink s
    let s := burnAll s (fun _ => true) .down
    let s := (s.xlt.sync.map (fun p => p.1)).foldl (fun s n => indEnd s n 0) (s.xlt.lines.foldl loseLine s)
    let s := (List.range 7).foldl (fun s d => if deckState s d = 0 then s else deckReport (deckClear s d) d 0 2 1 91 0x105 (deckReg d 0x1A0)) s
    let s := if s.boot.shed then s else (List.range 11).foldl (fun s p => regPut s (foldReg p) 0) s
    let s := (List.range 16).foldl (fun s e => engMod (showEng s e 0) e (fun x => { Eng.idle with passes := x.passes, overruns := x.overruns, applied := x.applied, discarded := x.discarded, recDrop := x.recDrop, lastHand := x.lastHand })) s
    let s := crpMod s (fun c => { c with ovr := [], load := none })
    let s := regPut (releaseClaims s 6) hseStat (setBits (regAt s hseStat &&& 0xFF#32) 31 28 1)
    let s := fldPut (lcsMod s (fun l => { l with nonce := l.nonce + 1, debugLeft := none })) (lcsPg + 0x100) 26 26 0
    let s := fldPut (fldPut s bootStat 31 28 4) bootStat 17 16 3
    let h := s.house
    { s with
      parLive := s.parLive.filter (fun o => stgMask o == 0), parShadow := [], talon := { Talon.full with waited := s.talon.waited }, dealer := { Dealer.fresh with dealtCnt := s.dealer.dealtCnt, stamp := s.dealer.stamp },
      xacts := [], lfw := s.lfw.filter (fun p => decide (64 ≤ p.1)), fns := [], queues := [], cells := { s.cells with now := [], last := [], load := [] },
      intr := { s.intr with pool := [], fired := [] }, xlt := { Xlt.fresh with inject := s.xlt.inject },
      house := { House.idle with cmd := h.cmd, args := h.args, began := h.began, record := h.record, seq := h.seq },
      pwr := { s.pwr with hot := false }, boot := { s.boot with soft := false, cause := 3, gone := [] }, foldFresh := [], foldBy := [], clearing := [] }

/-! ## The boot ROM (R531, R534, R541) -/

/-- The erase of the first boot in RETURN (R531): owner secrets and every region but the calibration; then one LIFE_CYCLE record. -/
def returnErase (s : State) : State :=
  let gone (a : Nat) : Bool := decide (0x010000 ≤ a ∧ a < 0x450000) || decide (0x460000 ≤ a)
  let s := storeMod s (fun x => { x with mem := x.mem.filter (fun p => !gone p.1), torn := x.torn.filter (fun k => decide (k / 2 ^ 23 < 4)) })
  lifeRec (lcsMod s (fun l => { l with owner := [], revoked := true })) 3 4 3 []

/-- Step 3 (R499, R531, R577): the store, the AVS step, the erase of a returned part. -/
def bootStore (s : State) (ok : Bool) : State :=
  let s := storeMod (fldPut s bootStat 19 19 (b2n !ok)) (fun x => { x with ready := ok })
  let v := if ok then clampTo Config.startMv 650 850 else 800
  let s := emit (pwrMod s (fun p => { p with silent := false, cmd := v, runCmd := v })) (.pin "AVS" v)
  if ok && s.lcs.fuse == 4 && !s.lcs.revoked then returnErase s else s

/-- Step 4 (R541, R551): the slot whose House image is accepted, the named one first; SLOT_A_FAIL. -/
def bootSlot (s : State) : Option Nat × State :=
  let order := match s.boot.slot with
    | some k => [k, 1 - k]
    | none => [0, 1]
  let found := order.find? (houseOk s)
  let tried := match found with
    | some k => order.takeWhile (fun j => j != k)
    | none => order
  let s := fldPut s bootStat 18 18 (b2n (tried.contains 0))
  match found with
  | some k => (some k, svnSeen s 1 (flashRead s k 0 0x800))
  | none => (none, s)

/-- Step 5 (R542): the slot's Lane image, or LIMP. HSE.STAT.WDOG counts on over a table soft reset (R545). -/
def bootLane (s : State) (slot : Nat) : State :=
  let v := imageVer s slot 0
  let s := regPut s hseStat (setBits (setBits (setBits (setBits (regAt s hseStat &&& 0xFF#32) 31 28 1) 27 27 slot) 23 16 v.1) 15 8 v.2)
  if laneOk s slot then
    svnSeen (houseMod s (fun h => { h with lane := verNum (imageVer s slot 1) })) 2 (flashRead s slot (areaAt 1) 0x800)
  else
    let s := setEvt (fldPut s hseStat 26 26 1) hsePg 11
    firmRec s 4 slot (verNum v) (verNum v)

/-- Step 5 (R577, R578): Croupier slot i goes into bank 0 of engine i where it is accepted; bank 1 is empty. -/
def bootSlots (s : State) : State :=
  if !s.store.ready then s
  else (List.range 16).foldl (fun s i => match slotCheck s i with
    | .ok ws => putBank (svnSeen s 3 (storeRead s (slotAddr i + 0x3800) 0x800)) i false ws
    | .empty | .badSig | .svn | .badHeader | .badCode => s) s

/-! ## Cut 0 (R107, R108) -/

/-- The route bytes of word w of EVR.ROUTE in the built-in deck (R413): Table sources to 0xC0, shared ones to 0x40. -/
def builtinRoute (w : Nat) : Nat :=
  ((List.range 4).map (fun j =>
    let i := 4 * w + j
    if !namesSource i then 0 else if 0x160 ≤ i ∧ i < 0x1A0 then 0x40 * 2 ^ (8 * j) else 0xC0 * 2 ^ (8 * j))).sum

/-- The built-in deck's values of the Table pages below 0x100 (R108, R413, R457, R523). -/
def builtinTable (off : Nat) : Nat :=
  if off = 0x130 then 0x70000002
  else if off = 0x140 then 1
  else if off = talPg + 0x100 then 0x8000
  else if off = timPg + 0x100 then 8
  else if off = timPg + 0x120 then 0x40
  else if off = timPg + 0x124 then 0x00640000
  else if off = evrPg + 0x180 then 1
  else if evrPg + 0x200 ≤ off ∧ off < evrPg + 0x400 then builtinRoute ((off - evrPg - 0x200) / 4)
  else if off = pstPg + 0x108 then 0x100
  else 0

/-- The built-in deck's values of port p's page `sub` (R108, R391): `rate` is MAX_RATE of the seats. -/
def builtinPort (rate p sub o : Nat) : Nat :=
  if sub = 7 ∧ 0x100 ≤ o ∧ o < 0x180 then 0x3C003000
  else if p < 6 then
    match sub, o with
    | 0, 0x100 => rate
    | 0, 0x104 => 0x80808200
    | 1, 0x140 => 0x00060000
    | 1, 0x144 => if p = 0 then 0x100 else 0
    | 1, 0x14C => if p = 0 then 0x800 else 0
    | 1, 0x154 => if p = 0 then 0x100000 else 0
    | 1, 0x15C => if p = 0 then 0x1000 else 0
    | 1, 0x160 => if p = 0 then 0x8000 else 0
    | 3, 0x100 => 0x6403
    | _, _ => 0
  else
    match sub, o with
    | 1, 0x100 => 0x00400040
    | 1, 0x104 => 0x04000400
    | 1, 0x108 => 0x04001BC0
    | 1, 0x10C => 0x0032000A
    | 1, 0x110 => 0x400
    | _, _ => 0

/-- The built-in deck's values of PF 0's page (R108). -/
def builtinFn (o : Nat) : Nat :=
  match o with
  | 0x110 => 0x100
  | 0x114 => 0x800
  | 0x11C => 0x100000
  | 0x124 => 0x1000
  | 0x128 => 0x1000
  | 0x12C => 0x4000
  | 0x130 => 0x10000400
  | 0x134 => 1
  | 0x138 => 0xC00
  | 0x13C => 0x96121F3D
  | _ => 0

/-- The built-in deck (R108). -/
def builtin (s : State) (off : Nat) : Word :=
  let pg := off / 0x1000
  w32 (if pg < 0x100 then builtinTable off
    else if pg < 0x1A0 then builtinPort (if part064 s then 6 else 7) ((pg - 0x100) / 16) (pg % 16) (off % 0x1000)
    else if pg = 0x1000 then builtinFn (off % 0x1000)
    else 0)

/-- A power-on copy fails its checks (R99, R107). -/
def imageInvalid (s : State) : State := deckReport s 0 0 2 1 107 0x801 0

/-- The power-on copies in the order they are tried (R107): by the SEQ in their headers, copy 0 first when equal. -/
def copyOrder (s : State) : List Nat :=
  let seq (c : Nat) : Nat := numAt (storeRead s (copyAddr c) 0x20) 8 4
  if seq 0 < seq 1 then [1, 0] else [0, 1]

/-- The deck that cut 0 applies: its source code, values, reference, identifier (R107, R541, R577). -/
def powerOnDeck (s : State) (rom : Bool) : (Nat × (Nat → Word) × Word × Word) × State :=
  let b := (0, builtin s, configCrc (fun o => builtin s o &&& stgMask o), 0)
  if rom then (b, s)
  else
    let try_ (c : Nat) : Option (Nat × Copy) := (goodCopy s c).map (fun x => (c, x))
    match copyOrder s with
    | [a, c] => (match try_ a, try_ c with
      | some (i, x), _ => ((i + 1, pairVal x.pairs, x.ref, x.ident), s)
      | none, some (i, x) => ((i + 1, pairVal x.pairs, x.ref, x.ident), imageInvalid s)
      | none, none => (b, imageInvalid (imageInvalid s)))
    | _ => (b, s)

/-- A BOOT record (R526): boot slot, House and Lane versions, LAST_WAKE source. -/
def bootRec (s : State) (slot : Nat) : State :=
  let v := houseVer s
  let l := if houseLimp s then 0 else s.house.lane
  putRec s 6 64 [w32 (slot + v / 256 * 256 + v % 256 * 65536 + l / 256 * 2 ^ 24), w32 (l % 256 + s.pwr.wake.2.1 * 256)]

/-- Cut 0 applies at trick 0 of the hand that begins at table time `t` (R107, R230, R570, R576): every STG field, the reference, the
active deck ID, GEN 0, the button, entries zeroed. The engines that the deck enables start (R481, R578). -/
def cutZero (s : State) (t : Nat) (rom : Bool) : State :=
  let old := { s with crp := { s.crp with engs := [] } }
  let ((src, val, ref, ident), s) := powerOnDeck s rom
  let s := loadConfig { s with time := BitVec.ofNat 64 t, gen := 0, activeId := ident, parLive := s.parLive.filter (fun o => stgMask o == 0), xlt := { s.xlt with xt := [], ret := [], ecc := [] } } val
  let s := fldPut (regPut s 0x180 ref) 0x188 31 31 0
  let s := regPut s 0x190 (w32 (fldAt s 0x130 26 24))
  let s := fldPut (fldPut (fldPut s bootStat 27 26 src) bootStat 25 24 (if rom then 2 else 0)) bootStat 11 0 (handNo s)
  -- a table soft reset restarts Lane firmware, but counts on (R127, R587)
  let s := lfwPut (sourceCut s) (fun g => if s.boot.cause = 3 then setBits (lfwWord s) 7 0 (bits (lfwOf old g) 7 0) else lfwWord s)
  let s := (List.range 4).foldl (fun s k => physMod s k (fun x => { x with share := 10 * (linkGroups s k).length })) s
  let s := clkreqCut { s with regs := tabIns s.regs 0x130 0xFFF#32 } s
  let s := (List.range 4).foldl (fun s k => if portPresent s (6 + k) && !flagAt s (lanePg (6 + k) + 0x300) 0 then driveRst s k false else s) s
  (List.range 16).foldl (fun s e => if engEn s e then startPass (exchange old s e) e else s) s

/-- Presence is sampled at cut 0 (R564): a present slot is powered at once. -/
def bootSlotPower (s : State) (n : Nat) (low perst : Bool) : State :=
  let s := fldPut s (slotStat n) 24 24 (b2n perst)
  if low then pwrEn (setSlot (fldPut s (slotStat n) 28 27 3) n 3) n true else s

/-! ## BOOT (R575) -/

/-- Steps 4 to 6, from a release or from a soft-reset instant (R575, R589). -/
def bootHouse (s : State) (b : BootIn) : State :=
  let (slot, s) := bootSlot s
  let rom := slot.isNone
  let s := match slot with
    | some k => bootSlots (bootLane s k)
    | none => regPut s hseStat (regAt s hseStat &&& 0xFF#32)
  let t := (s.time.toNat / handUnits + 1 + b.hands.val) * handUnits
  let s := cutZero s t rom
  let s := if rom then s else setHouse s 2
  let s := if s.boot.cause = 3 then s else (List.range 6).foldl (fun s n => bootSlotPower s n (b.prsnt.getLsbD n) (b.perst.getLsbD n)) s
  let s := fldPut s bootStat 31 28 7
  let s := bootRec s (slot.getD 0xFF)
  let s := if s.boot.cause = 2 then setEvt s pwrPg 9 else s
  let act := match s.house.cmd with
    | some (0x13, _) => s.house.began
    | _ => false
  let s := if act then (if slot.isSome && slot == s.boot.slot then hseOk s (versionWord s (runSlot s)) else hseEnd s 0xE) else s
  let s := { s with boot := { s.boot with slot := none } }
  if rom then s else hseBegin (houseMod s (fun h => { h with kick := 0 }))

/-- BOOT (R575 to R579, R601): with no core it stays in step 1; SCRAP stops in step 2; in shed mode it does not go on. -/
def bootRun (s : State) (b : BootIn) : State :=
  if s.boot.shed ∨ isOff s then s
  else if phase s = 4 then bootHouse s b
  else if phase s ≠ 1 then s
  else if b.test && (s.lcs.fuse == 1 || s.lcs.fuse == 4) then s
  else
    let s := fldPut s bootStat 23 20 b.cores.toNat
    if b.cores = 0 then s
    else
      let a := 0x2C + 2 * b2n (b.gpio.getLsbD 2) + b2n (b.gpio.getLsbD 1)
      let s := { s with mgmt := { i3c := false, addr := a, dyn := none, eid := none }, pins := { s.pins with gpio := b.gpio.toNat } }
      if s.lcs.fuse = 5 then fldPut (fldPut s bootStat 31 28 8) bootStat 25 24 3
      else bootHouse (bootStore s b.storeOk) b

/-! ## Commands -/

/-- COLD_RESET (R573). -/
def execColdReset (wake : Bool) (s : State) : Answer := finish (coldReset s wake)
/-- RESET_N (R574). -/
def execResetN (s : State) : Answer := finish (restart s 1 false)
/-- BOOT (R575). -/
def execBoot (b : BootIn) (s : State) : Answer := finish (bootRun s b)
/-- SOFT_RESET (R588). -/
def execSoftReset (r : Req) (s : State) : Answer := finish (softReset s r)
/-- SOFT_RESET_INSTANT (R589). -/
def execSoftResetInstant (s : State) : Answer := finish (softInstant s)

end Sys2Proof.Machine
end

