-- ==== Sys2Proof/Machine/Monitor.lean ====
section
/-! DEFINITION. The safety monitor's commands: parity (R76 to R78), fold and clear (R421, R422, R438), clock, supply and monitor faults
(R423 to R425), SAF.INJECT (R437, R439). -/

namespace Sys2Proof.Machine

/-! ## Parity (R76 to R78) -/

/-- The register at Table offset `off` carries parity over its live value: it holds a RW, RWL, RWS or STG field (R76). -/
def hasParity (off : Nat) : Bool :=
  match regFlds off with
  | some fs => decide (off % 4 = 0 ∧ accMask fs [.rw, .rwl, .rws, .stg] ≠ 0)
  | none => false

/-- ERR_STAT.PARITY and PARITY_LOG of the page of `off` (R59, R76, R78). -/
def parityReport (s : State) (off : Nat) (shadow : Bool) : State :=
  let pg := off / 0x1000 * 0x1000
  let s := if flagAt s (pg + 0x01C) 0 then s else regPut s (pg + 0x044) (setBits (setBits 0 12 12 shadow.toNat) 11 0 off)
  setErrBit s pg 0

/-- A mismatch in a live value: reported, POISON, and a fold of the page's scope (R76). -/
def parityLive (s : State) (off : Nat) (inj : Bool) : State :=
  if hasParity off && !s.parLive.contains off then
    faultPage (parityReport { s with parLive := setIns off s.parLive } off false) 0x04 off 0 inj
  else s

/-- A mismatch in a shadow copy: reported without a fold (R78). -/
def parityShadow (s : State) (off : Nat) : State :=
  if decide (off % 4 = 0 ∧ stgMask off ≠ 0) && !s.parShadow.contains off then
    parityReport { s with parShadow := setIns off s.parShadow } off true
  else s

/-! ## Folds by command (R422, R438) -/

/-- STATUS of SAF.FOLD_CMD. -/
def foldStatus (s : State) (v : Nat) : State := fldPut s (safPg + 0x120) 31 28 v

/-- A write of SAF.FOLD_CMD is honoured for the button PF, MGMT and House firmware only (R438). -/
def foldWrite (s : State) (r : Req) (f : State → State) : State :=
  if trusted s r then f s else logAccess s safPg r 5 true 0x120

/-- FOLD of PORT p, 0xA for the table, with cause COMMAND (R438). -/
def foldCommand (s : State) (p : Nat) : State :=
  if p < 10 then faultPort (foldStatus s 0) p 0x14 0 false
  else if p = 10 then faultTable (foldStatus s 0) 0x14 0 false
  else foldStatus s 5

/-- CLEAR of PORT p: refused with a status, or the fold ends at the next trick boundary (R422). -/
def clearCommand (s : State) (p : Nat) : State :=
  let c := clearStatus s p
  let s := foldStatus s c
  if c = 0 ∧ portFolded s p then { s with clearing := setIns p s.clearing } else s

/-- A write of SAF.FOLD_CMD: OP and PORT (R438). -/
def foldCmdWrite (s : State) (r : Req) (v : Word) : State :=
  foldWrite s r (fun s => match bits v 1 0 with
    | 1 => foldCommand s (bits v 7 4)
    | 2 => clearCommand s (bits v 7 4)
    | _ => s)

/-- A folded port, or the folded table, holds nothing any more: DRAINED (R422, R567). -/
def foldDrained (s : State) (p : Nat) : State :=
  if portFolded s p && !flagAt s (foldReg p) 30 && isDrained s p then
    let s := fldPut s (foldReg p) 30 30 1
    if p < 6 then slotDrained s p else s
  else s

/-! ## Faults the monitor sees (R423 to R425) -/

/-- SYSREF, the deal clock or the time clock is lost (R423). -/
def clockLoss (s : State) (inj : Bool) : State := faultTable (setErrBit s safPg 10) 0x08 safPg inj
/-- A rail left its window for longer than 200 ns (R424). -/
def supplyFault (s : State) (inj : Bool) : State := faultTable (setErrBit s safPg 11) 0x09 safPg inj
/-- The monitor's cores disagree, or the monitor's own access raised a bus error (R425, R60). -/
def monitorFault (s : State) (inj : Bool) : State := faultTable (setErrBit s safPg 9) 0x0D safPg inj
/-- The hand was not 20.480 µs ± 2% long (R426). -/
def timeBaseFault (s : State) (inj : Bool) : State := faultTable (setErrBit s safPg 12) 0x0C safPg inj

/-! ## SAF.INJECT (R439) -/

/-- A write of SAF.INJECT: its KIND, where it has one, waits for the next trick boundary (R439), in place of one that waits already (log
entry 99). -/
def injectSaf (s : State) (r : Req) (v : Word) : State :=
  injector s r safPg 0x1E0 (fun s =>
    let k := bits v 3 0
    if 1 ≤ k ∧ k ≤ 9 then
      rwPut { s with safe := { s.safe with inj := [(k, bits v 31 4)] } } (safPg + 0x1E0) v
    else rwPut s (safPg + 0x1E0) (setBits v 3 0 0))

/-- An injection acts (R439): KIND, and bits [31:4] of the word written. -/
def injectOne (s : State) (kind tgt : Nat) : State :=
  match kind with
  | 1 => if tgt / 2 ^ 27 = 1 then parityShadow s (tgt % 2 ^ 27) else parityLive s (tgt % 2 ^ 27) true
  | 2 => { s with safe := { s.safe with crcFlip := true } }
  | 3 => clockLoss s true
  | 4 => { s with safe := { s.safe with lowLeft := 80 } }
  | 5 => { s with safe := { s.safe with long := 2 } }
  | 6 => monitorFault s true
  | 7 => ctxFlip s (tgt % 16384)
  | 8 => { s with safe := { s.safe with kickOff := s.time.toNat + 4 * handUnits } }
  | 9 => { s with safe := { s.safe with passOff := s.time.toNat + 4 * handUnits } }
  | _ => s

/-- A trick of 5 ns in which VDD_CORE's low comparator is forced: held out for longer than 200 ns, that is for the 41st boundary on, it is a
SUPPLY fault, once; it is forced for 400 ns (R424, R439). -/
def lowComparator (s : State) : State :=
  if s.safe.lowLeft = 0 then s
  else
    let n := s.safe.lowFor + 1
    let l := s.safe.lowLeft - 1
    let s := { s with safe := { s.safe with lowFor := if l = 0 then 0 else n, lowLeft := l } }
    if n = 41 then supplyFault s true else s

/-- The injection that waits acts at a trick boundary, and KIND reads 0 (R439). -/
def injectApply (s : State) : State :=
  let s := lowComparator s
  let l := s.safe.inj
  let s := { s with safe := { s.safe with inj := [] } }
  if l.isEmpty then s else l.foldl (fun s x => injectOne s x.1 x.2) (fldPut s (safPg + 0x1E0) 3 0 0)

/-- The word a SAF.INJECT command writes. -/
def injectWord (kind target : Nat) (shadow : Bool) : Word := BitVec.ofNat 32 (kind + 16 * target + 2 ^ 31 * b2n shadow)

/-! ## Commands -/

/-- PARITY_MISMATCH (R76). -/
def execParityMismatch (off : BitVec 27) (s : State) : Answer := finish (parityLive s off.toNat false)
/-- SHADOW_PARITY_MISMATCH (R78). -/
def execShadowParityMismatch (off : BitVec 27) (s : State) : Answer := finish (parityShadow s off.toNat)
/-- FOLD_COMMAND (R438). -/
def execFoldCommand (r : Req) (p : Fin 16) (s : State) : Answer := finish (foldWrite s r (fun s => foldCommand s p.val))
/-- CLEAR_COMMAND (R422). -/
def execClearCommand (r : Req) (p : Fin 16) (s : State) : Answer := finish (foldWrite s r (fun s => clearCommand s p.val))
/-- FOLD_DRAINED (R422). -/
def execFoldDrained (p : Fin 11) (s : State) : Answer := finish (foldDrained s p.val)
/-- CLOCK_LOSS (R423). -/
def execClockLoss (s : State) : Answer := finish (clockLoss s false)
/-- SUPPLY_FAULT (R424). -/
def execSupplyFault (s : State) : Answer := finish (supplyFault s false)
/-- MONITOR_MISMATCH (R425). -/
def execMonitorMismatch (s : State) : Answer := finish (monitorFault s false)
/-- INJECT_PARITY (R439): the live value or the shadow copy of the register at `target`. -/
def execInjectParity (r : Req) (shadow : Bool) (target : BitVec 27) (s : State) : Answer := finish (injectSaf s r (injectWord 1 target.toNat shadow))
/-- INJECT_CRC (R439). -/
def execInjectCrc (r : Req) (s : State) : Answer := finish (injectSaf s r (injectWord 2 0 false))
/-- INJECT_CLOCK (R439). -/
def execInjectClock (r : Req) (s : State) : Answer := finish (injectSaf s r (injectWord 3 0 false))
/-- INJECT_SUPPLY (R439). -/
def execInjectSupply (r : Req) (s : State) : Answer := finish (injectSaf s r (injectWord 4 0 false))
/-- INJECT_TIME_BASE (R439). -/
def execInjectTimeBase (r : Req) (s : State) : Answer := finish (injectSaf s r (injectWord 5 0 false))
/-- INJECT_MONITOR (R439). -/
def execInjectMonitor (r : Req) (s : State) : Answer := finish (injectSaf s r (injectWord 6 0 false))
/-- INJECT_QCTX (R439): queue pair k. -/
def execInjectQctx (r : Req) (k : Fin 16384) (s : State) : Answer := finish (injectSaf s r (injectWord 7 k.val false))
/-- INJECT_HSE_WDOG (R439). -/
def execInjectHseWdog (r : Req) (s : State) : Answer := finish (injectSaf s r (injectWord 8 0 false))
/-- INJECT_CRP_WDOG (R439). -/
def execInjectCrpWdog (r : Req) (s : State) : Answer := finish (injectSaf s r (injectWord 9 0 false))

end Sys2Proof.Machine
end

