-- ==== Sys2Proof/Machine/Bus.lean ====
section
/-! DEFINITION. Register accesses: where an access leads (R47, R61, R188, R189, R628 to R632), width and bit-word rules (R62 to R65, R71 to R73),
what a read gives (R8, R69, R77, R409), what a write does (R8, R9, R55, R57, R59, R75), and the rows that are register writes. -/

namespace Sys2Proof.Machine

/-! ## Where an access leads -/

/-- What a 32-bit word of the Table space is. -/
inductive Target
  | none
  | reg (off : Nat)
  /-- the bit word of bit `b` of the register at `off` (R71) -/
  | bitWord (off b : Nat)
  | entry (key half : Nat)
  | pool (e w : Nat)
  | ctx (k o : Nat)
  | bell (f q w : Nat)
  /-- word `w` of vector `v` in f's BAR4, and word `j` of its PBA (R191, R398) -/
  | vec (f v w : Nat)
  | pba (f j : Nat)
  deriving DecidableEq, Repr

/-- The word at Table offset `off`, the doorbell mirror apart (R47, R628 to R632). -/
def tableTarget (off : Nat) : Target :=
  let o := off % 0x1000 / 4 * 4
  let base := off / 0x1000 * 0x1000
  match pageKindOf (off / 0x1000) with
  | some k =>
    if o < 0x800 then (if (pageFlds k o).isSome then .reg (base + o) else .none)
    else
      let i := 0x100 + 4 * ((o - 0x800) / 128)
      if (pageFlds k i).isSome then .bitWord (base + i) ((o - 0x800) / 4 % 32) else .none
  | none =>
    match entOff off with
    | some (key, half) => .entry key half
    | none =>
      if 0x2800000 ≤ off ∧ off < 0x2900000 then .pool ((off - 0x2800000) / 16) (off / 4 % 4)
      else if 0x2C00000 ≤ off ∧ off < 0x2E00000 then .ctx ((off - 0x2C00000) / 128) (off % 128 / 4 * 4)
      else .none

/-- The page in which a bus error at Table offset `off` is logged (R61); `other` where it addresses no page and no array. -/
def logPage (off other : Nat) : Nat :=
  if (pageKindOf (off / 0x1000)).isSome then off / 0x1000 * 0x1000
  else match tableTarget off with
    | .entry _ _ => xltPg
    | .pool _ _ => msxPg
    | .ctx _ _ => dmaPg
    | _ => other

/-- The pages that answer in ROM service and before cut 0: TBL, PST, LCS and HSE (R541, R576). -/
def recoveryPage (off : Nat) : Bool := [0x00, 0x12, 0x13, 0x14].contains (off / 0x1000)
/-- The device is in ROM service (R541, R580). -/
def romService (s : State) : Bool := fldAt s 0x1D4 25 24 == 2

/-- A doorbell word of function f at offset `o` of its 4 KiB (R187, R280). -/
def bellTarget (s : State) (f o : Nat) : Target :=
  if o / 16 < queueCount s f then .bell f (o / 16) (o / 4 % 4) else .none

/-- Where an access of a host on seat n leads that came through the BAR0 of f (R187 to R189, R541), and the page for its errors. -/
def hostTarget (s : State) (n f off : Nat) : Target × Nat :=
  let big := f == n && (seatOf s n).bigBar
  let g := (off - 0x3000000) / 0x1000
  if romService s && big && n == buttonSeat s then
    (if recoveryPage off then (tableTarget off, logPage off (fnPg f)) else (.none, fnPg f))
  else if 0x3000000 ≤ off ∧ off < 0x4000000 then
    (if (big && fnSeat s g == some n) || g == f then (bellTarget s g (off % 0x1000), fnPg g) else (.none, fnPg f))
  else if (big && n == buttonSeat s) || off / 0x1000 == 0x1000 + f then (tableTarget off, logPage off (fnPg f))
  else (.none, fnPg f)

/-- Where requester r's access at Table offset `off` leads, and the page in which its bus error is logged (R60, R61, R188, R576). -/
def target (s : State) (r : Req) (off : Nat) : Target × Nat :=
  if r.code.val < 6 then hostTarget s r.code.val r.fn.val off
  else if r.code.val = 6 ∧ (romService s ∨ phase s ≠ 7) ∧ !recoveryPage off then (.none, tblPg)
  else (tableTarget off, logPage off tblPg)

/-- The requester reaches the register fabric: a host through a BAR that answers (R192), MGMT from the end of boot step 3 (R576), all but the
monitor outside Off and SCRAP (R495, R528). -/
def mayAccess (s : State) (r : Req) : Bool :=
  let c := r.code.val
  if c = 8 then true
  else if isOff s || phase s == 8 then false
  else if c < 6 then phase s == 7 && fnSeat s r.fn.val == some c && barsOn s r.fn.val && dlUp s c
  else decide (4 ≤ phase s)

/-! ## Width rules (R62 to R65) -/

/-- A word's byte enables and bytes: four places. -/
abbrev Lanes4 := List (Option Byte)

/-- The enabled bytes stand together (R62). -/
def contiguous (l : Lanes4) : Bool := ((l.dropWhile (fun b => b.isNone)).dropWhile (fun b => b.isSome)).all (fun b => b.isNone)

/-- The KIND a word access breaks, 0 for none: SCATTERED, or PARTIAL in the W1C, W1S, CMD, WO and doorbell column (R62). -/
def widthKind (strict : Bool) (l : Lanes4) : Nat :=
  if !contiguous l then 3
  else if strict && l.any (fun b => b.isSome) && l.any (fun b => b.isNone) then 2
  else 0

/-- Some enabled byte touches a field of the strict column (R63). -/
def strictHit (fs : List Fld) (l : Lanes4) : Bool :=
  decide (accMask fs [.w1c, .w1s, .cmd, .wo] &&& BitVec.ofNat 32 (byteMask l 0) ≠ 0)

/-- The access to a bit word is refused by its width (R62, R73); a zero-length read is not. -/
def aliasKind (l : Lanes4) : Nat :=
  if !contiguous l then 3 else if l.any (fun b => b.isSome) && l.any (fun b => b.isNone) then 6 else 0

/-! ## Reads -/

/-- Deck whose registers page number `pg` holds: 0 the Table deck, n + 1 the seat-n deck (R85). -/
def deckOfPage (pg : Nat) : Option Nat :=
  if pg = 0 then some 0 else if 0x1000 ≤ pg ∧ pg < 0x1006 then some (pg - 0xFFF) else none

/-- The claim register at Table offset `off`: its target and the requester code it serves (R409). -/
def claimReg (off : Nat) : Option (Nat × Nat) :=
  if off = evrPg + 0x100 then some (6, 7)
  else if off = evrPg + 0x104 then some (7, 6)
  else if 0x1000000 ≤ off ∧ off < 0x1006000 ∧ off % 0x1000 = 0x1D8 then some ((off - 0x1000000) / 0x1000, (off - 0x1000000) / 0x1000)
  else none

/-- Bits that read (R7, R8): implemented and not WO. -/
def readMask (off : Nat) : Word :=
  match regFlds off with
  | some fs => accMask fs [.rw, .ro, .rv, .w1c, .w1s, .rwl, .rws, .stg, .cmd]
  | none => 0

/-- A register as requester r reads it without effect (R8, R93, R95). -/
def peek (s : State) (r : Req) (off : Nat) : Word :=
  let o := off % 0x1000
  let w := viewAt s off &&& readMask off
  match deckOfPage (off / 0x1000) with
  | some d =>
    if o = 0x1A4 then (if deckOwns s d r then w else setBits w 31 20 0)
    else if o = 0x1C4 then indRead s d r
    else w
  | none => w

/-- The bits `m` of a register include a CMD or WO bit: only a write of these starts what the register defines (R7, R8). -/
def cmdHit (off : Nat) (m : Word) : Bool := accMask ((regFlds off).getD []) [.cmd, .wo] &&& m != 0

/-- A read of bits `m` of a register, with the effect it has: a claim (R409), VALID seen (R70). -/
def readReg (s : State) (r : Req) (off : Nat) (m : Word) : Word × State :=
  match claimReg off with
  | some (t, c) => if !cmdHit off m then (0, s) else if r.code.val = c then claim s t else (0xFFF#32, s)
  | none => (peek s r off, if off % 0x1000 = 0x02C && bitOf m 1 then mboxSeen s (off / 0x1000) r.code.val else s)

/-- A field whose read acts reads 0 through every bit word (R71). -/
def aliasBit (s : State) (r : Req) (off b : Nat) : Word :=
  if (claimReg off).isSome then 0 else BitVec.ofNat 32 (b2n (bitOf (peek s r off) b))

/-- What a word read answers: the KIND of a bus error or 0; the word; the poison mark (R77). -/
structure Got where
  kind   : Nat
  word   : Word
  poison : Bool
  deriving DecidableEq, Repr

/-- A word read: its verdict, its value, its effect. With no byte enabled it completes without effect (R62). DESIGN CHOICE: R77 speaks of a read
of the register; a read of one of its bit words is never marked poisoned (log entry 91). -/
def readWord (s : State) (r : Req) (t : Target) (l : Lanes4) : Got × State :=
  let zero := l.all (fun b => b.isNone)
  let bad (k : Nat) : Got × State := ({ kind := k, word := 0, poison := false }, s)
  let good (w : Word) : Got × State := ({ kind := 0, word := w, poison := false }, s)
  match t with
  | .none => bad 1
  | .reg off =>
    let fs := (regFlds off).getD []
    let k := widthKind (strictHit fs l) l
    if k ≠ 0 then bad k
    else if zero then good (if accMask fs [.w1c, .w1s, .cmd, .wo] = 0 then peek s r off else 0)
    else
      let (w, s') := readReg s r off (BitVec.ofNat 32 (byteMask l 0))
      ({ kind := 0, word := w, poison := s.parLive.contains off }, s')
  | .bitWord off b => if aliasKind l ≠ 0 then bad (aliasKind l) else good (aliasBit s r off b)
  | .entry key half =>
    let k := widthKind true l
    if k ≠ 0 then bad k
    else if zero then good 0
    else
      let (w, s') := entRead s r key half
      ({ kind := 0, word := w, poison := false }, s')
  | .pool e w => if widthKind false l ≠ 0 then bad 3 else good (poolRead s e w true)
  | .ctx k o => if widthKind false l ≠ 0 then bad 3 else good (ctxWord s k o)
  | .bell f q w =>
    let k := widthKind true l
    if k ≠ 0 then bad k else good (if zero then 0 else doorbellRead s f q w)
  | .vec f v w => if widthKind false l ≠ 0 then bad 3 else good (poolRead s (vecEntry s f v) w false)
  | .pba f j => if widthKind false l ≠ 0 then bad 3 else good (pbaWord s f j)

/-! ## Writes -/

/-- Logs released by clearing bit `i` of the W1C register at Table offset `off`: their offsets (R59, R241, R271, R392, R413, R482). -/
def releasedLogs (off i : Nat) : List Nat :=
  let pg := off / 0x1000 * 0x1000
  let nlk := decide (0x160000 ≤ off ∧ off < 0x1A0000 ∧ off / 0x1000 % 16 = 1)
  match off % 0x1000, i with
  | 0x010, 0 => [pg + 0x040]
  | 0x01C, 0 => [pg + 0x044]
  | 0x010, 8 => if pg = xltPg then [pg + 0x100, pg + 0x104] else if pg = crpPg then [pg + 0x188] else []
  | 0x010, 10 => if nlk then [pg + 0x184] else []
  | 0x01C, 8 => if pg = dlrPg then [pg + 0x1C4] else if pg = xltPg then [pg + 0x108] else if pg = msxPg then [pg + 0x100] else if nlk then [pg + 0x180] else []
  | 0x01C, 10 => if pg = dlrPg then [pg + 0x1C8] else []
  | _, _ => []

/-- Clear the bits `c` of a W1C register; bits that hardware set in this trick stay (R9); the logs of cleared bits are released. -/
def clearBits (s : State) (off : Nat) (c : Word) : State :=
  let old := regAt s off
  let gone := old &&& c &&& ~~~ tabGet 0 s.hwSet off
  let s := regPut s off (old &&& ~~~gone)
  let s := (List.range 32).foldl (fun s i => if bitOf gone i then (releasedLogs off i).foldl (fun s o => regPut s o 0) s else s) s
  if off = safPg + 0x100 ∧ bitOf gone (fldAt s (safPg + 0x104) 31 27) then regPut (regPut s (safPg + 0x104) 0) (safPg + 0x108) 0 else s

/-- EVT_SET (R57): each event bit of the page as if it had occurred. -/
def eventSet (s : State) (pg : Nat) (v : Word) : State :=
  let m := (regFlds (pg + 0x010)).elim 0 (fun fs => accMask fs [.w1c])
  (List.range 32).foldl (fun s i => if bitOf (v &&& m) i then setEvt s pg i else s) s

/-- The register takes writes of requester r: the registers and pages that name who is honoured (R438, R479, R495, R518, R544, R545, R558, R588,
R604). -/
def openTo (s : State) (r : Req) (off : Nat) : Bool :=
  let pg := off / 0x1000 * 0x1000
  let o := off % 0x1000
  if off = 0x1D0 ∨ off = 0x1E0 then trusted s r
  else if pg = pstPg ∧ (o = 0x110 ∨ o = 0x114 ∨ 0x400 ≤ o) then trusted s r
  else if pg = hsePg ∧ ((0x104 ≤ o ∧ o < 0x114) ∨ 0x400 ≤ o) then !flagAt s hseCmd 27 || fldAt s hseCmd 26 23 == r.code.val
  else if 0x100000 ≤ off ∧ off < 0x160000 ∧ off / 0x1000 % 16 = 3 then trusted s r
  else true

/-- A write that only sets, clears, locks or stages bits `m` of the register to those of `v` (R8, R9, R55, R75). `first` is the page offset
of the first byte addressed. -/
def plainWrite (s : State) (r : Req) (off : Nat) (m v : Word) (first : Nat) : State :=
  let fs := (regFlds off).getD []
  let pg := off / 0x1000 * 0x1000
  let rw := m &&& accMask fs [.rw, .rws]
  let rwl := m &&& accMask fs [.rwl]
  let locked := flagAt s (pg + 0x008) 0
  let s := if rwl ≠ 0 ∧ locked then logAccess s pg r 7 true first else s
  let a := rw ||| (if locked then 0 else rwl)
  let s := if a = 0 then s else rwPut s off (maskWrite (regAt s off) a v)
  let c := m &&& accMask fs [.w1c] &&& v
  let s := if c = 0 then s else clearBits s off c
  let w := m &&& accMask fs [.w1s] &&& v
  let s := if w = 0 then s else regPut s off (regAt s off ||| w)
  let g := m &&& accMask fs [.stg]
  if g = 0 then s else (stage s r off g v).getD (logAccess s pg r 5 true first)

/-- A write of PWR.SW_REQ: the button PF writes HOST_REQ, MGMT writes MGMT_REQ (R508). -/
def swReqWrite (s : State) (r : Req) (m v : Word) (first : Nat) : State :=
  let k := if fromButton s r then m &&& 0x7#32 else if r.code.val = 6 then m &&& 0x70#32 else 0
  if k = 0 then logAccess s pwrPg r 5 true first else plainWrite s r (pwrPg + 0x100) k v first

/-- OP of LCS.CMD (R529). -/
def lcsOp (s : State) (r : Req) (op : Nat) : State :=
  match op with
  | 1 => lcsCommand s r provision
  | 2 => lcsCommand s r closePart
  | 3 => lcsCommand s r returnPart
  | 4 => lcsCommand s r scrapPart
  | 5 => lcsCommand s r debugPart
  | _ => s

/-- A write that starts the command of a CMD or WO register of the Table pages: all of the word `v` is written, since a narrow access of such a
field is refused (R62); `none` where the register has no such command. The RW fields beside the command take their bits first. -/
def tableCmd (s : State) (r : Req) (off : Nat) (v : Word) (first : Nat) : Option State :=
  if off = 0x1D0 then
    let s := rwPut s off (setBits (regAt s off) 15 4 (bits v 15 4))
    some (if bits v 3 0 = 1 then softReset s r else s)
  else if off = dlrPg + 0x1E0 then some (injectDlr s r (bits v 2 0) (bits v 31 28))
  else if off = talPg + 0x1E0 then some (injectTal s r (bits v 2 0))
  else if off = safPg + 0x120 then some (foldCmdWrite s r v)
  else if off = safPg + 0x130 then some (if bitOf v 0 then hseKick s r.code.val else s)
  else if off = safPg + 0x1E0 then some (injectSaf s r v)
  else if off = timPg + 0x138 then some (if bitOf v 0 then timeSet s else s)
  else if off = loadCmd then some (if bitOf v 0 then crpLoad s r (bits v 12 9) (bits v 8 5) (bitOf v 4) else s)
  else if off = pwrPg + 0x104 then some (if bitOf v 0 then offCommand s r else s)
  else if off = snsPg + 0x1C0 then some (minmaxClear s (v.setWidth 16))
  else if off = pstCmd then
    some (match bits v 1 0 with
      | 1 => pstRead s r (bits v 11 8) (bits v 5 4) 0 false
      | 2 => pstWrite s r (bits v 11 8) (bits v 5 4)
      | _ => pstSet s (bits v 11 8) (bits v 5 4))
  else if off = lcsPg + 0x104 then
    some (if fromButton s r || r.code.val == 6 then lcsOp (rwPut s off (setBits (regAt s off) 15 4 (bits v 15 4))) r (bits v 3 0) else logAccess s lcsPg r 5 true first)
  else if off = hseCmd then some (hseStart s r (bits v 7 0))
  else none

/-- A write that starts the command of a CMD register of a port or function page; `none` where the register has no such command. -/
def portCmd (s : State) (r : Req) (off : Nat) (v : Word) (first : Nat) : Option State :=
  let p := (off - 0x100000) / 0x10000
  let f := (off - 0x1000000) / 0x1000
  let o := off % 0x1000
  if 0x100000 ≤ off ∧ off < 0x160000 then
    (if off = slotPg p + 0x104 then
      let s := plainWrite s r off 0xFFFFFFFF#32 v first
      some (if bits v 1 0 = 1 then pwrOn s p else if bits v 1 0 = 2 then pwrOff s p else s)
    else none)
  else if 0x160000 ≤ off ∧ off < 0x1A0000 then
    (if off = linkPg p + 0x130 then
      some (if bits v 6 5 = 1 then shedCmd s (p - 6) (bits v 4 0) false else if bits v 6 5 = 2 then shedCmd s (p - 6) (bits v 4 0) true else s)
    else if off = linkPg p + 0x138 then some (if bitOf v 8 then slipLane s (p - 6) (bits v 4 0) else s)
    else none)
  else if 0x1000000 ≤ off ∧ off < 0x1006000 ∧ o = 0x20C then some (indCmd s f (bits v 1 0))
  else none

/-- A write that starts no command: bits `m` alone change, in the registers that guard or watch their RW fields too. -/
def quietWrite (s : State) (r : Req) (off : Nat) (m v : Word) (first : Nat) : State :=
  let w := maskWrite (regAt s off) m v
  if off = xltPg + 0x110 then injectXlt s r w
  else if off = msxPg + 0x110 then injectMsx s r w
  else if off = dlrPg + 0x1E0 ∨ off = safPg + 0x1E0 then injector s r (off / 0x1000 * 0x1000) first (fun s => plainWrite s r off m v first)
  else if off = pwrPg + 0x100 then swReqWrite s r m v first
  else if off = lcsPg + 0x104 then (if fromButton s r || r.code.val == 6 then plainWrite s r off m v first else logAccess s lcsPg r 5 true first)
  else plainWrite s r off m v first

/-- A write of bits `m` of the register to those of `v` by requester r. A write that touches no bit of an implemented field, and one of read-only
bits, changes nothing and raises no error (R7, R8). -/
def writeReg (s : State) (r : Req) (off : Nat) (m v : Word) (first : Nat) : State :=
  let pg := off / 0x1000 * 0x1000
  let o := off % 0x1000
  let hit := cmdHit off m
  if !openTo s r off then logAccess s pg r 5 true first
  else if o = 0x018 then eventSet s pg (m &&& v)
  else if o = 0x02C then (if bitOf (m &&& v) 0 then mboxSnap s (off / 0x1000) r.code.val else s)
  else match claimReg off with
  | some (t, c) => if hit && decide (r.code.val = c) then claimDone s t (bits v 11 0) else s
  | none =>
    match deckOfPage (off / 0x1000), o with
    | some d, 0x1A0 => if hit then deckWrite s d r (bits v 3 0) (bits v 31 20) else s
    | some d, 0x1C4 => (indWrite s d r m v).getD (logAccess s pg r 5 true first)
    | _, _ =>
      if hit then ((tableCmd s r off v first).orElse (fun _ => portCmd s r off v first)).getD (plainWrite s r off m v first)
      else quietWrite s r off m v first

/-- The access code of bit `b` of a register; RO where it is reserved (R72). -/
def bitAcc (off b : Nat) : Acc :=
  match ((regFlds off).getD []).find? (fun f => decide (f.lo ≤ b ∧ b ≤ f.hi)) with
  | some f => f.acc
  | none => .ro

/-- A write to a bit word of bit `b` (R72): the KIND of its bus error, or what it does. -/
def aliasWrite (s : State) (r : Req) (off b : Nat) (v : Bool) (first : Nat) : Nat × State :=
  match bitAcc off b with
  | .w1c | .w1s | .cmd | .wo => (6, s)
  | .ro | .rv => (0, s)
  | _ => (0, writeReg s r off (maskOf b b) (if v then maskOf b b else 0) first)

/-- A word write: the KIND of its bus error or 0, and what it does. With no byte enabled it has no effect. DESIGN CHOICE: an entry access refused by its
width is no access to the table, and a held low word stays held (R219; log entry 96). -/
def writeWord (s : State) (r : Req) (t : Target) (l : Lanes4) (first : Nat) : Nat × State :=
  let m := BitVec.ofNat 32 (byteMask l 0)
  let v := BitVec.ofNat 32 (byteWord l)
  let zero := l.all (fun b => b.isNone)
  match t with
  | .none => (1, s)
  | .reg off =>
    let k := widthKind (strictHit ((regFlds off).getD []) l) l
    if k ≠ 0 then (k, s) else (0, if zero then s else writeReg s r off m v first)
  | .bitWord off b =>
    if aliasKind l ≠ 0 then (aliasKind l, s) else if zero then (0, s) else aliasWrite s r off b (bitOf v 0) first
  | .entry key half =>
    let k := widthKind true l
    if k ≠ 0 then (k, s) else (0, if zero then s else entWrite s r key half v)
  | .vec f e w => if widthKind false l ≠ 0 then (3, s) else (0, if zero then s else poolWrite s (vecEntry s f e) w m v)
  | .pool _ _ | .ctx _ _ | .pba _ _ => (if widthKind false l ≠ 0 then 3 else 0, s)
  | .bell f q w =>
    let k := widthKind true l
    if k ≠ 0 then (k, s) else (0, if zero then s else doorbell s f q w v.toNat)

/-! ## Accesses of one to eight bytes (R64, R65) -/

/-- A bus error: logged, and a self-check fault when the safety monitor made it (R60, R61). -/
def busError (s : State) (r : Req) (pg kind : Nat) (write : Bool) (first : Nat) : State :=
  let s := logAccess s pg r kind write (first % 0x1000)
  if r.code.val = 8 then monitorFault s false else s

/-- First byte addressed and bytes from there to the last one enabled: no byte enabled gives length 0. -/
def spanOf (off : Nat) (l : Lanes4) : Nat × Nat :=
  let t := l.dropWhile (fun b => b.isNone)
  (off + (l.length - t.length), (t.reverse.dropWhile (fun b => b.isNone)).length)

/-- The access breaks R65. -/
def sizeBad (off : Nat) (l : Lanes4) : Bool :=
  let (a, n) := spanOf off l
  decide (8 < n) || (decide (0 < n) && a / 8 != (a + n - 1) / 8)

/-- The words an access touches, the lower first: Table offset and the four places of each (R64, R65). -/
def wordsTouched (off : Nat) (l : Lanes4) : List (Nat × Lanes4) :=
  let (a, n) := spanOf off l
  let places (d : Nat) : Lanes4 := (List.range 4).map (fun j => if off ≤ 4 * d + j then (l.getD (4 * d + j - off) none) else none)
  if n = 0 then [(off / 4 * 4, [none, none, none, none])]
  else if a / 4 = (a + n - 1) / 4 then [(a / 4 * 4, places (a / 4))]
  else [(a / 4 * 4, places (a / 4)), (a / 4 * 4 + 4, places (a / 4 + 1))]

/-- Page offset of the first byte of a word that the access addresses. -/
def firstByte (off : Nat) (l : Lanes4) : Nat := if l.all (fun b => b.isNone) then off else (spanOf off l).1

/-- A write access: an error flag and the state (R60 to R65). `tgt` says where a word leads. DESIGN CHOICE: both halves of a split access are
applied within the one command, so no other access and no hardware update falls between them, though R64 lets it (log entry 92). -/
def writeAt (tgt : State → Nat → Target × Nat) (s : State) (r : Req) (off : Nat) (l : Lanes4) : Bool × State :=
  if sizeBad off l then (true, busError s r (tgt s (spanOf off l).1).2 4 true (spanOf off l).1)
  else
    (wordsTouched off l).foldl (fun (x : Bool × State) (w : Nat × Lanes4) =>
      let (t, pg) := tgt x.2 w.1
      let first := firstByte w.1 w.2
      match writeWord x.2 r t w.2 (first % 0x1000) with
      | (0, s) => (x.1, s)
      | (k, s) => (true, busError s r pg k true first)) (false, s)

/-- One word of a read access, joined to what came before: error, poison, bytes. -/
def readOne (tgt : State → Nat → Target × Nat) (r : Req) (x : (Bool × Bool × List Byte) × State) (w : Nat × Lanes4) : (Bool × Bool × List Byte) × State :=
  let ((e, p, d), s) := x
  let (t, pg) := tgt s w.1
  let first := firstByte w.1 w.2
  let (g, s) := readWord s r t w.2
  if g.kind ≠ 0 then ((true, p, d), busError s r pg g.kind false first)
  else
    let bs := wordBytes g.word
    let got := if w.2.all (fun b => b.isNone) then bs else (List.range 4).filterMap (fun j => if (w.2.getD j none).isSome then bs[j]? else none)
    ((e, p || g.poison, d ++ got), s)

/-- A read access: error, poison, the enabled bytes in order (a zero-length read gives its word), and the state (R60 to R65, R77). -/
def readAt (tgt : State → Nat → Target × Nat) (s : State) (r : Req) (off : Nat) (l : Lanes4) : (Bool × Bool × List Byte) × State :=
  if sizeBad off l then ((true, false, []), busError s r (tgt s (spanOf off l).1).2 4 false (spanOf off l).1)
  else
    let (x, s) := (wordsTouched off l).foldl (readOne tgt r) ((false, false, []), s)
    (if x.1 then (true, false, []) else x, s)

/-- A write access to Table space. -/
def busWrite (s : State) (r : Req) (off : Nat) (l : Lanes4) : Bool × State := writeAt (fun s o => target s r o) s r off l
/-- A read access to Table space. -/
def busRead (s : State) (r : Req) (off : Nat) (l : Lanes4) : (Bool × Bool × List Byte) × State := readAt (fun s o => target s r o) s r off l

/-! ## Rows that are register accesses -/

/-- A host's access to a BAR that does not answer is an Unsupported Request (R192). -/
def unsupported (s : State) (n f : Nat) : State :=
  bump (aer s (if fnPresent s f then f else n) .unsupported) (txnPg n + 0x410)

/-- A register write by requester r and its answer (R60). -/
def registerWrite (s : State) (r : Req) (off : Nat) (l : Lanes4) : State :=
  if mayAccess s r then
    let (e, s) := busWrite s r off l
    answerWrite s r e
  else if r.code.val < 6 then (if dlUp s r.code.val then unsupported s r.code.val r.fn.val else s)
  else s

/-- The four places of a 32-bit word written whole. -/
def whole (v : Word) : Lanes4 := (wordBytes v).map some

/-- REGISTER_WRITE (R8): any register write, by its bytes. -/
def execRegisterWrite (r : Req) (off : BitVec 27) (bytes : List (Option Byte)) (s : State) : Answer := finish (registerWrite s r off.toNat bytes)
/-- STAGED_WRITE (R75): a write whose register holds STG fields. -/
def execStagedWrite (r : Req) (off : BitVec 27) (bytes : List (Option Byte)) (s : State) : Answer := finish (registerWrite s r off.toNat bytes)
/-- PAGE_LOCK (R53). -/
def execPageLock (r : Req) (page : Fin 32768) (s : State) : Answer := finish (registerWrite s r (page.val * 0x1000 + 0x008) (whole 1))
/-- EVENT_SET (R57). -/
def execEventSet (r : Req) (page : Fin 32768) (mask : Word) (s : State) : Answer := finish (registerWrite s r (page.val * 0x1000 + 0x018) (whole mask))
/-- MBOX_SNAP (R68). -/
def execMboxSnap (r : Req) (page : Fin 32768) (s : State) : Answer := finish (registerWrite s r (page.val * 0x1000 + 0x02C) (whole 1))
/-- MBOX_VALID (R68). -/
def execMboxValid (page : Fin 32768) (s : State) : Answer := finish (mboxValid s page.val)

end Sys2Proof.Machine
end

