-- ==== Sys2Proof/Machine/Host.lean ====
section
/-! DEFINITION. Host requests to a seat: which BAR an address names (R186 to R191), memory requests (R32, R192, R215, R360), configuration
requests (R179, R181, R183, R581); MGMT's messages (R603); the slow-clock edge (R66). -/

namespace Sys2Proof.Machine

/-! ## Which BAR an address names (R186, R188, R190, R191) -/

/-- A 64-bit base address from two configuration dwords of the PF, for a size of 2^e bytes. -/
def barBase (s : State) (n o e : Nat) : Nat :=
  ((cfgAt s n (o + 4)).toNat * 2 ^ 32 + (cfgAt s n o).toNat / 16 * 16) / 2 ^ e * 2 ^ e

/-- What an address names: function, BAR number, offset in the BAR. -/
structure BarHit where
  fn  : Nat
  bar : Nat
  off : Nat
  deriving DecidableEq, Repr

/-- The BARs of PF n: number, configuration offset, size exponent (R186). -/
def pfBars (s : State) (n : Nat) : List (Nat × Nat × Nat) := [(0, 0x10, bar0Exp s n), (2, 0x18, 20 + pfBarK s n), (4, 0x20, 16)]
/-- The VF BARs of PF n: number, configuration offset, size exponent of one VF (R186). -/
def vfBars (s : State) (n : Nat) : List (Nat × Nat × Nat) := [(0, 0x18C, 16), (2, 0x194, 20 + vfBarK s n), (4, 0x19C, 16)]

/-- The BAR of a function of seat n that address `a` lies in: the PF's first, then those of its VF run (R186). -/
def barHit (s : State) (n a : Nat) : Option BarHit :=
  let pf := (pfBars s n).find? (fun b => let base := barBase s n b.2.1 b.2.2; decide (base ≤ a ∧ a < base + 2 ^ b.2.2))
  let vf := (vfBars s n).find? (fun b => let base := barBase s n b.2.1 b.2.2; decide (base ≤ a ∧ a < base + vfTotal s n * 2 ^ b.2.2))
  match (if (fnOf s n).memory then pf else none), (if (fnOf s n).vfMem then vf else none), pf, vf with
  | some (b, o, e), _, _, _ | none, none, some (b, o, e), _ => some { fn := n, bar := b, off := a - barBase s n o e }
  | none, some (b, o, e), _, _ | none, none, none, some (b, o, e) =>
    some { fn := vfFirst s n + (a - barBase s n o e) / 2 ^ e, bar := b, off := (a - barBase s n o e) % 2 ^ e }
  | none, none, none, none => none

/-! ## Receiving a request -/

/-- Credits a request takes: class 0 posted, 1 non-posted, and data units of 16 bytes (R151). -/
def dataUnits (n : Nat) : Nat := (n + 15) / 16

/-- The host holds the credits of its request (R154, R434). -/
def hasLanding (s : State) (n c d : Nat) : Bool :=
  let x := seatOf s n
  let l := seatLimits s n
  let spare (i : Nat) : Nat := l.getD i 0 - x.credO.getD i 0 - x.credP.getD i 0
  decide (1 ≤ spare (2 * c) ∧ d ≤ spare (2 * c + 1))

/-- A request that is handled at once gives its credits back (R154, R155). -/
def creditBack (s : State) (n c d : Nat) : State :=
  seatMod s n (fun x => { x with credP := addAt (addAt x.credP (2 * c) 1) (2 * c + 1) d })
/-- The same for credits that a request may not hold. -/
def creditFree (s : State) (n : Nat) (cr : Option (Nat × Nat)) : State :=
  match cr with
  | some (c, d) => creditBack s n c d
  | none => s

/-- A host request that goes nowhere (R192, R434): a non-posted one is answered, by its own card, with Unsupported Request; a posted one is
dropped. -/
def requestUr (s : State) (n f tag c d : Nat) : State := if c = 1 then refuseCpl s n f tag 1 c d else creditBack s n c d

/-- A host request on seat n is received: credits, marks (R139, R167, R170, R434), the BAR it names, and the first row of R192. `f` goes on with
it; where it does not go on, a non-posted one is answered with Unsupported Request, or, discarded, not at all. `ok` is its form. -/
def hostRequest (s : State) (q : HostReq) (c d : Nat) (ok : Bool) (f : State → BarHit → State) : State :=
  let n := q.seat.val
  if !dlUp s n || isOff s then s
  else
    let s := rxTlp s n
    if !hasLanding s n c d then raiseErr (aer s n .overflow) (txnPg n) 9
    else
      let hit := barHit s n q.addr.toNat
      let fn := (hit.map (fun h => h.fn)).getD n
      if !ok then creditBack (raiseErr (aer s fn .malformed) (txnPg n) 9) n c d
      else match rxCheck s n fn q.mark, hit with
      | (none, s), _ => if q.mark = .unsupported then requestUr s n fn q.tag.val c d else creditBack s n c d
      | (some s, _), none => requestUr (unsupported s n fn) n fn q.tag.val c d
      | (some s, _), some h =>
        if barsOn s h.fn && fnSeat s h.fn == some n && flagAt s (linkStat n) 1 then f s h
        else requestUr (unsupported s n h.fn) n h.fn q.tag.val c d

/-! ## The window (R32, R215, R360, R416, R417) -/

/-- A window request to a folded seat (R416): a read or AtomicOp is answered, by its own card, with Completer Abort; a write is dropped. -/
def windowAbort (s : State) (n f tag : Nat) (np : Bool) (cr : Option (Nat × Nat)) : State :=
  let s := aer s f .completerAbort
  match np, cr with
  | true, some (c, d) => refuseCpl s n f tag 4 c d
  | _, cr => creditFree s n cr

/-- A window access of function f at offset o lands and waits for its look-up (R24, R152, R216). `t` is the TYPE code, `len` the payload or
requested bytes, `ask` the bytes of the answer, `cr` the credits it holds. -/
def windowAccess (s : State) (q : HostReq) (f o t len : Nat) (p : Perm) (data : List Byte) (ask : Option Nat) (cr : Option (Nat × Nat)) : State :=
  let n := q.seat.val
  let np := ask.isSome
  if folded s n then windowAbort s n f q.tag.val np cr
  else
    let cards := if np then 1 else cardsFor len
    let cls := if np then 1 else 3
    let y : Txn := { txn0 t cls n f 0 with poison := q.mark == .poisoned, attr := q.attr.val, len := lenOf len, last := lastOf len, data := data }
    let s := match cr with
      | some (c, d) => land s n cards c d
      | none => chargeLanding s n cards
    awaitLook s { xact0 15 f cls cards (.nicen 0 y) with
      src := n, posted := !np, acct := .landing n, land := cr, look := some (.window o p),
      ask := ask.map (fun a => TagEnt.ask f (.window n q.rid.val q.tag.val) 0 a (cardsFor a) cls) }

/-- A window request that waited for its look-up is refused or cannot be sent (R215, R416, R417): a read or AtomicOp is answered, by its own
card, with Completer Abort; a write is dropped. -/
def windowRefused (s : State) (x : Xact) : State :=
  let s := aer s x.fn .completerAbort
  match (x.ask.map TagEnt.why : Option Why) with
  | some (.window n _ tag) => errCpl s n x.fn tag 4 x.src x.acct x.kit x.land
  | _ => burnXact s x

/-- The look-up of window request x, with offset `o` (R24, R215, R216): refused, or presented to the Dealer on the link of its endpoint. -/
def windowLook (s : State) (x : Xact) (o : Nat) (p : Perm) : State :=
  if folded s x.src then windowRefused s x
  else match lookup s x.fn o p with
  | (.no why i, s) => windowRefused (raiseErr (refuse s 0 why x.fn i) (fnPg x.fn) 8) x
  | (.ok ep a trump, s) =>
    match linkFor s ep, x.what with
    | some k, .nicen _ y =>
      if !linkActive s k || folded s (6 + k) then windowRefused s x
      else enqueue s { x with
        dst := 6 + k, trump := trump, chk := true, look := none, what := .nicen k { y with ep := ep, off := a },
        ask := x.ask.map (fun e => { e with addr := a }) }
    | _, _ => windowRefused s x

/-- The runs of enabled bytes of a write: offset and bytes of each. DESIGN CHOICE: a write whose byte enables are not contiguous is sent as
one WR for each run. -/
def enabledRuns : Nat → List (Option Byte) → List (Nat × List Byte)
  | _, [] => []
  | i, none :: r => enabledRuns (i + 1) r
  | i, some b :: r =>
    match enabledRuns (i + 1) r with
    | (j, bs) :: rest => if j = i + 1 then (i, b :: bs) :: rest else (i, [b]) :: (j, bs) :: rest
    | [] => [(i, [b])]

/-- A host write to BAR2 (R32). -/
def windowWrite (s : State) (q : HostReq) (h : BarHit) (l : List (Option Byte)) (d : Nat) : State :=
  let n := q.seat.val
  match enabledRuns h.off l with
  | [] => creditBack s n 0 d
  | (o, bs) :: rest =>
    let s := windowAccess s q h.fn o 0x01 bs.length .write bs none (some (0, d))
    rest.foldl (fun s p => windowAccess s q h.fn p.1 0x01 p.2.length .write p.2 none none) s

/-! ## BAR0 and BAR4 (R187 to R191) -/

/-- The Table offset an offset of function f's BAR0 stands for; one that stands for nothing goes to an unimplemented range (R187, R188). -/
def bar0Off (s : State) (n f o : Nat) : Nat :=
  if f = n ∧ (seatOf s n).bigBar then o
  else if o < 0x1000 then fnPg f + o
  else if o < 0x2000 then 0x3000000 + f * 0x1000 + (o - 0x1000)
  else 0xFFF000 + o % 0x1000

/-- Where an offset of function f's BAR4 leads (R191, R398). -/
def bar4Target (s : State) (f o : Nat) : Target × Nat :=
  let v := vectorCount s f
  if o / 16 < v ∧ o < 0x8000 then (.vec f (o / 16) (o / 4 % 4), fnPg f)
  else if 0x8000 ≤ o ∧ o < 0x8000 + 8 * ((v + 63) / 64) then (.pba f ((o - 0x8000) / 4), fnPg f)
  else (.none, fnPg f)

/-- Register access by function f's BAR0 or BAR4: where a word leads. -/
def barTarget (r : Req) (bar : Nat) (s : State) (o : Nat) : Target × Nat :=
  if bar = 4 then bar4Target s r.fn.val o else target s r o

/-- The requester a host access of function f makes (R48, R86). -/
def hostReq (n f : Nat) : Req := { code := Fin.ofNat 9 n, fn := Fin.ofNat 4096 f }

/-- A host write to BAR0 or BAR4 (R60 to R65, R398). -/
def barWrite (s : State) (n : Nat) (h : BarHit) (l : List (Option Byte)) : State :=
  let r := hostReq n h.fn
  (writeAt (barTarget r h.bar) s r (if h.bar = 4 then h.off else bar0Off s n h.fn h.off) l).2

/-- A host read of BAR0 or BAR4 and its completion (R60, R77). -/
def barRead (s : State) (n : Nat) (h : BarHit) (tag : Nat) (l : List (Option Byte)) : State :=
  let r := hostReq n h.fn
  let ((e, p, d), s) := readAt (barTarget r h.bar) s r (if h.bar = 4 then h.off else bar0Off s n h.fn h.off) l
  answerRead s r tag e p d

/-- A request of `len` bytes from address `a` crosses no 4 KiB boundary and is no longer than 4,096 bytes. -/
def oneSpan (a : BitVec 64) (len : Nat) : Bool := decide (1 ≤ len ∧ a.toNat % 4096 + len ≤ 4096)

/-- Operand sizes of an AtomicOp: 4 or 8 bytes, compare and swap twice 4, 8 or 16; the address aligned to the operand (R185, R360). -/
def atomOk (q : HostReq) (op len : Nat) : Bool :=
  let w := if op = 2 then len / 2 else len
  ((if op = 2 then [8, 16, 32] else [4, 8]).contains len) && decide (q.addr.toNat % w = 0)

/-- A host memory read (R192). -/
def hostRead (s : State) (q : HostReq) (en : List Bool) : State :=
  let l := en.map (fun b => if b then some (0 : Byte) else none)
  hostRequest s q 1 0 (oneSpan q.addr en.length) (fun s h =>
    let n := q.seat.val
    if h.bar = 2 then
      let (a, len) := spanOf h.off l
      windowAccess s q h.fn a 0x02 (max 1 len) .read [] (some (max 1 len)) (some (1, 0))
    else creditBack (barRead s n h q.tag.val l) n 1 0)

/-- A host memory write (R192). -/
def hostWrite (s : State) (q : HostReq) (l : List (Option Byte)) : State :=
  let d := dataUnits l.length
  hostRequest s q 0 d (oneSpan q.addr l.length) (fun s h =>
    let n := q.seat.val
    if h.bar = 2 then windowWrite s q h l d else creditBack (barWrite s n h l) n 0 d)

/-- A host AtomicOp (R192): 0 FetchAdd, 1 Swap, 2 compare and swap. -/
def hostAtomic (s : State) (q : HostReq) (op : Nat) (data : List Byte) : State :=
  let d := dataUnits data.length
  hostRequest s q 1 d (atomOk q op data.length) (fun s h =>
    let n := q.seat.val
    if h.bar = 2 then windowAccess s q h.fn h.off (0x04 + op) data.length .atom data (some (if op = 2 then data.length / 2 else data.length)) (some (1, d))
    else requestUr (unsupported s n h.fn) n h.fn q.tag.val 1 d)

/-! ## Configuration requests (R179, R181, R183, R204, R581) -/

/-- The index of the function that a configuration request names: 0 the PF, i VF i. A Type 0 request names it by the low 8 bits. -/
def cfgIndex (s : State) (q : CfgReq) : Nat :=
  if q.type0 then q.rid.val % 256 else (q.rid.val + 65536 - (seatOf s q.seat.val).bus * 256) % 65536

/-- The completion status of a configuration request to index i of seat n (R181, R204, R581): 0 SC, 1 UR, 2 RRS; and its function. -/
def cfgVerdict (s : State) (n i : Nat) : Nat × Nat :=
  let f := seatFn s n i
  if !seatPresent s n then (1, n)
  else if !flagAt s (linkStat n) 1 then (2, n)
  else if i ≠ 0 ∧ (vfTotal s n < i ∨ !fnPresent s f) then (1, n)
  else if (fnOf s f).flr then (if (fnOf s f).flrVfe then 1 else 2, f)
  else if isVf f && !(fnOf s f).ready then (2, f)
  else (0, f)

/-- A configuration write to f, and what the capabilities do upon it (R130, R184, R535). -/
def cfgStore (s : State) (f o : Nat) (m v : Word) : State :=
  let s := cfgWrite s f o m v
  if isVf f then s
  else if 0x1E0 ≤ o ∧ o < 0x1F0 then doeWrite s f o (m &&& v)
  else if 0x2F8 ≤ o ∧ o < 0x338 ∧ m ≠ 0 then marginWrite s f ((o - 0x2F8) / 4)
  else s

/-- A configuration request: it takes a non-posted header credit, a write a data credit too, and is handled at once (R154, R155); its answer,
and for a write what it does. A Type 0 write to the PF gives it its bus number (R179). -/
def cfgRequest (s : State) (q : CfgReq) (w : Option (List (Option Byte))) : State :=
  let n := q.seat.val
  let d := b2n w.isSome
  if !dlUp s n || isOff s then s
  else
    let s := rxTlp s n
    if !hasLanding s n 1 d then raiseErr (aer s n .overflow) (txnPg n) 9
    else
    let s := creditBack s n 1 d
    let i := cfgIndex s q
    let s := if w.isSome && q.type0 && i == 0 then seatMod s n (fun x => { x with bus := q.rid.val / 256 }) else s
    let o := q.off.val / 4 * 4
    match cfgVerdict s n i, w with
    | (0, f), none => emit s (.config n 0 (cfgRead s f o))
    | (0, f), some l => emit (cfgStore s f o (BitVec.ofNat 32 (byteMask (l.take 4) 0)) (BitVec.ofNat 32 (byteWord (l.take 4)))) (.config n 0 0)
    | (1, f), _ => emit (unsupported s n f) (.config n 1 0)
    | (c, _), _ => emit s (.config n c 0)

/-! ## MGMT (R603) -/

/-- The address at which the device answers: its dynamic address in I3C mode, else the static one. -/
def mgmtAddr (s : State) : Nat := if s.mgmt.i3c then s.mgmt.dyn.getD 0 else s.mgmt.addr
/-- The MGMT port is up: from the end of boot step 2, outside Off (R495, R576). -/
def mgmtUp (s : State) : Bool := decide (3 ≤ phase s) && !isOff s
def mgmtReq : Req := { code := 6, fn := 0 }

/-- A message over MCTP (R60, R411, R576, R603): identity is TBL.IDENT, TBL.GRADE and the endpoint ID. -/
def mctp (s : State) (a : Nat) (q : MctpReq) : State :=
  if !mgmtUp s || mgmtAddr s != a then s
  else
  let s := wake s 17
  match q with
  | .identity => emit s (.mgmt "IDENTITY" [(regAt s 0x100).toNat, (regAt s 0x104).toNat, s.mgmt.eid.getD 0])
  | .read off n =>
    if mayAccess s mgmtReq then
      let ((e, p, d), s) := busRead s mgmtReq off.toNat (List.replicate n.val (some 0))
      answerRead s mgmtReq 0 e p d
    else answerRead s mgmtReq 0 true false []
  | .write off bs =>
    if mayAccess s mgmtReq then
      let (e, s) := busWrite s mgmtReq off.toNat (bs.map some)
      answerWrite s mgmtReq e
    else answerWrite s mgmtReq true

def mgmtMod (s : State) (g : Mgmt → Mgmt) : State := { s with mgmt := g s.mgmt }

/-! ## The slow clock (R66) and the general-purpose pins (R604 to R606) -/

/-- FUNC code of GPIO g, INPUT in Off, as the pin acts: GPIO0 has none while it is FAULT_N (R604, R606). -/
def gpioFunc (s : State) (g : Nat) : Nat := if isOff s then 0 else fldAt s 0x1E0 (4 * g + 3) (4 * g)

/-- The level at GPIO g: what the device drives, or what the board gives where it does not (R436, R604 to R606). -/
def gpioLevel (s : State) (g : Nat) : Bool :=
  let ext := s.pins.gpio.testBit g
  let out := flagAt s 0x1E0 (16 + g)
  if g = 0 ∧ !flagAt s (safPg + 0x170) 31 then !s.pins.faultN && ext
  else match gpioFunc s g with
  | 1 => out
  | 2 => out && ext
  | 3 => s.pins.strobe
  | 4 => !s.pwr.alarm && ext
  | _ => ext

/-- Every RV field of a page is copied, and COPY_SEQ advances (R56, R66). -/
def copySeq (s : State) (pg : Nat) : State := fldPut s (pg + 0x00C) 31 16 ((fldAt s (pg + 0x00C) 31 16 + 1) % 65536)

/-- A slow-clock edge (R66): the levels at the pins, the power unit's words, the sensors' samples. In Off no slow clock runs. -/
def slowEdge (s : State) (gpio : Nat) : State :=
  if isOff s then s
  else
    let s := { s with pins := { s.pins with gpio := gpio } }
    let s := copySeq (fldPut s 0x1E4 2 0 (b2n (gpioLevel s 0) + 2 * b2n (gpioLevel s 1) + 4 * b2n (gpioLevel s 2))) tblPg
    let w := pwrWords s
    let s := copySeq ((List.range 4).foldl (fun s i => regPut s (pwrPg + 0x140 + 4 * i) (w.getD i 0)) s) pwrPg
    copySeq ((List.range 16).foldl (fun s c => regPut s (snsPg + 0x180 + 4 * c) (chanOf s c).word) s) snsPg

/-! ## Commands -/

/-- HOST_MEMORY_READ (R192). -/
def execHostMemoryRead (q : HostReq) (en : List Bool) (s : State) : Answer := finish (hostRead s q en)
/-- HOST_MEMORY_WRITE (R192). -/
def execHostMemoryWrite (q : HostReq) (bytes : List (Option Byte)) (s : State) : Answer := finish (hostWrite s q bytes)
/-- HOST_ATOMICOP (R192). -/
def execHostAtomicop (q : HostReq) (op : Fin 3) (data : List Byte) (s : State) : Answer := finish (hostAtomic s q op.val data)
/-- CONFIG_READ (R183). -/
def execConfigRead (q : CfgReq) (s : State) : Answer := finish (cfgRequest s q none)
/-- CONFIG_WRITE (R183). -/
def execConfigWrite (q : CfgReq) (bytes : List (Option Byte)) (s : State) : Answer := finish (cfgRequest s q (some bytes))
/-- MCTP_MESSAGE (R603). -/
def execMctpMessage (addr : Fin 128) (q : MctpReq) (s : State) : Answer := finish (mctp s addr.val q)
/-- SETDASA (R603): its static address is the device's and it has no dynamic address yet. -/
def execSetdasa (static dyn : Fin 128) (s : State) : Answer :=
  finish (if mgmtUp s && static.val == s.mgmt.addr && s.mgmt.dyn.isNone then mgmtMod s (fun m => { m with i3c := true, dyn := some dyn.val }) else s)
/-- ENTDAA (R603): a device with no dynamic address takes one. -/
def execEntdaa (dyn : Fin 128) (s : State) : Answer :=
  finish (if mgmtUp s && s.mgmt.dyn.isNone then mgmtMod s (fun m => { m with i3c := true, dyn := some dyn.val }) else s)
/-- RSTDAA (R603): back to SMBus mode at the static address. -/
def execRstdaa (s : State) : Answer := finish (if mgmtUp s then mgmtMod s (fun m => { m with i3c := false, dyn := none }) else s)
/-- SET_ENDPOINT_ID (R603). -/
def execSetEndpointId (addr : Fin 128) (eid : Fin 256) (s : State) : Answer :=
  finish (if mgmtUp s && mgmtAddr s == addr.val then mgmtMod (wake s 17) (fun m => { m with eid := some eid.val }) else s)
/-- SLOW_CLOCK_EDGE (R66): GPIO levels that the board gives. -/
def execSlowClockEdge (gpio : BitVec 3) (s : State) : Answer := finish (slowEdge s gpio.toNat)

end Sys2Proof.Machine
end

