-- ==== Sys2Proof/Machine/Boundary.lean ====
section
/-! DEFINITION. The trick boundary and the hand boundary (R37, R38): what they do, in the order the manual lists. -/

namespace Sys2Proof.Machine

/-! ## The end of a hand, in trick 4,095 (R38, steps 1 to 3) -/

/-- The configuration CRC of the hand is compared with the reference in force; the first mismatch is a fault (R81 to R83). -/
def crcCompare (s : State) : State :=
  if !booted s then s
  else
    let inj := s.safe.crcFlip
    let c := if inj then liveCrc s ^^^ 1#32 else liveCrc s
    let s := { s with safe := { s.safe with crcFlip := false } }
    let s := fldPut (regPut s 0x184 c) 0x188 11 0 (handNo s)
    if c = regAt s 0x180 ∨ flagAt s 0x188 31 then s
    else faultTable (setErrBit (fldPut s 0x188 31 31 1) safPg 8) 0x05 safPg inj

/-- Functions that waited for cards through a whole hand (R259, R277). -/
def kittyWaits (s : State) : State :=
  let long := s.talon.waitFn.filter (fun p => decide (1 ≤ p.2))
  let s := talonMod s (fun t => { t with
    waitFn := t.waitFn.map (fun p => (p.1, p.2 + 1)),
    waited := long.foldl (fun w p => tabMod 0 w p.1 (· + 1)) t.waited })
  if long.isEmpty then s else bump (setEvt s talPg 8) (talPg + 0x408)

/-- Some request toward port p has waited for a tag since the last hand boundary or before it (R159, R380). -/
def waitedHand (s : State) (p : Nat) : Bool := s.xacts.any (fun x => x.dst == p && x.ask.isSome && decide (2 ≤ x.tagW))

/-- A hand boundary passes over the requests that wait for a tag (R159, R380). -/
def tagHands (s : State) : State := { s with xacts := s.xacts.map (fun x => if 1 ≤ x.tagW then { x with tagW := x.tagW + 1 } else x) }

/-- Requests of seat n that waited for a tag: in this hand, through all of it (R159, R176). -/
def seatTagWaits (s : State) (n : Nat) : State :=
  let s := if (seatOf s n).tagHand then bump s (txnPg n + 0x408) else s
  let s := if waitedHand s n then setEvt s (txnPg n) 10 else s
  seatMod s n (fun x => { x with tagHand := false })

/-- Requests that waited through a whole hand for a tag of Nicen Link k (R380, R393). -/
def linkTagWaiting (s : State) (k : Nat) : State :=
  if waitedHand s (6 + k) then bump (setEvt s (txnPg (6 + k)) 11) (txnPg (6 + k) + 0x410) else s

/-- Egress cards that w lanes at the seat's rate carry in a hand: 64 B cards at 1 bit per lane and transfer (R148). -/
def l0pCards (s : State) (n w : Nat) : Nat :=
  w * (match seatRate s n with
    | 1 => 100
    | 2 => 200
    | 3 => 320
    | 4 => 640
    | 5 => 1280
    | 6 => 2560
    | _ => 5120)

/-- The L0p width that seat n asks its partner for after the hand's demand: half the width in use, or all of it again (R148).
DESIGN CHOICE (log entry 110): where a cut turned L0p off, nothing is asked and the width stays as it is. -/
def l0pStep (s : State) (n : Nat) : State :=
  let x := seatOf s n
  let full := seatLanes s n
  let now := fldAt s (linkStat n) 18 14
  let s := seatMod s n (fun x => { x with demand := 0 })
  if !l0pOn s n then s
  else if 1 < now ∧ 4 * x.demand < l0pCards s n (now / 2) then emit s (.seatSig n "L0P_REQUEST" (now / 2))
  else if now < full ∧ l0pCards s n now < 4 * x.demand then emit s (.seatSig n "L0P_REQUEST" full)
  else s

/-- What seat n publishes of its hand (R157), and its L0p request (R148). -/
def seatHandEnd (s : State) (n : Nat) : State :=
  l0pStep (seatMod (seatTagWaits s n) n (fun x => { x with rttLast := x.rttNow, rttHand := handNo s, rttNow := (0, 0, 0) })) n

/-- What Nicen Link k publishes of its hand (R335, R339), and the CREDIT it owes each hand (R377). -/
def linkHandEnd (s : State) (k : Nat) : State :=
  let s := nlkHandEnd (linkTagWaiting s k) k
  let s := if linkActive s k && !(linkTxOf s k).creditSent then sendCredit s k else s
  linkTxMod s k (fun t => { t with creditSent := false })

/-- A rubber ends with this hand (R41): its roll-up; a debug token has one rubber less (R530). -/
def rubberEnd (s : State) : State := if handNo s % 64 = 63 then debugRubber s else s

/-- The end of trick 4,095 (R38, steps 1 to 3). The audit and the CRC comparison are suspended in Sleep and Deep sleep (R488). -/
def handEnd (s : State) : State :=
  let s := snapshot s
  let s := if 2 ≤ s.pwr.state then s else crcCompare (audit s)
  let s := bumpBy (linesHandEnd s) (xltPg + 0x424) s.xlt.evicts
  let s := kittyWaits (placement (xltMod s (fun x => { x with evicts := 0 })))
  let s := (List.range 6).foldl seatHandEnd s
  rubberEnd (lanesHandEnd (tagHands ((List.range 4).foldl linkHandEnd s)))

/-! ## Trick 0 of a hand (R38, steps 4 to 9) -/

/-- The effective button passes to BACKUP after the removal of its seat (R569, R570). -/
def takeover (s : State) : State :=
  let gone := s.boot.gone
  let s := { s with boot := { s.boot with gone := [] } }
  if gone.contains (buttonSeat s) then
    let b := fldAt s 0x130 30 28
    let seat := if b < 6 ∧ b ≠ buttonSeat s ∧ seatPresent s b ∧ !removed s b then b else 7
    regPut s 0x190 (setBits 0x80000000#32 2 0 seat)
  else s

/-- A cut that falls due, and the actions of the pass that ended (R38, steps 4 and 5). -/
def cutsAndActions (s : State) : State :=
  let old := s
  let s := match dueDeck s with
    | some d => cutDeck s d
    | none => s
  let s := applyActions old s
  -- limits that the cut or an override lowered
  if (dueDeck old).isSome ∨ s.crp.ovr ≠ old.crp.ovr then allowCut s else s

/-- Instants kept from before a jump of table time stand as far back as they did (R443, R456). -/
def jumpShift (old : State) (s : State) : State :=
  if old.time = s.time then s
  else
    let mv (t : Nat) : Nat := (t + s.time.toNat + 2 ^ 64 - old.time.toNat) % 2 ^ 64
    let hand (h : Nat) : Nat := (h + handNo s + 2 ^ 40 - handNo old) % 2 ^ 40
    { s with
      house := { s.house with hist := s.house.hist.map mv, readyAt := mv s.house.readyAt },
      pwr := { s.pwr with rx := s.pwr.rx.map (fun p => (p.1, mv p.2)) },
      safe := { s.safe with kickOff := if s.safe.kickOff = 0 then 0 else mv s.safe.kickOff, passOff := if s.safe.passOff = 0 then 0 else mv s.safe.passOff },
      lanes := s.lanes.map (fun p => (p.1, { p.2 with gained := mv p.2.gained })),
      seats := s.seats.map (fun p => (p.1, { p.2 with unacked := p.2.unacked.map (fun u => (u.1, mv u.2.1, u.2.2)) })),
      phys := s.phys.map (fun p => (p.1, { p.2 with nakAt := mv p.2.nakAt, unacked := p.2.unacked.map (fun u => { u with time := mv u.time }),
                                                    ex := p.2.ex.map (fun e => { e with hand := hand e.hand }) })),
      queues := s.queues.map (fun p => (p.1, { p.2 with coalHand := p.2.coalHand.map hand })) }

/-- Table time jumps at trick 0 (R443). -/
def jumpNow (s : State) : State := jumpShift s (timeJump s)

/-- The SHED report of the hand that ended (R386). -/
def sendShedReport (s : State) (k : Nat) : State :=
  if flagAt s (txnPg (6 + k) + 0x114) 0 then
    let sym := (physOf s k).symLast
    nicenSend s k { txn0 0x14 0 0 0 0 with len := 1, last := 0, off := (handNo s + 2 ^ 40 - 1) % 2 ^ 40,
                                           data := (List.range 32).flatMap (fun i => natLe 2 (satNat 65535 (tabGet 0 sym i))) }
  else s

/-- An ACTIVE Nicen Link sends its HAND row, and its reports of the hand that ended (R342, R386, R448). -/
def linkHandSend (s : State) (k : Nat) : State :=
  if linkActive s k then sendShedReport (sendTime (sendHandRow s k) k) k else s

/-- Engine e at trick 0: the boundary counts; its pass starts (R461, R488). -/
def engHand (s : State) (e : Nat) : State := if 2 ≤ s.pwr.state then s else startPass (handEng s e) e

/-- Pins in HAND_STROBE function take level `v` (R604); held low in Deep sleep (R606). -/
def strobe (s : State) (v : Bool) : State :=
  let v := v && s.pwr.state != 3
  if s.pins.strobe = v then s
  else
    let s := { s with pins := { s.pins with strobe := v } }
    (List.range 3).foldl (fun s g =>
      if gpioFunc s g = 3 ∧ (g ≠ 0 ∨ flagAt s (safPg + 0x170) 31) then emit s (.pin ("GPIO" ++ toString g) (b2n v)) else s) s

/-- The scrubber's first pass starts with the first rubber after cut 0 (R41). -/
def scrubStart (s : State) : State :=
  if booted s && s.xlt.scrub.isNone && handNo s % 64 == 0 then xltMod s (fun x => { x with scrub := some 0 }) else s

/-- The House watchdog counts the boundary (R427); in Deep sleep the cores do not run (R486, R488). -/
def watchdogs (s : State) : State :=
  if s.pwr.state = 3 then s else { s with house := { s.house with kick := s.house.kick + 1 } }

/-- The measured length of the hand, in every state but Deep sleep (R426, R488); an injection counts the hand after it as long (R439). -/
def timeBase (s : State) (bad : Bool) : State :=
  let inj := decide (s.safe.long = 1)
  let s := { s with safe := { s.safe with long := s.safe.long - 1 } }
  if (bad || inj) && s.pwr.state != 3 then timeBaseFault s inj else s

/-- What software changed of functions in the ended trick comes into force (R27, R203); at trick 0 after a cut (R207). -/
def fnBoundary (s : State) : State := commitFns (flrBoundary s)

/-- Trick 0 of a hand, with the slack of the hand that ended and the rail's reading. -/
def handStart (s : State) (bad : Bool) (slack mv : Nat) : State :=
  let s := fnBoundary (cutsAndActions (takeover s))
  let s := jumpNow ((List.range 4).foldl (fun s k => shedWants (shedHand s k) k) s)
  let s := dealerMod s (fun z => { z with admitted := [], demoted := [] })
  let s := sourceLinkCheck ((List.range 4).foldl linkHandSend s)
  let s := pwrMod (avsStep s slack mv) (fun p => { p with drooped := false })
  let s := (List.range 16).foldl engHand s
  let s := (List.range 6).foldl ltrStep (ptmStart s)
  let s := powerHand (timeBase (watchdogs s) bad)
  scrubStart (strobe s true)

/-! ## The trick boundary (R37) -/

/-- The ended trick (R37, steps 1 to 3; R27): books, the snapshots of them, credits, doorbells, the entries that software changed, scrubbing. The pool and the
queue contexts are visited at the end of a scrub pass (R41). -/
def trickEnd (s : State) : State :=
  let s := sampleDoorbells (returnCredits (mboxBooks (closeBooks (drainCells s))))
  let s := syncStart (poolInject (eccApply (entForce (poolCommit s))))
  let p := s.xlt.scrub
  let s := scrubTrick s
  let s := if p = some 262143 then scrubQueues (scrubPool s) else s
  judgeChecks s

/-- A new trick begins: table time advances (R11). -/
def nextTrick (s : State) : State := { s with time := s.time + 40, foldFresh := [], hwSet := [] }

/-- Folds whose CLEAR was accepted end (R422). -/
def clearFolds (s : State) : State :=
  let l := s.clearing
  l.foldl endFold { s with clearing := [] }

/-- Firings of this boundary are judged (R399). -/
def judgeFirings (s : State) : State :=
  let l := s.intr.fired
  l.foldl judgeFiring (intrMod s (fun x => { x with fired := [] }))

/-- A host write waits for room in the dirty cache: a line is evicted early (R235). -/
def makeRoom (s : State) : State := if s.xacts.any (fun x => ready x && logStalls s x) then evictFirst s (fun _ => true) else s

/-- Lines queued for flush start their merge reads (R235). -/
def startFlushes (s : State) : State :=
  (s.xlt.lines.filter (fun d => d.queued && !d.reading && !d.writing)).foldl flushLine s

/-- Functions that wait for a Talon card count the trick (R464, kind 5). -/
def tallyWaits (s : State) : State := s.talon.waitFn.foldl (fun s p => tally s 5 p.1 1) s

/-- Waiting transactions in the order of their arrival numbers. -/
def arrivalIns (x : Xact) : List Xact → List Xact
  | [] => [x]
  | y :: l => if x.stamp ≤ y.stamp then x :: y :: l else y :: arrivalIns x l

/-- The look-up that received request x waited for (R24, R216). What it becomes has the arrival numbers that x keeps, and the corrupted card
that x may hold (R274). -/
def lookNow (s : State) (x : Xact) : State :=
  let next := s.dealer.stamp
  let arm := s.talon.eccArm
  let s := { s with
    xacts := s.xacts.filter (fun y => y.stamp != x.stamp),
    dealer := { s.dealer with stamp := x.stamp }, talon := { s.talon with eccArm := false } }
  let s := match x.look with
    | some (.window o p) => windowLook s x o p
    | some (.fabric k y) => fabricLook s x k y
    | none => s
  { s with
    xacts := s.xacts.map (fun y => if y.stamp = x.stamp then { y with bad := x.bad } else y),
    dealer := { s.dealer with stamp := next }, talon := { s.talon with eccArm := arm } }

/-- The look-ups of the requests received in the ended trick start, in the order in which they came (R24, R216, R217). -/
def lookAll (s : State) : State :=
  match s.xacts.filter (fun x => x.look.isSome) with
  | [] => s
  | l =>
    let s := l.foldl lookNow s
    { s with xacts := s.xacts.foldr arrivalIns [] }

/-- The new trick (R37, steps 4 and 5): interrupts, power, what the Dealer admits and deals. Outside Run the deal clock is
gated (R486); a trick that overruns in Idle is reported all the same (R36, R488). -/
def trickStart (s : State) (x : TrickEvents) : State :=
  let s := clearFolds (injectApply s)
  let s := sendPending (judgeFirings (routerStep (pageEvents s)))
  let s := powerTrick (startFlushes (makeRoom s))
  let s := (List.range 4).foldl nakAgain s
  let s := if s.pwr.state = 0 then dealTrick (tallyWaits (admitAll (lookAll s))) x else if s.pwr.state = 1 then raiseOverruns s (overrunsOf s x) else s
  let s := if trickNo s = 16 then strobe s false else s
  pumpStore (ppsTick s)

/-- A trick boundary inside a hand (R37). -/
def plainTrick (s : State) (x : TrickEvents) : State := trickStart (nextTrick (fnBoundary (trickEnd s))) x

/-- The trick boundary that is a hand boundary (R37, R38). -/
def handTrick (s : State) (x : TrickEvents) (bad : Bool) (slack mv : Nat) : State :=
  trickStart (handStart (nextTrick (handEnd (trickEnd s))) bad slack mv) x

/-- A trick in which nothing went wrong. -/
def TrickEvents.quiet : TrickEvents := { lockstep := false, overruns := [], seals := [], eccs := [], eccCorr := 0 }

/-- n quiet trick boundaries. -/
def quietTricks : Nat → State → State
  | 0, s => s
  | n + 1, s => quietTricks n (plainTrick s TrickEvents.quiet)

/-! ## Commands -/

/-- One trick boundary. At the end of trick 4,095 it is a hand boundary, whose slack and rail reading are open values. Nothing runs in
Off (R486). -/
def trickBoundary (s : State) (x : TrickEvents) : State :=
  if isOff s then s
  else if trickNo s = 4095 then
    let (a, s) := freshFree s
    let (b, s) := freshFree s
    handTrick s x false (Config.freeValue a % 256) (Config.freeValue b % 1024)
  else plainTrick s x

/-- The hand boundary: the tricks left in the hand pass quietly before it. -/
def handBoundary (s : State) (x : TrickEvents) (h : HandEvents) : State :=
  if isOff s then s else handTrick (quietTricks (4095 - trickNo s) s) x h.badLength h.slack.val h.readMv.val

/-- TRICK_BOUNDARY (R37). -/
def execTrickBoundary (x : TrickEvents) (s : State) : Answer := finish (trickBoundary s x)
/-- HAND_BOUNDARY (R38). -/
def execHandBoundary (x : TrickEvents) (h : HandEvents) (s : State) : Answer := finish (handBoundary s x h)

end Sys2Proof.Machine
end

