-- ==== Sys2Proof/Machine/Dispatch.lean ====
section
/-! DEFINITION. Dispatch: one arm per command. -/

namespace Sys2Proof.Machine

/-- What a command does to everything but the queue: one direct call of its meaning. -/
def exec (i : Instr) (s : State) : Host.Outcome State Fault Refusal :=
  match i with
  | .trickBoundary x => Sys2Proof.Machine.execTrickBoundary x s
  | .handBoundary x h => Sys2Proof.Machine.execHandBoundary x h s
  | .coalTimerExpire q => Sys2Proof.Machine.execCoalTimerExpire q s
  | .croupierPassOverrun e => Sys2Proof.Machine.execCroupierPassOverrun e s
  | .crpNop e => Sys2Proof.Machine.execCrpNop e s
  | .crpHalt e => Sys2Proof.Machine.execCrpHalt e s
  | .crpMov e rd ra => Sys2Proof.Machine.execCrpMov e rd ra s
  | .crpMovi e rd imm => Sys2Proof.Machine.execCrpMovi e rd imm s
  | .crpAdd e rd ra rb => Sys2Proof.Machine.execCrpAdd e rd ra rb s
  | .crpSub e rd ra rb => Sys2Proof.Machine.execCrpSub e rd ra rb s
  | .crpAddm e rd ra rb => Sys2Proof.Machine.execCrpAddm e rd ra rb s
  | .crpSubm e rd ra rb => Sys2Proof.Machine.execCrpSubm e rd ra rb s
  | .crpAddi e rd imm => Sys2Proof.Machine.execCrpAddi e rd imm s
  | .crpNeg e rd ra => Sys2Proof.Machine.execCrpNeg e rd ra s
  | .crpAbs e rd ra => Sys2Proof.Machine.execCrpAbs e rd ra s
  | .crpMul e rd ra rb => Sys2Proof.Machine.execCrpMul e rd ra rb s
  | .crpMuls e rd ra rb => Sys2Proof.Machine.execCrpMuls e rd ra rb s
  | .crpDiv e rd ra rb => Sys2Proof.Machine.execCrpDiv e rd ra rb s
  | .crpAnd e rd ra rb => Sys2Proof.Machine.execCrpAnd e rd ra rb s
  | .crpOr e rd ra rb => Sys2Proof.Machine.execCrpOr e rd ra rb s
  | .crpXor e rd ra rb => Sys2Proof.Machine.execCrpXor e rd ra rb s
  | .crpNot e rd ra => Sys2Proof.Machine.execCrpNot e rd ra s
  | .crpShl e rd ra rb => Sys2Proof.Machine.execCrpShl e rd ra rb s
  | .crpShr e rd ra rb => Sys2Proof.Machine.execCrpShr e rd ra rb s
  | .crpSar e rd ra rb => Sys2Proof.Machine.execCrpSar e rd ra rb s
  | .crpCmp e ra rb => Sys2Proof.Machine.execCrpCmp e ra rb s
  | .crpCmpi e rd imm => Sys2Proof.Machine.execCrpCmpi e rd imm s
  | .crpLd e rd a => Sys2Proof.Machine.execCrpLd e rd a s
  | .crpSt e a rd => Sys2Proof.Machine.execCrpSt e a rd s
  | .crpLdx e rd ra => Sys2Proof.Machine.execCrpLdx e rd ra s
  | .crpStx e ra rd => Sys2Proof.Machine.execCrpStx e ra rd s
  | .crpIn e rd n => Sys2Proof.Machine.execCrpIn e rd n s
  | .crpInx e rd ra => Sys2Proof.Machine.execCrpInx e rd ra s
  | .crpHand e rd => Sys2Proof.Machine.execCrpHand e rd s
  | .crpTrd e rd t => Sys2Proof.Machine.execCrpTrd e rd t s
  | .crpTset e t rd => Sys2Proof.Machine.execCrpTset e t rd s
  | .crpEdge e rd d => Sys2Proof.Machine.execCrpEdge e rd d s
  | .crpAct e a rd => Sys2Proof.Machine.execCrpAct e a rd s
  | .crpB e cond target => Sys2Proof.Machine.execCrpB e cond target s
  | .registerWrite r off bytes => Sys2Proof.Machine.execRegisterWrite r off bytes s
  | .stagedWrite r off bytes => Sys2Proof.Machine.execStagedWrite r off bytes s
  | .pageLock r page => Sys2Proof.Machine.execPageLock r page s
  | .eventSet r page mask => Sys2Proof.Machine.execEventSet r page mask s
  | .mboxSnap r page => Sys2Proof.Machine.execMboxSnap r page s
  | .mboxValid page => Sys2Proof.Machine.execMboxValid page s
  | .parityMismatch off => Sys2Proof.Machine.execParityMismatch off s
  | .shadowParityMismatch off => Sys2Proof.Machine.execShadowParityMismatch off s
  | .deckOpen r d => Sys2Proof.Machine.execDeckOpen r d s
  | .deckCheck r d tok => Sys2Proof.Machine.execDeckCheck r d tok s
  | .checkDone d => Sys2Proof.Machine.execCheckDone d s
  | .deckCommitCrc r d tok => Sys2Proof.Machine.execDeckCommitCrc r d tok s
  | .commitDone d => Sys2Proof.Machine.execCommitDone d s
  | .deckCutAt r d tok => Sys2Proof.Machine.execDeckCutAt r d tok s
  | .deckAbandon r d tok => Sys2Proof.Machine.execDeckAbandon r d tok s
  | .deckForceAbandon r d tok => Sys2Proof.Machine.execDeckForceAbandon r d tok s
  | .deckSave r d tok => Sys2Proof.Machine.execDeckSave r d tok s
  | .deckIdleTimeout d => Sys2Proof.Machine.execDeckIdleTimeout d s
  | .deckIndWrite r d data => Sys2Proof.Machine.execDeckIndWrite r d data s
  | .laneSignalLoss p x => Sys2Proof.Machine.execLaneSignalLoss p x s
  | .laneLockLoss p x => Sys2Proof.Machine.execLaneLockLoss p x s
  | .laneReacquired p x => Sys2Proof.Machine.execLaneReacquired p x s
  | .laneReacqTimeout p x => Sys2Proof.Machine.execLaneReacqTimeout p x s
  | .laneFwStop p j => Sys2Proof.Machine.execLaneFwStop p j s
  | .romBaselineSweep p x snr => Sys2Proof.Machine.execRomBaselineSweep p x snr s
  | .marginCommand n x => Sys2Proof.Machine.execMarginCommand n x s
  | .seatTraining n p => Sys2Proof.Machine.execSeatTraining n p s
  | .seatRecovery n => Sys2Proof.Machine.execSeatRecovery n s
  | .seatWidthReform n => Sys2Proof.Machine.execSeatWidthReform n s
  | .seatLinkDown n => Sys2Proof.Machine.execSeatLinkDown n s
  | .seatReset n => Sys2Proof.Machine.execSeatReset n s
  | .hotReset n disable => Sys2Proof.Machine.execHotReset n disable s
  | .l0pRequestRx n w => Sys2Proof.Machine.execL0pRequestRx n w s
  | .hostMemoryRead q en => Sys2Proof.Machine.execHostMemoryRead q en s
  | .hostMemoryWrite q bytes => Sys2Proof.Machine.execHostMemoryWrite q bytes s
  | .hostAtomicop q op data => Sys2Proof.Machine.execHostAtomicop q op data s
  | .configRead q => Sys2Proof.Machine.execConfigRead q s
  | .configWrite q bytes => Sys2Proof.Machine.execConfigWrite q bytes s
  | .flrInitiate f => Sys2Proof.Machine.execFlrInitiate f s
  | .flrComplete f => Sys2Proof.Machine.execFlrComplete f s
  | .flrDeadline f => Sys2Proof.Machine.execFlrDeadline f s
  | .vfEnableSet n => Sys2Proof.Machine.execVfEnableSet n s
  | .vfEnableClear n => Sys2Proof.Machine.execVfEnableClear n s
  | .vfReady f => Sys2Proof.Machine.execVfReady f s
  | .busMasterEnable f on => Sys2Proof.Machine.execBusMasterEnable f on s
  | .memorySpaceEnable n vfs on => Sys2Proof.Machine.execMemorySpaceEnable n vfs on s
  | .powerStateWrite f d => Sys2Proof.Machine.execPowerStateWrite f d s
  | .hostCompletion n f wire status byteCount mark data => Sys2Proof.Machine.execHostCompletion n f wire status byteCount mark data s
  | .completionTimeout n x => Sys2Proof.Machine.execCompletionTimeout n x s
  | .tagQuarantineExpire n x => Sys2Proof.Machine.execTagQuarantineExpire n x s
  | .ideKmQuery n session => Sys2Proof.Machine.execIdeKmQuery n session s
  | .ideKmKeyProg n session k key => Sys2Proof.Machine.execIdeKmKeyProg n session k key s
  | .ideKmKSetGo n session k => Sys2Proof.Machine.execIdeKmKSetGo n session k s
  | .ideKmKSetStop n session k => Sys2Proof.Machine.execIdeKmKSetStop n session k s
  | .spdmRequest n q => Sys2Proof.Machine.execSpdmRequest n q s
  | .ptmResponse n t1 t4 master delay => Sys2Proof.Machine.execPtmResponse n t1 t4 master delay s
  | .entryLowWrite r ret x v => Sys2Proof.Machine.execEntryLowWrite r ret x v s
  | .entryHighWrite r ret x v => Sys2Proof.Machine.execEntryHighWrite r ret x v s
  | .entryLowRead r tag ret x => Sys2Proof.Machine.execEntryLowRead r tag ret x s
  | .entryHighRead r tag ret x => Sys2Proof.Machine.execEntryHighRead r tag ret x s
  | .indRead n => Sys2Proof.Machine.execIndRead n s
  | .indWrite n => Sys2Proof.Machine.execIndWrite n s
  | .indSync n => Sys2Proof.Machine.execIndSync n s
  | .syncDone n => Sys2Proof.Machine.execSyncDone n s
  | .eccWriteback ret x => Sys2Proof.Machine.execEccWriteback ret x s
  | .xltEccInject r v => Sys2Proof.Machine.execXltEccInject r v s
  | .logEviction f l => Sys2Proof.Machine.execLogEviction f l s
  | .logFlushMerge f l => Sys2Proof.Machine.execLogFlushMerge f l s
  | .logFlushLost f l => Sys2Proof.Machine.execLogFlushLost f l s
  | .injectSeal r p => Sys2Proof.Machine.execInjectSeal r p s
  | .injectLockstep r => Sys2Proof.Machine.execInjectLockstep r s
  | .injectOverrun r t => Sys2Proof.Machine.execInjectOverrun r t s
  | .injectBook r => Sys2Proof.Machine.execInjectBook r s
  | .injectTalonEcc r => Sys2Proof.Machine.execInjectTalonEcc r s
  | .sqTailWrite f q v => Sys2Proof.Machine.execSqTailWrite f q v s
  | .cqHeadWrite f q v => Sys2Proof.Machine.execCqHeadWrite f q v s
  | .queueEnable f q => Sys2Proof.Machine.execQueueEnable f q s
  | .queueConfigLoaded k => Sys2Proof.Machine.execQueueConfigLoaded k s
  | .queueDisable f q => Sys2Proof.Machine.execQueueDisable f q s
  | .queueAbort f q => Sys2Proof.Machine.execQueueAbort f q s
  | .queueResume f q => Sys2Proof.Machine.execQueueResume f q s
  | .queueDrained k => Sys2Proof.Machine.execQueueDrained k s
  | .descFetch k => Sys2Proof.Machine.execDescFetch k s
  | .descFetchDone k => Sys2Proof.Machine.execDescFetchDone k s
  | .descStart k => Sys2Proof.Machine.execDescStart k s
  | .descNop k => Sys2Proof.Machine.execDescNop k s
  | .copyToFabric k x => Sys2Proof.Machine.execCopyToFabric k x s
  | .copyFromFabric k x => Sys2Proof.Machine.execCopyFromFabric k x s
  | .msgSend k x => Sys2Proof.Machine.execMsgSend k x s
  | .fence k => Sys2Proof.Machine.execFence k s
  | .logBarrier k => Sys2Proof.Machine.execLogBarrier k s
  | .descComplete k x => Sys2Proof.Machine.execDescComplete k x s
  | .completionRecord k => Sys2Proof.Machine.execCompletionRecord k s
  | .qctxEcc k => Sys2Proof.Machine.execQctxEcc k s
  | .detectBurst k => Sys2Proof.Machine.execDetectBurst k s
  | .nicenSignalDetect k lanes => Sys2Proof.Machine.execNicenSignalDetect k lanes s
  | .tsBlockRx k x t => Sys2Proof.Machine.execTsBlockRx k x t s
  | .eqBlockRx k x b => Sys2Proof.Machine.execEqBlockRx k x b s
  | .amRowRx k a => Sys2Proof.Machine.execAmRowRx k a s
  | .handRowRx k h => Sys2Proof.Machine.execHandRowRx k h s
  | .eiEnterRx k => Sys2Proof.Machine.execEiEnterRx k s
  | .downRowRx k => Sys2Proof.Machine.execDownRowRx k s
  | .nicenStateTimeout k => Sys2Proof.Machine.execNicenStateTimeout k s
  | .blockLock k x => Sys2Proof.Machine.execBlockLock k x s
  | .blockLockLoss k x => Sys2Proof.Machine.execBlockLockLoss k x s
  | .slip k x => Sys2Proof.Machine.execSlip k x s
  | .frameRx k f => Sys2Proof.Machine.execFrameRx k f s
  | .replayTimeout k => Sys2Proof.Machine.execReplayTimeout k s
  | .nicenRetrain k => Sys2Proof.Machine.execNicenRetrain k s
  | .retrainTimeout k => Sys2Proof.Machine.execRetrainTimeout k s
  | .nicenEiEntry k => Sys2Proof.Machine.execNicenEiEntry k s
  | .nicenEiExit k => Sys2Proof.Machine.execNicenEiExit k s
  | .shedCommand k x => Sys2Proof.Machine.execShedCommand k x s
  | .restoreCommand k x => Sys2Proof.Machine.execRestoreCommand k x s
  | .shedRequestRepeat k => Sys2Proof.Machine.execShedRequestRepeat k s
  | .shedReqRx k r => Sys2Proof.Machine.execShedReqRx k r s
  | .restoreReqRx k r => Sys2Proof.Machine.execRestoreReqRx k r s
  | .shedAckRx k id => Sys2Proof.Machine.execShedAckRx k id s
  | .shedRefuseRx k id => Sys2Proof.Machine.execShedRefuseRx k id s
  | .shedReadyRx k id => Sys2Proof.Machine.execShedReadyRx k id s
  | .restoreAm k => Sys2Proof.Machine.execRestoreAm k s
  | .autoRestore k => Sys2Proof.Machine.execAutoRestore k s
  | .cplRx k x => Sys2Proof.Machine.execCplRx k x s
  | .hwrRx k x => Sys2Proof.Machine.execHwrRx k x s
  | .hrdRx k x => Sys2Proof.Machine.execHrdRx k x s
  | .hintRx k x => Sys2Proof.Machine.execHintRx k x s
  | .creditRx k x => Sys2Proof.Machine.execCreditRx k x s
  | .handTxnRx k x => Sys2Proof.Machine.execHandTxnRx k x s
  | .burnRx k x => Sys2Proof.Machine.execBurnRx k x s
  | .foldRx k x => Sys2Proof.Machine.execFoldRx k x s
  | .shedReportRx k x => Sys2Proof.Machine.execShedReportRx k x s
  | .timeTxnRx k x => Sys2Proof.Machine.execTimeTxnRx k x s
  | .nicenRdTimeout k x => Sys2Proof.Machine.execNicenRdTimeout k x s
  | .nicenTagRelease k x => Sys2Proof.Machine.execNicenTagRelease k x s
  | .burnTimeout k id => Sys2Proof.Machine.execBurnTimeout k id s
  | .eventClaim t tag => Sys2Proof.Machine.execEventClaim t tag s
  | .claimComplete t x => Sys2Proof.Machine.execClaimComplete t x s
  | .claimExpire x => Sys2Proof.Machine.execClaimExpire x s
  | .wake w => Sys2Proof.Machine.execWake w s
  | .msxEccInject r v => Sys2Proof.Machine.execMsxEccInject r v s
  | .foldCommand r p => Sys2Proof.Machine.execFoldCommand r p s
  | .clearCommand r p => Sys2Proof.Machine.execClearCommand r p s
  | .foldDrained p => Sys2Proof.Machine.execFoldDrained p s
  | .hseKick r => Sys2Proof.Machine.execHseKick r s
  | .hseWdogExpire => Sys2Proof.Machine.execHseWdogExpire s
  | .crpWdogExpire e => Sys2Proof.Machine.execCrpWdogExpire e s
  | .clockLoss => Sys2Proof.Machine.execClockLoss s
  | .supplyFault => Sys2Proof.Machine.execSupplyFault s
  | .monitorMismatch => Sys2Proof.Machine.execMonitorMismatch s
  | .injectParity r shadow target => Sys2Proof.Machine.execInjectParity r shadow target s
  | .injectCrc r => Sys2Proof.Machine.execInjectCrc r s
  | .injectClock r => Sys2Proof.Machine.execInjectClock r s
  | .injectSupply r => Sys2Proof.Machine.execInjectSupply r s
  | .injectTimeBase r => Sys2Proof.Machine.execInjectTimeBase r s
  | .injectMonitor r => Sys2Proof.Machine.execInjectMonitor r s
  | .injectQctx r k => Sys2Proof.Machine.execInjectQctx r k s
  | .injectHseWdog r => Sys2Proof.Machine.execInjectHseWdog r s
  | .injectCrpWdog r => Sys2Proof.Machine.execInjectCrpWdog r s
  | .ppsInEdge ofs => Sys2Proof.Machine.execPpsInEdge ofs s
  | .timeSourceLost => Sys2Proof.Machine.execTimeSourceLost s
  | .timeSet => Sys2Proof.Machine.execTimeSet s
  | .ppsOutEdge => Sys2Proof.Machine.execPpsOutEdge s
  | .crpLoad r slot e bank => Sys2Proof.Machine.execCrpLoad r slot e bank s
  | .loadDone => Sys2Proof.Machine.execLoadDone s
  | .offCommand r => Sys2Proof.Machine.execOffCommand r s
  | .droop tile ovr => Sys2Proof.Machine.execDroop tile ovr s
  | .sensorRound xs => Sys2Proof.Machine.execSensorRound xs s
  | .thermTrip => Sys2Proof.Machine.execThermTrip s
  | .minmaxClear r mask => Sys2Proof.Machine.execMinmaxClear r mask s
  | .avsTransactionFail => Sys2Proof.Machine.execAvsTransactionFail s
  | .pstRead r len region corr bad => Sys2Proof.Machine.execPstRead r len region corr bad s
  | .pstWrite r len region => Sys2Proof.Machine.execPstWrite r len region s
  | .pstBatchDone => Sys2Proof.Machine.execPstBatchDone s
  | .powerFail => Sys2Proof.Machine.execPowerFail s
  | .powerFailRecord => Sys2Proof.Machine.execPowerFailRecord s
  | .provision r => Sys2Proof.Machine.execProvision r s
  | .close r => Sys2Proof.Machine.execClose r s
  | .returnPart r => Sys2Proof.Machine.execReturnPart r s
  | .scrap r => Sys2Proof.Machine.execScrap r s
  | .debug r => Sys2Proof.Machine.execDebug r s
  | .debugTokenExpire => Sys2Proof.Machine.execDebugTokenExpire s
  | .showdown r => Sys2Proof.Machine.execShowdown r s
  | .showdownRead r => Sys2Proof.Machine.execShowdownRead r s
  | .fwBegin r => Sys2Proof.Machine.execFwBegin r s
  | .fwWrite r => Sys2Proof.Machine.execFwWrite r s
  | .fwVerify r => Sys2Proof.Machine.execFwVerify r s
  | .activate r => Sys2Proof.Machine.execActivate r s
  | .houseReady => Sys2Proof.Machine.execHouseReady s
  | .activateRollback => Sys2Proof.Machine.execActivateRollback s
  | .crpWrite r => Sys2Proof.Machine.execCrpWrite r s
  | .crpVerify r => Sys2Proof.Machine.execCrpVerify r s
  | .presenceDebounced n low => Sys2Proof.Machine.execPresenceDebounced n low s
  | .attnButtonPress n => Sys2Proof.Machine.execAttnButtonPress n s
  | .pwrOn r n => Sys2Proof.Machine.execPwrOn r n s
  | .pwrOff r n => Sys2Proof.Machine.execPwrOff r n s
  | .powerGood n => Sys2Proof.Machine.execPowerGood n s
  | .powerFault n => Sys2Proof.Machine.execPowerFault n s
  | .removalClear n => Sys2Proof.Machine.execRemovalClear n s
  | .coldReset wake => Sys2Proof.Machine.execColdReset wake s
  | .resetN => Sys2Proof.Machine.execResetN s
  | .boot b => Sys2Proof.Machine.execBoot b s
  | .seatReady n => Sys2Proof.Machine.execSeatReady n s
  | .softReset r => Sys2Proof.Machine.execSoftReset r s
  | .softResetInstant => Sys2Proof.Machine.execSoftResetInstant s
  | .mctpMessage addr q => Sys2Proof.Machine.execMctpMessage addr q s
  | .setdasa static dyn => Sys2Proof.Machine.execSetdasa static dyn s
  | .entdaa dyn => Sys2Proof.Machine.execEntdaa dyn s
  | .rstdaa => Sys2Proof.Machine.execRstdaa s
  | .setEndpointId addr eid => Sys2Proof.Machine.execSetEndpointId addr eid s
  | .slowClockEdge gpio => Sys2Proof.Machine.execSlowClockEdge gpio s
  | .nlkAlert k => Sys2Proof.Machine.execNlkAlert k s
  | .dllpRx n d => Sys2Proof.Machine.execDllpRx n d s
  | .seatReplayTimer n => Sys2Proof.Machine.execSeatReplayTimer n s
  | .electricalIdleEntry n k => Sys2Proof.Machine.execElectricalIdleEntry n k s
  | .electricalIdleExit n => Sys2Proof.Machine.execElectricalIdleExit n s
  | .heartbeatResumes p j => Sys2Proof.Machine.execHeartbeatResumes p j s
  | .cmdDone flashErr => Sys2Proof.Machine.execCmdDone flashErr s

end Sys2Proof.Machine
end

