-- ==== Sys2Proof/Machine/Step.lean ====
section
/-! DEFINITION. The step of the block: the command at the front of the queue, with the queue's rest in the state it acts on. -/

namespace Sys2Proof.Machine

/-- The state with the command at the front of its queue taken out. -/
def State.rest (s : State) : State := { s with pending := s.pending.tail }

/-- One step: the command at the front of the queue is executed on the state that holds the queue's rest. On an empty queue the
block idles (DESIGN CHOICE). -/
def step (s : State) : Host.Outcome State Fault Refusal :=
  match s.pending with
  | [] => .next s
  | c :: _ => exec c s.rest

/-- The state with the command that a word spells put at the front of its queue; unchanged where the word spells none. -/
def State.withFetchWord (s : State) (nbits w : Nat) : State :=
  match Sys2Proof.decodeTableWord nbits w with
  | none => s
  | some c => { s with pending := c :: s.pending }

end Sys2Proof.Machine
end

