-- ==== Sys2Proof/Safety.lean ====
section
/-! DEFINITION. What counts as a safe state of the device, in the terms the statements use: its books balance, its pin tells the
truth, its store is in its canonical form. -/

namespace Sys2Proof

open Sys2Proof.Machine

/-- The Talon's identity: free + held + in flight = 262,144 (R260). -/
def BooksBalance (s : State) : Prop := s.talon.free + heldTotal s + s.talon.flight = talonCards

/-- FAULT_N is asserted exactly when the safety state calls for it (R430, R436, R439, R576). -/
def PinTellsTruth (s : State) : Prop := s.pins.faultN = faultLevel s

/-- The store's bytes and the flash's bytes are held in canonical form. -/
def StoreCanonical (s : State) : Prop := Memory.wf 0 s.store.mem ∧ Memory.wf 0xFF s.store.flash

/-- Everything a safe state has. -/
def Safe (s : State) : Prop := BooksBalance s ∧ PinTellsTruth s ∧ StoreCanonical s

end Sys2Proof
end

