-- ==== Sys2Proof/WellFormed.lean ====
section
/-! DEFINITION. Well-formed commands: operands that the manual lets a sender bring, as a check that evaluates. The meanings are total and
do not ask for it; a statement about a command of the manual may. -/

namespace Sys2Proof

/-- Lanes of a port: 16 on a seat, 32 on a Nicen Link (R14, R17, R19). -/
def laneExists (p : Fin 10) (i : Fin 32) : Bool := decide (i.val < (if p.val < 6 then 16 else 32))
/-- Microcontrollers of a port: one per lane group it may use (R118). -/
def groupExists (p : Fin 10) (j : Fin 4) : Bool := decide (j.val < (if p.val < 6 then 2 else 4))
/-- An entry of the XT, or of the return table (R44). -/
def entryExists (ret : Bool) (i : Fin 8388608) : Bool := decide (i.val < (if ret then 1048576 else 5242880))
/-- A requester that has a bus of its own: the function named is the slot of a host's seat; 0 for the others (R48). -/
def Req.wf (r : Req) : Bool := decide (r.code.val < 6) || r.fn.val == 0
/-- Tiles are 0 to 11; the Dealer is part 2 of tile 15 (R264). -/
def TrickEvents.wf (x : TrickEvents) : Bool :=
  x.overruns.all (fun o => (decide (o.1.val < 12) && decide (o.2.val < 2)) || (o.1.val == 15 && o.2.val == 2))
/-- Rate codes 1 to 7 (R140). -/
def SeatPartner.wf (p : SeatPartner) : Bool := decide (1 ≤ p.rate.val)
/-- The payload holds LEN units, the last of LAST bytes (R356). -/
def TxnIn.whole (x : TxnIn) : Bool := decide (x.data.length ≤ 64 * x.len.val)

/-- The check. -/
def Instr.wf : Instr → Bool
  | .trickBoundary x => x.wf
  | .handBoundary x _ => x.wf
  | .registerWrite r _ bs => r.wf && decide (bs.length ≤ 8)
  | .stagedWrite r _ bs => r.wf && decide (bs.length ≤ 8)
  | .laneSignalLoss p i => laneExists p i
  | .laneLockLoss p i => laneExists p i
  | .laneReacquired p i => laneExists p i
  | .laneReacqTimeout p i => laneExists p i
  | .laneFwStop p j => groupExists p j
  | .heartbeatResumes p j => groupExists p j
  | .romBaselineSweep p i snr => laneExists p i && snr.length == 7
  | .seatTraining _ p => p.wf
  | .hostMemoryRead _ en => decide (en.length ≤ 4096)
  | .hostMemoryWrite _ bs => decide (bs.length ≤ 4096)
  | .hostAtomicop _ _ d => decide (d.length ≤ 32)
  | .configWrite _ bs => decide (1 ≤ bs.length ∧ bs.length ≤ 4)
  | .entryLowWrite r ret i _ => r.wf && entryExists ret i
  | .entryHighWrite r ret i _ => r.wf && entryExists ret i
  | .entryLowRead r _ ret i => r.wf && entryExists ret i
  | .entryHighRead r _ ret i => r.wf && entryExists ret i
  | .eccWriteback ret i => entryExists ret i
  | .hwrRx _ x => x.whole
  | .cplRx _ x => x.whole
  | .sensorRound xs => xs.length == 16
  | .mctpMessage _ (.write _ bs) => decide (bs.length ≤ 64)
  | _ => true

end Sys2Proof
end

