-- ==== Sys2Proof/Certificates/Slice0/Obligations.lean ====
section
/-! DEFINITION. The statements for the provers. A next state is written as the state the rules give, with FAULT_N driven as the
safety state of that state has it (`drivePins`), so that what a command leaves unchanged is part of the equation. -/

open Sys2Proof Sys2Proof.Machine

namespace Sys2Proof.Spec

/-! ## The Croupier's instructions (R460 to R472) -/

/-- An instruction word of format R, I, M or B (R467): OP, [17:14], and the low 14 bits. -/
def crpWord (op r low : Nat) : Nat := op * 0x40000 + r * 0x4000 + low

/-- Engine e's pass runs, an instruction of `cyc` cycles ends within the 7,680 of R462, and the word it fetches is `w`. -/
def Fetches (s : State) (e : Fin 16) (cyc w : Nat) : Prop :=
  (engOf s e.val).run = true ∧ (engOf s e.val).cycles + cyc ≤ 7680 ∧ (engProg s e.val)[(engOf s e.val).pc]? = some w

/-- Engine e becomes `y`; every other engine, and all else but FAULT_N, stays as it is. -/
def withEng (s : State) (e : Fin 16) (y : Eng) : State :=
  drivePins { s with crp := { s.crp with engs := tabPut Eng.idle s.crp.engs e.val y } }

/-- A G register after an instruction that writes `v` to G[r] and takes `cyc` cycles: Z and N from `v` (R470), C, V, D kept. -/
def wrote (x : Eng) (r : Nat) (v : BitVec 12) (cyc : Nat) : Eng :=
  { x with g := tabPut 0 x.g r v, z := decide (v = 0), n := decide (v.toInt < 0), pc := x.pc + 1, cycles := x.cycles + cyc }

/-- The 12-bit value nearest to `i` (R471: +2,047 or −2,048, toward the true result). -/
def nearest (i : Int) : BitVec 12 := BitVec.ofInt 12 (max (-2048) (min i 2047))

/-- A saturating result: V is set when the true result is outside the range, and never cleared (R470, R471). -/
def wroteSat (x : Eng) (r : Nat) (i : Int) (cyc : Nat) : Eng :=
  { wrote x r (nearest i) cyc with v := x.v || decide (i < -2048 ∨ 2047 < i) }

/-- The instruction that changes nothing but `pc` and the cycle count. -/
def passed (x : Eng) (cyc : Nat) : Eng := { x with pc := x.pc + 1, cycles := x.cycles + cyc }

end Sys2Proof.Spec

open Sys2Proof.Spec

/-- ADD, SUB, ADDI, NEG, ABS and MULS write the 12-bit value nearest to the exact result and set V when the exact result is outside the range;
MULS takes 2 cycles and leaves Rd+1; C and D stay (R468, R470, R471). ADDM and SUBM work modulo 4,096; C is the carry out of bit 11, or
the borrow; V and D stay (R468, R470, R471). MUL leaves the exact 24-bit product in Rd and Rd+1 with Z and N from all 24 bits; DIV leaves
quotient and remainder with Z and N from the quotient; −2,048 ÷ −1 sets V, division by 0 sets D, and the pass goes on (R468, R470, R471).
SHL, SHR and SAR for a count of 0, of 1 to 11 and of 12 or more: the result, and C the last bit shifted out (R471). Of each of these
commands it says that exec answers a next state: crpAdd, crpSub, crpAddi, crpNeg, crpAbs, crpMuls, crpAddm, crpSubm, crpMul, crpDiv,
crpShl, crpShr, crpSar. -/
def Obligations.CroupierArithmeticFollowsItsTable : Prop :=
  (∀ (s : State) (e rd ra rb : Fin 16) (imm : BitVec 12),
     let x := engOf s e.val
     let a := (tabGet (0 : BitVec 12) x.g ra.val).toInt
     let b := (tabGet (0 : BitVec 12) x.g rb.val).toInt
     let d := (tabGet (0 : BitVec 12) x.g rd.val).toInt
     let two := ra.val * 0x400
     let three := ra.val * 0x400 + rb.val * 0x40
     (Fetches s e 1 (crpWord 0x04 rd.val three) → exec (.crpAdd e rd ra rb) s = .next (withEng s e (wroteSat x rd.val (a + b) 1))) ∧
     (Fetches s e 1 (crpWord 0x05 rd.val three) → exec (.crpSub e rd ra rb) s = .next (withEng s e (wroteSat x rd.val (a - b) 1))) ∧
     (Fetches s e 1 (crpWord 0x08 rd.val imm.toNat) → exec (.crpAddi e rd imm) s = .next (withEng s e (wroteSat x rd.val (d + imm.toInt) 1))) ∧
     (Fetches s e 1 (crpWord 0x09 rd.val two) → exec (.crpNeg e rd ra) s = .next (withEng s e (wroteSat x rd.val (-a) 1))) ∧
     (Fetches s e 1 (crpWord 0x0A rd.val two) → exec (.crpAbs e rd ra) s = .next (withEng s e (wroteSat x rd.val (if a < 0 then -a else a) 1))) ∧
     (Fetches s e 2 (crpWord 0x0C rd.val three) → exec (.crpMuls e rd ra rb) s = .next (withEng s e (wroteSat x rd.val (a * b) 2)))) ∧
  (∀ (s : State) (e rd ra rb : Fin 16),
     let x := engOf s e.val
     let a := (tabGet (0 : BitVec 12) x.g ra.val).toNat
     let b := (tabGet (0 : BitVec 12) x.g rb.val).toNat
     let three := ra.val * 0x400 + rb.val * 0x40
     (Fetches s e 1 (crpWord 0x06 rd.val three) → exec (.crpAddm e rd ra rb) s =
       .next (withEng s e { wrote x rd.val (BitVec.ofNat 12 ((a + b) % 4096)) 1 with c := decide (4095 < a + b) })) ∧
     (Fetches s e 1 (crpWord 0x07 rd.val three) → exec (.crpSubm e rd ra rb) s =
       .next (withEng s e { wrote x rd.val (BitVec.ofNat 12 ((4096 + a - b) % 4096)) 1 with c := decide (a < b) }))) ∧
  (∀ (s : State) (e rd ra rb : Fin 16), rd.val % 2 = 0 →
     let x := engOf s e.val
     let a := (tabGet (0 : BitVec 12) x.g ra.val).toInt
     let b := (tabGet (0 : BitVec 12) x.g rb.val).toInt
     let three := ra.val * 0x400 + rb.val * 0x40
     let two (y : Eng) (hi lo : Int) : Eng :=
       { y with g := tabPut 0 (tabPut 0 x.g rd.val (BitVec.ofInt 12 hi)) (rd.val + 1) (BitVec.ofInt 12 lo) }
     (Fetches s e 2 (crpWord 0x0B rd.val three) → exec (.crpMul e rd ra rb) s =
       .next (withEng s e { two (passed x 2) (a * b / 4096) (a * b) with z := decide (a * b = 0), n := decide (a * b < 0) })) ∧
     (Fetches s e 13 (crpWord 0x0D rd.val three) → b ≠ 0 → ¬ (a = -2048 ∧ b = -1) → exec (.crpDiv e rd ra rb) s =
       .next (withEng s e { two (passed x 13) (a.tdiv b) (a.tmod b) with z := decide (a.tdiv b = 0), n := decide (a.tdiv b < 0) })) ∧
     (Fetches s e 13 (crpWord 0x0D rd.val three) → a = -2048 → b = -1 → exec (.crpDiv e rd ra rb) s =
       .next (withEng s e { two (passed x 13) 2047 0 with z := false, n := false, v := true })) ∧
     (Fetches s e 13 (crpWord 0x0D rd.val three) → b = 0 → exec (.crpDiv e rd ra rb) s =
       .next (withEng s e { two (passed x 13) (if a < 0 then -2048 else 2047) a with z := false, n := decide (a < 0), d := true }))) ∧
  (∀ (s : State) (e rd ra rb : Fin 16),
     let x := engOf s e.val
     let a := tabGet (0 : BitVec 12) x.g ra.val
     let k := (tabGet (0 : BitVec 12) x.g rb.val).toNat
     let three := ra.val * 0x400 + rb.val * 0x40
     let inside := decide (1 ≤ k ∧ k ≤ 11)
     (Fetches s e 1 (crpWord 0x12 rd.val three) → exec (.crpShl e rd ra rb) s =
       .next (withEng s e { wrote x rd.val (BitVec.ofNat 12 (a.toNat * 2 ^ k)) 1 with c := inside && a.toNat.testBit (12 - k) })) ∧
     (Fetches s e 1 (crpWord 0x13 rd.val three) → exec (.crpShr e rd ra rb) s =
       .next (withEng s e { wrote x rd.val (BitVec.ofNat 12 (a.toNat / 2 ^ k)) 1 with c := inside && a.toNat.testBit (k - 1) })) ∧
     (Fetches s e 1 (crpWord 0x14 rd.val three) → exec (.crpSar e rd ra rb) s =
       .next (withEng s e { wrote x rd.val (BitVec.ofInt 12 (a.toInt / 2 ^ k)) 1 with
         c := if k = 0 then false else if k ≤ 11 then a.toNat.testBit (k - 1) else decide (a.toInt < 0) })))

/-- MOV, MOVI, AND, OR, XOR and NOT write their result, set Z and N from it, and leave C, V, D, the other registers and all else (R468, R470).
LD, ST, LDX, STX, TRD, TSET, EDGE, HAND, IN and INX move a word between a G register and the data memory, a timer, a detector's edge
output, the snapshot's hand number or an input port of the snapshot (R463, R465, R466, R468, R470). Of each of these commands it says that
exec answers a next state: crpMov, crpMovi, crpAnd, crpOr, crpXor, crpNot, crpLd, crpSt, crpLdx, crpStx, crpIn, crpInx, crpHand, crpTrd,
crpTset, crpEdge. The model's choice in it: log entry 15. -/
def Obligations.CroupierMovesAndLogicComplete : Prop :=
  (∀ (s : State) (e rd ra rb : Fin 16) (imm : BitVec 12),
     let x := engOf s e.val
     let a := tabGet 0 x.g ra.val
     let b := tabGet 0 x.g rb.val
     let two := ra.val * 0x400
     let three := ra.val * 0x400 + rb.val * 0x40
     (Fetches s e 1 (crpWord 0x02 rd.val two) → exec (.crpMov e rd ra) s = .next (withEng s e (wrote x rd.val a 1))) ∧
     (Fetches s e 1 (crpWord 0x03 rd.val imm.toNat) → exec (.crpMovi e rd imm) s = .next (withEng s e (wrote x rd.val imm 1))) ∧
     (Fetches s e 1 (crpWord 0x0E rd.val three) → exec (.crpAnd e rd ra rb) s = .next (withEng s e (wrote x rd.val (a &&& b) 1))) ∧
     (Fetches s e 1 (crpWord 0x0F rd.val three) → exec (.crpOr e rd ra rb) s = .next (withEng s e (wrote x rd.val (a ||| b) 1))) ∧
     (Fetches s e 1 (crpWord 0x10 rd.val three) → exec (.crpXor e rd ra rb) s = .next (withEng s e (wrote x rd.val (a ^^^ b) 1))) ∧
     (Fetches s e 1 (crpWord 0x11 rd.val two) → exec (.crpNot e rd ra) s = .next (withEng s e (wrote x rd.val (~~~a) 1)))) ∧
  (∀ (s : State) (e rd ra : Fin 16) (a : Fin 256) (t : Fin 32) (d : Fin 64) (i : Fin 1024),
     let x := engOf s e.val
     let u := (tabGet (0 : BitVec 12) x.g ra.val).toNat
     let v := tabGet (0 : BitVec 12) x.g rd.val
     let port (k : Nat) : BitVec 12 := BitVec.ofNat 12 (tabGet 0 s.crp.snap k)
     (Fetches s e 1 (crpWord 0x17 rd.val a.val) → exec (.crpLd e rd a) s = .next (withEng s e (wrote x rd.val (tabGet 0 x.data a.val) 1))) ∧
     (Fetches s e 1 (crpWord 0x18 rd.val a.val) → exec (.crpSt e a rd) s = .next (withEng s e { passed x 1 with data := tabPut 0 x.data a.val v })) ∧
     (Fetches s e 1 (crpWord 0x19 rd.val (ra.val * 0x400)) → exec (.crpLdx e rd ra) s =
       .next (withEng s e (wrote x rd.val (tabGet 0 x.data (u % 256)) 1))) ∧
     (Fetches s e 1 (crpWord 0x1A rd.val (ra.val * 0x400)) → exec (.crpStx e ra rd) s =
       .next (withEng s e { passed x 1 with data := tabPut 0 x.data (u % 256) v })) ∧
     (Fetches s e 1 (crpWord 0x1B rd.val i.val) → exec (.crpIn e rd i) s = .next (withEng s e (wrote x rd.val (port i.val) 1))) ∧
     (Fetches s e 1 (crpWord 0x1C rd.val (ra.val * 0x400)) → exec (.crpInx e rd ra) s = .next (withEng s e (wrote x rd.val (port (u % 1024)) 1))) ∧
     (Fetches s e 1 (crpWord 0x1D rd.val 0) → exec (.crpHand e rd) s = .next (withEng s e (wrote x rd.val (BitVec.ofNat 12 s.crp.snapHand) 1))) ∧
     (Fetches s e 1 (crpWord 0x1E rd.val t.val) → exec (.crpTrd e rd t) s = .next (withEng s e (wrote x rd.val (tabGet 0 x.timers t.val) 1))) ∧
     (Fetches s e 1 (crpWord 0x1F rd.val t.val) → exec (.crpTset e t rd) s =
       .next (withEng s e { passed x 1 with timers := tabPut 0 x.timers t.val v })) ∧
     (Fetches s e 1 (crpWord 0x20 rd.val d.val) → exec (.crpEdge e rd d) s =
       .next (withEng s e (wrote x rd.val (if d.val ∈ x.edges then 1 else 0) 1))))

/-- NOP changes nothing; CMP and CMPI set Z and N of the saturating difference and leave V; B goes to its target in 2 cycles where its
condition holds, on in 1 where it does not (R468, R469, R470). Of each of these commands it says that exec answers a next state: crpNop,
crpCmp, crpCmpi, crpB. -/
def Obligations.CroupierCompareAndBranchComplete : Prop :=
  ∀ (s : State) (e rd ra rb cond : Fin 16) (imm target : BitVec 12),
    let x := engOf s e.val
    let g (r : Fin 16) : Int := (tabGet (0 : BitVec 12) x.g r.val).toInt
    let cmp (i : Int) : Eng := { passed x 1 with z := decide (i = 0), n := decide (i < 0) }
    let holds : Bool := match cond.val with
      | 0x0 => true | 0x1 => x.z | 0x2 => !x.z | 0x3 => x.n | 0x4 => !x.n | 0x5 => !x.n && !x.z | 0x6 => x.n || x.z
      | 0x7 => x.c | 0x8 => !x.c | 0x9 => x.v | 0xA => x.d | _ => false
    (Fetches s e 1 0 → exec (.crpNop e) s = .next (withEng s e (passed x 1))) ∧
    (Fetches s e 1 (crpWord 0x15 0 (ra.val * 0x400 + rb.val * 0x40)) → exec (.crpCmp e ra rb) s = .next (withEng s e (cmp (g ra - g rb)))) ∧
    (Fetches s e 1 (crpWord 0x16 rd.val imm.toNat) → exec (.crpCmpi e rd imm) s = .next (withEng s e (cmp (g rd - imm.toInt)))) ∧
    (cond.val ≤ 0xA → holds = true → Fetches s e 2 (crpWord 0x22 cond.val target.toNat) → exec (.crpB e cond target) s =
      .next (withEng s e { x with pc := target.toNat, cycles := x.cycles + 2 })) ∧
    (cond.val ≤ 0xA → holds = false → Fetches s e 1 (crpWord 0x22 cond.val target.toNat) → exec (.crpB e cond target) s =
      .next (withEng s e (passed x 1)))

/-- ACT puts its value in the pending slot of a port that the engine owns, and is counted as rejected on any other port; HALT ends the pass
and commits the pending actions; an overrun stops the pass at 7,680 cycles and discards them, keeping stores and timers, and sets the
engine's bit and ERR_STAT.OVERRUN, which is no safety-class fault while ERR_SEV[8] is 0, its reset value; a HALT during an injection of
the watchdog does not feed it (R427, R439, R461, R462, R472, R482). Of each of these commands it says that exec answers a next state:
crpAct, crpHalt, croupierPassOverrun. The model's choice in it: log entry 15. -/
def Obligations.CroupierPassEnds : Prop :=
  ∀ (s : State) (e rd : Fin 16) (a : Fin 256),
    let x := engOf s e.val
    let cfg := regAt s (0x0F100 + 4 * a.val)
    let owns := bits cfg 31 28 = e.val ∧ bits cfg 27 24 ≠ 0
    let stat := crpPg + 0x140 + 4 * e.val
    let shown (cyc : Nat) (s : State) : State :=
      regPut s stat (setBits (setBit (setBit (regAt s stat) 26 x.v) 25 x.d) 12 0 cyc)
    let eng (y : Eng) : State := { s with crp := { s.crp with engs := tabPut Eng.idle s.crp.engs e.val y } }
    (Fetches s e 1 (crpWord 0x21 rd.val a.val) → owns → exec (.crpAct e a rd) s =
      .next (withEng s e { passed x 1 with pend := tabIns x.pend a.val (tabGet 0 x.g rd.val) })) ∧
    (Fetches s e 1 (crpWord 0x21 rd.val a.val) → ¬ owns → exec (.crpAct e a rd) s =
      .next (withEng s e { passed x 1 with discarded := min 65535 (x.discarded + 1) })) ∧
    (Fetches s e 1 (crpWord 0x01 0 0) → exec (.crpHalt e) s =
      .next (drivePins (shown (x.cycles + 1) (eng { x with
        run := false, cycles := x.cycles + 1, commit := x.pend, pend := [], passes := min 65535 (x.passes + 1),
        lastHand := handNo s % 2 ^ 32, since := if s.time.toNat < s.safe.passOff then x.since else 0 })))) ∧
    (x.run = true → flagAt s (crpPg + 0x024) 8 = false → exec (.croupierPassOverrun e) s =
      .next (drivePins (setErrBit (hwSetBits (shown 7680 (eng { x with
        run := false, cycles := 7680, pend := [], overruns := min 65535 (x.overruns + 1) })) (crpPg + 0x18C) (maskOf e.val e.val)) crpPg 8)))

/-- CRP_LOAD of a bank that no engine runs and no checked deck names empties the bank and runs LOAD; LOAD_DONE ends it with OK and the program
in the bank, or with the STATUS of the first failing check and the bank empty; CRP_WDOG_EXPIRE stops an engine that has completed no pass
in four hands and folds nothing (R427, R479, R482, R483). Of each of these commands it says that exec answers a next state: crpLoad,
loadDone, crpWdogExpire. The model's choices in it: log entries 17, 131 and 144. -/
def Obligations.CroupierLoadAndWatchdogComplete : Prop :=
  ∀ (s : State) (r : Req) (slot e : Fin 16) (bank : Bool),
    let cmd := loadCmd
    let load (c : Option (Nat × Nat × Nat)) : State := { s with crp := { s.crp with load := c } }
    (trusted s r = true → s.crp.load = none → fldAt s (hsePg + 0x120) 31 28 ≠ 4 → ¬ (engEn s e.val = true ∧ engBank s e.val = bank) →
      bankNamed s e.val bank = false → exec (.crpLoad r slot e bank) s =
        .next (drivePins (fldPut (fldPut (putBank (load (some (slot.val, e.val, b2n bank))) e.val bank []) cmd 31 28 0) cmd 27 27 1))) ∧
    (s.crp.load = some (slot.val, e.val, b2n bank) → exec .loadDone s = .next (drivePins
      (let u := setEvt (load none) crpPg 9
       match slotCheck s slot.val with
       | .ok ws => fldPut (fldPut (putBank (svnSeen u 3 (storeRead s (slotAddr slot.val + 0x3800) 0x800)) e.val bank ws) cmd 31 28 0) cmd 27 27 0
       | .badSig | .svn => fldPut (fldPut u cmd 31 28 1) cmd 27 27 0
       | .badHeader => fldPut (fldPut u cmd 31 28 2) cmd 27 27 0
       | .badCode => fldPut (fldPut u cmd 31 28 3) cmd 27 27 0
       | .empty => fldPut (fldPut u cmd 31 28 7) cmd 27 27 0))) ∧
    (engState s e.val = 1 → 4 ≤ (engOf s e.val).since → exec (.crpWdogExpire e) s = .next (drivePins
      (let u : State := { s with crp := { s.crp with engs := tabPut Eng.idle s.crp.engs e.val { engOf s e.val with run := false, pend := [], commit := [] } } }
       setEvt (bump (faultLog (showEng u e.val 2) 0x16 15 0 (byIgnoring s s.safe.passOff)) (safPg + 0x410)) safPg 10)))

/-- PST_READ moves LEN + 1 granules of the region into PST.BUF, or sets ECC where one is uncorrectable; PST_WRITE makes PST.CMD BUSY and
starts the batch when the hold-up check passes; PST_BATCH_DONE stores the batch's bytes, ends the command OK and starts what waits (R517,
R519, R520, R521). Of each of these commands it says that exec answers a next state: pstRead, pstWrite, pstBatchDone. The model's choices
in it: log entries 18, 19, 20 and 137. -/
def Obligations.StoreCommandsComplete : Prop :=
  ∀ (s : State) (r : Req) (len : Fin 16) (region : Fin 4) (corr : Nat),
    let cmd := pstPg + 0x114
    let g := fldAt s (pstPg + 0x110) 21 6
    let base : Nat := match region.val with
      | 0 => 0x490000 | 1 => 0x210000 | 2 => 0x450000 | _ => 0x010000
    let size : Nat := match region.val with
      | 0 => 0x370000 | 1 => 0x200000 | 2 => 0x10000 | _ => 0x200000
    let free := s.boot.shed = false ∧ 64 * (g + len.val + 1) ≤ size ∧ s.lcs.fuse ≠ 5 ∧ ¬ (s.lcs.fuse = 4 ∧ region.val ≤ 1) ∧ s.store.ready = true
    let took := freshPar (fldPut (fldPut s cmd 11 8 len.val) cmd 5 4 region.val) cmd
    let n := 64 * (len.val + 1)
    (trusted s r = true → flagAt s cmd 27 = false → free → exec (.pstRead r len region corr false) s = .next (drivePins
      (fldPut (bufPut (bumpBy took (pstPg + 0x208) (min corr (len.val + 1))) (pstPg + 0x400) (storeRead s (base + 64 * g) n) 0) cmd 31 28 0))) ∧
    (trusted s r = true → flagAt s cmd 27 = false → free → exec (.pstRead r len region corr true) s = .next (drivePins
      (raiseErr (fldPut (bumpBy took (pstPg + 0x208) (min corr (len.val + 1))) cmd 31 28 3) pstPg 8))) ∧
    (trusted s r = true → flagAt s cmd 27 = false → free → region.val = 0 → s.store.busy = none → s.store.wait = [] → s.recs = [] →
      ∀ u : State, u = fldPut (fldPut took cmd 31 28 0) cmd 27 27 1 → (holdup u (len.val + 1)).1 = true →
      exec (.pstWrite r len region) s = .next (drivePins (storeMod (fuseSvn (holdup u (len.val + 1)).2) (fun x => { x with
        wait := [], busy := some { who := .pst, addr := base + 64 * g, data := bufGet u (pstPg + 0x400) (16 * (len.val + 1)), rec_ := none } })))) ∧
    (∀ b : Batch, s.store.busy = some b → b.who = .pst → exec .pstBatchDone s = .next (drivePins (pumpStore
      (fldPut (fldPut (bump { s with store := { s.store with mem := memWrite 0 s.store.mem b.addr b.data, busy := none } } (pstPg + 0x20C)) cmd 31 28 0) cmd 27 27 0))))

/-- POWER_FAIL folds the table with cause PWR_FAIL, begins shed mode, ends what waits to be written with POWER_FAIL, drops the records that
wait, stops the Croupier's passes and makes the final record due; POWER_FAIL_RECORD writes that record at the ring's place and advances
HEAD and SEQ (R524, R525, R527). Of each of these commands it says that exec answers a next state: powerFail, powerFailRecord. The model's
choices in it: log entries 20 and 139. -/
def Obligations.PowerFailureCompletes : Prop :=
  ∀ (s : State),
    (isOff s = false → s.boot.shed = false → exec .powerFail s = .next (drivePins
      (let due := if s.store.ready = true then some (if s.pwr.state = 3 then 256 else 4096, s.time.toNat, handNo s, failBody s) else none
       let u := setEvt (faultTable s 0x0B 0 false) pstPg 9
       let v := refuseQueued { u with boot := { u.boot with shed := true }, store := { u.store with final := due } }
       { v with crp := { v.crp with engs := v.crp.engs.map (fun p => (p.1, { p.2 with run := false, pend := [] })) } }))) ∧
    (∀ (len time hand : Nat) (body : List Byte), s.store.final = some (len, time, hand, body) → s.store.busy = none →
      exec .powerFailRecord s = .next (drivePins
        (let head := fldAt s (pstPg + 0x144) 14 0
         let g := if 32768 < head + len / 64 then 0 else head
         let seq := ((regAt s (pstPg + 0x148)).toNat + 1) % 2 ^ 32
         regPut (regPut { s with store := { s.store with mem := memWrite 0 s.store.mem (0x210000 + 64 * g) (ringBytes 2 seq time hand len body), final := none } }
           (pstPg + 0x144) (BitVec.ofNat 32 ((g + len / 64) % 32768))) (pstPg + 0x148) (BitVec.ofNat 32 seq))))

namespace Sys2Proof.Spec

/-- A life-cycle transition is blown under the hold-up check and awaits the next reset: PENDING, STATUS OK, a LIFE_CYCLE record (R529). -/
def blown (s : State) (to_ code : Nat) (hash : List Word) : State :=
  let u := fuseSvn (holdup s 1024).2
  putRec (fldPut (fldPut { u with lcs := { u.lcs with next := to_ } } (lcsPg + 0x100) 27 27 1) (lcsPg + 0x104) 31 28 0) 4 64
    (BitVec.ofNat 32 (u.lcs.fuse + 256 * to_ + 65536 * code) :: hash)

/-- The command was judged with a token: NONCE moves on, and a rejected token is counted (R530). -/
def judged (s : State) (ok : Bool) : State :=
  { s with lcs := { s.lcs with nonce := s.lcs.nonce + 1, fails := if ok then s.lcs.fails else s.lcs.fails + 1 } }

end Sys2Proof.Spec

/-- PROVISION, CLOSE, RETURN and SCRAP from the states R529 names blow their fuses and await the next reset; RETURN needs a good token and
ends with BAD_TOKEN without one; a token command after eight rejections ends with LOCKED_OUT; DEBUG opens the debug port for the token's
rubbers and DEBUG_TOKEN_EXPIRE closes it. The token's hash in RETURN's record is an open value (R529, R530). Of each of these commands it
says that exec answers a next state: provision, close, returnPart, debug, scrap, debugTokenExpire. The model's choices in it: log entries
18, 21, 22 and 137. -/
def Obligations.LifeCycleCommandsComplete : Prop :=
  ∀ (s : State) (r : Req), (fromButton s r = true ∨ r.code.val = 6) → s.lcs.next = 0 → s.boot.shed = false → (holdup s 1024).1 = true →
    let buf (n : Nat) : List Byte := (List.range n).flatMap (fun i => wordBytes (regAt s (pstPg + 0x400 + 4 * i)))
    (s.lcs.fuse = 1 → exec (.provision r) s = .next (drivePins
      (let u := blown s 2 1 []
       { u with lcs := { u.lcs with owner := buf 12 } }))) ∧
    (s.lcs.fuse = 2 → exec (.close r) s = .next (drivePins (blown s 3 2 []))) ∧
    (s.lcs.fuse = 3 → s.lcs.fails < 8 → exec (.returnPart r) s = .next (drivePins
      (let u : State := judged { s with freeCtr := s.freeCtr + 2 } (tokenOk s 2)
       if tokenOk s 2 = true then
         blown u 4 3 [BitVec.ofNat 32 (Config.freeValue s.freeCtr), BitVec.ofNat 32 (Config.freeValue (s.freeCtr + 1))]
       else fldPut u (lcsPg + 0x104) 31 28 2))) ∧
    (s.lcs.fuse = 3 → 8 ≤ s.lcs.fails → exec (.debug r) s = .next (drivePins
      (fldPut { s with lcs := { s.lcs with nonce := s.lcs.nonce + 1 } } (lcsPg + 0x104) 31 28 5))) ∧
    (fldAt s (lcsPg + 0x104) 15 4 = 0xA5C → exec (.scrap r) s = .next (drivePins (blown s 5 4 []))) ∧
    (s.lcs.fuse = 3 → s.lcs.fails < 8 → exec (.debug r) s = .next (drivePins
      (let u := judged s (tokenOk s 1)
       if tokenOk s 1 = true then
         fldPut (fldPut { u with lcs := { u.lcs with debugLeft := some (leNat (((buf 64).drop 0x28).take 2)) } } (lcsPg + 0x100) 26 26 1) (lcsPg + 0x104) 31 28 0
       else fldPut u (lcsPg + 0x104) 31 28 2))) ∧
    (s.lcs.debugLeft = some 0 → exec .debugTokenExpire s = .next (drivePins (fldPut { s with lcs := { s.lcs with debugLeft := none } } (lcsPg + 0x100) 26 26 0)))

/-- IDE_KM inside a secure session of PF n: KEY_PROG stores a key unless its set is in use there, K_SET_GO puts a held key set, whose key no
failed check has spent, in use and counts a switch, K_SET_STOP ends its use and drops the key, QUERY reports and changes nothing; the
stream is Secure while all six sub-stream directions use a set (R169, R175, R176, R536). SPDM on a present seat's DOE mailbox: KEY_EX
opens the lower of two sessions, END_SESSION ends the session, and every other request of R535 is answered; in SCRAP every request ends
with an error. Beside that nothing changes, but for a data object that waits in the DOE mailbox, which is answered with it (R535, R536).
Of each of these commands it says that exec answers a next state: ideKmQuery, ideKmKeyProg, ideKmKSetGo, ideKmKSetStop, spdmRequest. The
model's choices in it: log entries 23, 24 and 129. -/
def Obligations.SecurityProtocolsComplete : Prop :=
  (∀ (s : State) (n : Fin 6) (session : Nat) (k : IdeKey) (key : BitVec 352),
     let x := tabGet IdeStream.none_ (seatOf s n.val).ide k.stream.val
     let i := k.sub.val * 2 + k.dir.val
     let set := k.set.val + 1
     let no := k.set.val * 8 + i
     let all (a : Tab Nat) : Bool := (List.range 6).all (fun j => decide (tabGet 0 a j ≠ 0))
     let stream (y : IdeStream) : State :=
       { s with seats := tabPut Seat.down s.seats n.val { seatOf s n.val with ide := tabPut IdeStream.none_ (seatOf s n.val).ide k.stream.val y } }
     let ack (s : State) : State := emit s (.mgmt "IDE_KM K_GOSTOP_ACK" [n.val, k.stream.val])
     session ∈ (seatOf s n.val).sessions → s.lcs.fuse ≠ 5 →
     (exec (.ideKmQuery n session) s = .next (drivePins (emit s (.mgmt "IDE_KM QUERY_RESP" (n.val :: (List.range 9).map (fun t =>
       b2n (tabGet IdeStream.none_ (seatOf s n.val).ide t).secure)))))) ∧
     (tabGet 0 x.active i ≠ set → exec (.ideKmKeyProg n session k key) s = .next (drivePins
       (emit (stream { x with keys := tabIns x.keys no key.toNat, stale := setDel no x.stale }) (.mgmt "IDE_KM KP_ACK" [n.val, k.stream.val, 0])))) ∧
     (tabGet 0 x.active i = set → exec (.ideKmKeyProg n session k key) s = .next (drivePins
       (emit s (.mgmt "IDE_KM KP_ACK" [n.val, k.stream.val, 1])))) ∧
     ((∃ v, (no, v) ∈ x.keys) → no ∉ x.stale → exec (.ideKmKSetGo n session k) s = .next (drivePins
       (let a := tabPut 0 x.active i set
        let u := stream { x with active := a, secure := all a }
        ack (if tabGet 0 x.active i ≠ 0 ∧ tabGet 0 x.active i ≠ set then
          setEvt (bump u (idePg n.val + 0x404)) (idePg n.val) 9 else u)))) ∧
     (exec (.ideKmKSetStop n session k) s = .next (drivePins
       (let a := if tabGet 0 x.active i = set then tabDel x.active i else x.active
        ack (stream { x with active := a, keys := tabDel x.keys no, stale := setDel no x.stale, secure := all a }))))) ∧
  (∀ (s : State) (n : Fin 6) (q : Spdm), seatPresent s n.val = true →
     let say (s : State) (what : String) (l : List Nat) : State := doeAnswered (emit s (.mgmt what (n.val :: l))) n.val
     let open_ := (seatOf s n.val).sessions
     let sessions (l : List Nat) : State := { s with seats := tabPut Seat.down s.seats n.val { seatOf s n.val with sessions := l } }
     (s.lcs.fuse = 5 → exec (.spdmRequest n q) s = .next (drivePins (say s "SPDM ERROR" []))) ∧
     (s.lcs.fuse ≠ 5 → (∀ i, q ≠ .keyExchange i) → (∀ i, q ≠ .endSession i) →
       ∃ what l, exec (.spdmRequest n q) s = .next (drivePins (say s what l)) ∧ (q = .version → what = "SPDM VERSION" ∧ l = [0x13, 0x12])) ∧
     (∀ (slot : Fin 8) (j : Nat), s.lcs.fuse ≠ 5 → (slot.val = 0 ∨ (slot.val = 1 ∧ (s.lcs.fuse = 2 ∨ s.lcs.fuse = 3))) →
       ((j = 0 ∧ 0 ∉ open_) ∨ (j = 1 ∧ 0 ∈ open_ ∧ 1 ∉ open_)) → exec (.spdmRequest n (.keyExchange slot)) s =
       .next (drivePins (say (sessions (setIns j open_)) "SPDM KEY_EXCHANGE_RSP" [j]))) ∧
     (∀ slot : Fin 8, s.lcs.fuse ≠ 5 → 0 ∈ open_ → 1 ∈ open_ → exec (.spdmRequest n (.keyExchange slot)) s =
       .next (drivePins (say s "SPDM ERROR" []))) ∧
     (∀ i, s.lcs.fuse ≠ 5 → i ∈ open_ → exec (.spdmRequest n (.endSession i)) s =
       .next (drivePins (say (sessions (open_.filter (fun j => j ≠ i))) "SPDM END_SESSION_ACK" [i]))))

namespace Sys2Proof.Spec

/-- HSE.CMD takes command `op` of requester r: BUSY, OWNER, OPCODE; the arguments are those written (R544, R545, R548). -/
def accepted (s : State) (r : Req) (op : Nat) : State :=
  let u := regPut s hseCmd (setBits (setBits (setBits (regAt s hseCmd) 27 27 1) 26 23 r.code.val) 7 0 op)
  { u with house := { u.house with cmd := some (op, r), began := true, status := 0, args := [regAt s (hsePg + 0x104), regAt s (hsePg + 0x108), regAt s (hsePg + 0x10C), regAt s (hsePg + 0x110)] } }

/-- The running command ends with STATUS `st`: BUSY and OPCODE clear, EVT_STAT.CMD_DONE (R545, R546, R548). -/
def ended (s : State) (st : Nat) : State :=
  setEvt ({ fldPut (fldPut (fldPut s hseCmd 31 28 st) hseCmd 27 27 0) hseCmd 7 0 0 with house := { s.house with cmd := none, began := false } }) hsePg 8

end Sys2Proof.Spec

/-- Each of the eight House commands, written by a trusted requester while House firmware is READY and idle, starts: SHOWDOWN, SHOWDOWN_READ,
FW_VERIFY and CRP_VERIFY wait for their work; FW_BEGIN erases its area; FW_WRITE marks its KiB as incomplete; CRP_WRITE asks for its
batch; ACTIVATE restarts the cores on a slot that verifies, and ends with the first failing check otherwise (R544 to R551). Of each of
these commands it says that exec answers a next state: showdown, showdownRead, fwBegin, fwWrite, fwVerify, activate, crpWrite, crpVerify.
The model's choices in it: log entries 50 and 51. -/
def Obligations.HouseCommandsStart : Prop :=
  ∀ (s : State) (r : Req), trusted s r = true → flagAt s hseCmd 27 = false → houseState s = 2 →
    let a (i : Nat) : Nat := (regAt s (hsePg + 0x104 + 4 * i)).toNat
    let idle (slot : Nat) : Prop := slot ≠ fldAt s hseStat 27 27
    let u (op : Nat) : State := accepted s r op
    (a 0 % 64 = 0 → (6 ≤ r.code.val → a 0 = 0 ∧ a 1 = 0) → exec (.showdown r) s = .next (drivePins (u 0x01))) ∧
    (a 0 % 1024 = 0 → exec (.showdownRead r) s = .next (drivePins (u 0x02))) ∧
    (a 0 ≤ 1 → a 1 ≤ 1 → idle (a 0) → exec (.fwBegin r) s = .next (drivePins
      (let v : State := { u 0x10 with house := { (u 0x10).house with area := some (a 0, a 1) } }
       tornAdd (flashErase v (a 0) (a 1 * 0x800000) 0x800000) (tornKey (a 0) (a 1) (2 ^ 23 - 1))))) ∧
    (∀ slot lane, s.house.area = some (slot, lane) → a 0 % 1024 = 0 → a 0 < 0x800000 → idle slot →
      exec (.fwWrite r) s = .next (drivePins (tornAdd (u 0x11) (tornKey slot lane (a 0))))) ∧
    (a 0 ≤ 1 → exec (.fwVerify r) s = .next (drivePins (u 0x12))) ∧
    (a 0 ≤ 1 → idle (a 0) → activateBusy (u 0x13) = false → exec (.activate r) s = .next (drivePins
      (let v := verifyStatus s (a 0)
       if v ≠ 0 then ended (u 0x13) v
       else
         let w := svnSeen (svnSeen (u 0x13) 1 (flashRead s (a 0) 0 0x800)) 2 (flashRead s (a 0) 0x800000 0x800)
         releaseClaims (fldPut { w with house := { w.house with act := some (a 0), prev := some (fldAt s hseStat 27 27) } } hseStat 31 28 3) 6))) ∧
    (a 0 ≤ 15 → a 1 % 1024 = 0 → a 1 < 0x4000 → s.lcs.fuse ≠ 5 → s.crp.load = none → exec (.crpWrite r) s = .next (drivePins
      (askBatch (u 0x14) { who := .crp, addr := 0x410000 + a 0 * 0x4000 + a 1, data := bufGet s (hsePg + 0x400) 256, rec_ := none }))) ∧
    (a 0 ≤ 15 → exec (.crpVerify r) s = .next (drivePins (u 0x15)))

/-- CMD_DONE ends the running command with its results: SHOWDOWN_READ fills HSE.BUF from the last record or ends NO_RECORD; FW_BEGIN, FW_WRITE
and FW_VERIFY end FLASH when the device reports an error, and otherwise OK with the area complete, the KiB programmed, or the versions in
RSP0; SHOWDOWN keeps its record with the next SEQ; a command of the Croupier slot ends with what its batch or check found (R547 to R550,
R554, R557). HOUSE_READY makes RESTARTING firmware READY, on a new slot with its versions, ACTIVATED and a FIRMWARE record where an
activation ran; ACTIVATE_ROLLBACK restarts the previous slot; HSE_KICK from House firmware restarts the watchdog's count, from anyone
else, or while HSE_WDOG is injected, it does not; HSE_WDOG_EXPIRE after four hands without a kick, outside Deep sleep, restarts the cores,
counts and reports, and the fourth in 64 rubbers ends in ROM_ONLY; nothing folds (R427, R543, R551, R552, R553). Of each of these commands
it says that exec answers a next state: cmdDone, houseReady, activateRollback, hseKick, hseWdogExpire. The model's choices in it: log
entries 50, 51, 53 and 131. -/
def Obligations.HouseCommandsAndRestartsEnd : Prop :=
  (∀ (s : State) (op : Nat) (r : Req), s.house.cmd = some (op, r) → s.house.began = true →
     let a (i : Nat) : Nat := (s.house.args.getD i 0).toNat
     (op = 0x01 → a 0 = 0 → a 1 = 0 → exec (.cmdDone false) s = .next (drivePins
       (let (d, u) := showdown s (s.house.seq + 1) 0
        ended (regPut (regPut { u with house := { u.house with record := some d, seq := s.house.seq + 1 } } (hsePg + 0x114) (BitVec.ofNat 32 d.length))
          (hsePg + 0x118) (BitVec.ofNat 32 (s.house.seq + 1))) 0))) ∧
     (∀ d, op = 0x02 → s.house.record = some d → exec (.cmdDone false) s = .next (drivePins
       (ended (hseBufPut s ((d.drop (a 0)).take 1024)) 0))) ∧
     (op = 0x02 → s.house.record = none → exec (.cmdDone false) s = .next (drivePins (ended s 0xD))) ∧
     ((op = 0x10 ∨ op = 0x12 ∨ (op = 0x11 ∧ s.boot.shed = false ∧ s.house.area ≠ none)) →
       exec (.cmdDone true) s = .next (drivePins (ended s 0xC))) ∧
     (op = 0x10 → exec (.cmdDone false) s = .next (drivePins
       (ended { s with store := { s.store with torn := s.store.torn.filter (fun k => k / 2 ^ 23 != a 0 * 2 + a 1) } } 0))) ∧
     (∀ slot lane, op = 0x11 → s.house.area = some (slot, lane) → s.boot.shed = false → exec (.cmdDone false) s = .next (drivePins
       (let u := flashWrite s slot (lane * 0x800000 + a 0) (bufGet s (hsePg + 0x400) 256)
        ended { u with store := { u.store with torn := setDel (tornKey slot lane (a 0)) u.store.torn } } 0))) ∧
     (op = 0x12 → exec (.cmdDone false) s = .next (drivePins
       (if verifyStatus s (a 0) = 0 then ended (regPut s (hsePg + 0x114) (versionWord s (a 0))) 0 else ended s (verifyStatus s (a 0))))) ∧
     (op = 0x13 → houseState s = 2 → s.house.act = none → exec (.cmdDone false) s = .next (drivePins
       (ended (regPut s (hsePg + 0x114) (versionWord s (fldAt s hseStat 27 27))) 0))) ∧
     (op = 0x14 → s.store.wait = [] → s.store.busy = none → exec (.cmdDone false) s = .next (drivePins (ended s s.house.status))) ∧
     (op = 0x15 → exec (.cmdDone false) s = .next (drivePins
       (match slotCheck s (a 0) with
        | .ok ws => ended (regPut (regPut s (hsePg + 0x118) (BitVec.ofNat 32 (wordField (ws.getD 0 0) 11 8))) (hsePg + 0x114)
            (BitVec.ofNat 32 (wordField (ws.getD 5 0) 15 0 * 65536 + ws.length))) 0
        | .svn => ended s 7
        | .empty | .badSig | .badHeader | .badCode => ended s 5)))) ∧
  (∀ (s : State) (r : Req),
     let kicked (s : State) : State := { s with house := { s.house with kick := 0 } }
     (houseState s = 3 → s.house.act = none → s.house.cmd = none → exec .houseReady s = .next (drivePins (kicked (fldPut s hseStat 31 28 2)))) ∧
     (∀ slot prev, houseState s = 3 → s.house.act = some slot → s.house.prev = some prev → s.house.cmd = none → exec .houseReady s = .next (drivePins
       (let u := setEvt (takeSlot (fldPut s hseStat 31 28 2) slot) hsePg 9
        kicked (firmRec u 1 slot (fldAt s hseStat 23 8) (fldAt u hseStat 23 8))))) ∧
     (∀ slot prev, s.house.act = some slot → s.house.prev = some prev → s.house.cmd = none → exec .activateRollback s = .next (drivePins
       (let u := fldPut s hseStat 31 28 3
        firmRec (releaseClaims (setEvt { u with house := { u.house with act := some prev, prev := none, hist := [] } } hsePg 10) 6) 2 prev
          (verNum (imageVer s slot 0)) (verNum (imageVer s prev 0))))) ∧
     (r.code.val = 7 → s.safe.kickOff ≤ s.time.toNat → exec (.hseKick r) s = .next (drivePins (kicked s))) ∧
     (r.code.val ≠ 7 → exec (.hseKick r) s = .next (drivePins s)) ∧
     (r.code.val = 7 → s.time.toNat < s.safe.kickOff → exec (.hseKick r) s = .next (drivePins s)) ∧
     (4 ≤ s.house.kick → houseState s = 2 → s.pwr.state ≠ 3 → s.house.cmd = none → s.house.prev = none → exec .hseWdogExpire s = .next (drivePins
       (let u := setEvt (bump (faultLog s 0x15 15 0 (byIgnoring s s.safe.kickOff)) (safPg + 0x40C)) safPg 10
        let v := fldPut u hseStat 7 0 (min 255 (fldAt u hseStat 7 0 + 1))
        let hist := v.house.hist.filter (fun t => decide (s.time.toNat < t + 64 * 64 * 163840)) ++ [s.time.toNat]
        let w : State := { v with house := { v.house with hist := hist, kick := 0 } }
        if 4 ≤ hist.length then romOnly w else releaseClaims (fldPut w hseStat 31 28 3) 6))))

namespace Sys2Proof.Spec

/-- The command carries deck d's token and comes from its owner (R86, R90). -/
def Owner (s : State) (d : Fin 7) (r : Req) (tok : BitVec 12) : Prop :=
  deckMay s d.val r = true ∧ deckOwns s d.val r = true ∧ tok.toNat = deckToken s d.val ∧ deckBusy s d.val = false

end Sys2Proof.Spec

/-- OPEN of an IDLE deck by a requester that may own it opens a session with the next token; CUT_AT of a COMMITTED deck arms it for a legal
hand or reports why not; ABANDON, FORCE_ABANDON and the idle timeout end the session with 0x105; DECK_IND_WRITE stages its word and
returns the deck to OPEN (R88 to R91, R94, R95, R101, R102). Of each of these commands it says that exec answers a next state: deckOpen,
deckCutAt, deckAbandon, deckForceAbandon, deckIdleTimeout, deckIndWrite. The model's choice in it: log entry 13. -/
def Obligations.DeckSessionCommandsComplete : Prop :=
  ∀ (s : State) (r : Req) (d : Fin 7) (tok : BitVec 12) (v : Word),
    let stat := deckReg d.val 0x1A4
    let abandoned (op : Nat) : State := deckReport (deckClear s d.val) d.val op 2 1 91 0x105 (deckReg d.val 0x1A0)
    (deckMay s d.val r = true → deckState s d.val = 0 → deckBusy s d.val = false → exec (.deckOpen r d) s = .next (drivePins
      (let t := if s.tokenCtr % 4096 = 4095 then 1 else s.tokenCtr % 4096 + 1
       let u : State := { s with tokenCtr := t, decks := tabPut Deck.idle s.decks d.val { Deck.idle with ownerFn := r.fn.val } }
       deckReport (fldPut (fldPut (fldPut (fldPut u stat 6 4 1) stat 31 20 t) stat 19 16 r.code.val) stat 1 1 0) d.val 1 1 0 0 0 0))) ∧
    (Owner s d r tok → deckState s d.val = 3 → exec (.deckCutAt r d tok) s = .next (drivePins
      (match cutTarget s d.val with
       | .inl t => deckReport (fldPut { s with decks := tabPut Deck.idle s.decks d.val { deckOf s d.val with target := t } } stat 6 4 4) d.val 4 1 0 0 0 0
       | .inr (rule, code, at_) => deckReport s d.val 4 2 1 rule code at_))) ∧
    (Owner s d r tok → deckState s d.val ≠ 0 → pastDisarm s d.val = false → exec (.deckAbandon r d tok) s = .next (drivePins (abandoned 5))) ∧
    ((r.code.val = 6 ∨ r.code.val = 7) → deckBusy s d.val = false → deckState s d.val ≠ 0 → pastDisarm s d.val = false →
      exec (.deckForceAbandon r d tok) s = .next (drivePins (abandoned 6))) ∧
    ((1 ≤ deckState s d.val ∧ deckState s d.val ≤ 3) → exec (.deckIdleTimeout d) s = .next (drivePins (abandoned 0))) ∧
    (∀ off, off = 4 * fldAt s (deckReg d.val 0x1C0) 26 2 → deckOwns s d.val r = true → (1 ≤ deckState s d.val ∧ deckState s d.val ≤ 3) →
      stgMask off ≠ 0 → scopeOf s off = d.val → exec (.deckIndWrite r d v) s = .next (drivePins
        (fldPut { s with
          parShadow := s.parShadow.filter (· != off),
          decks := tabPut Deck.idle s.decks d.val { deckOf s d.val with
            shadow := tabIns (deckOf s d.val).shadow off ((prospective s d.val off &&& ~~~stgMask off) ||| (v &&& stgMask off)),
            touched := deckBusy s d.val } } stat 6 4 1)))

/-- CHECK, COMMIT_CRC and SAVE begin with BUSY and OP set. CHECK ends CHECKED with CHECK_GEN when no rule is broken, and in OPEN with the
violation otherwise; COMMIT_CRC ends COMMITTED only when GEN is CHECK_GEN and the CRC of R80 over the configuration equals the latched
reference; a staged write meanwhile sends either back to OPEN with 0x103 (R88, R93, R97, R98, R100, R106). Of each of these commands it
says that exec answers a next state: deckCheck, deckCommitCrc, checkDone, commitDone, deckSave. The model's choices in it: log entries 33,
56, 57, 106 and 107. -/
def Obligations.DeckChecksComplete : Prop :=
  ∀ (s : State) (r : Req) (d : Fin 7) (tok : BitVec 12),
    let stat := deckReg d.val 0x1A4
    let op := deckReg d.val 0x1A0
    let gen := deckReg d.val 0x1BC
    let busy (u : State) (d : Nat) (k : Nat) : State := fldPut (fldPut u (deckReg d 0x1A4) 0 0 1) (deckReg d 0x1A0) 3 0 k
    let free (u : State) : State := fldPut (fldPut u stat 0 0 0) op 3 0 0
    let set (x : Deck) : State := { s with decks := tabPut Deck.idle s.decks d.val x }
    let x := deckOf s d.val
    let back (u : State) (k viol rule code at_ : Nat) : State := deckReport (fldPut u stat 6 4 1) d.val k 2 viol rule code at_
    (Owner s d r tok → deckState s d.val = 1 → houseRuns s = true → exec (.deckCheck r d tok) s = .next (drivePins
      (busy (set { x with touched := false, verdict := none }) d.val 2))) ∧
    (Owner s d r tok → deckState s d.val = 2 → houseRuns s = true → exec (.deckCommitCrc r d tok) s = .next (drivePins
      (busy (set { x with touched := false, ref := regAt s (deckReg d.val 0x1A8), ident := regAt s (deckReg d.val 0x1B0) }) d.val 3))) ∧
    (∀ n rule code at_, deckBusy s d.val = true → fldAt s op 3 0 = 2 → houseState s = 2 → x.verdict = some (n, rule, code, at_) →
      exec (.checkDone d) s = .next (drivePins
        (let u := free (set { x with verdict := none, touched := false })
         if x.touched then back u 2 0 97 0x103 op
         else match badShadow u d.val with
           | some o => back u 2 1 78 0x701 o
           | none => if n = 0 then deckReport (fldPut (fldPut u stat 6 4 2) gen 31 16 x.seenGen) d.val 2 1 0 0 0 0 else back u 2 n rule code at_))) ∧
    (deckBusy s d.val = true → fldAt s op 3 0 = 3 → houseState s = 2 → exec (.commitDone d) s = .next (drivePins
      (let u := free (set { x with touched := false })
       if x.touched then back u 3 0 97 0x103 op
       else if s.gen ≠ fldAt u gen 31 16 then back u 3 1 100 0x503 gen
       else if configCrc (prospective s d.val) ≠ x.ref then back u 3 1 100 0x601 (deckReg d.val 0x1A8)
       else deckReport (fldPut u stat 6 4 3) d.val 3 1 0 0 0 0))) ∧
    (deckMay s 0 r = true → deckBusy s 0 = false → deckState s 0 = 0 → (∀ e < 7, deckState s e ≠ 4) → houseRuns s = true →
      s.boot.shed = false → s.store.ready = true → exec (.deckSave r 0 tok) s = .next (drivePins
        (let u := busy s 0 7
         let c := (saveTarget u).1
         let seq := ((saveTarget u).2 + 1) % 2 ^ 32
         saveNext { u with store := { u.store with
           save := some (c, cutBatches (copyAddr c) 17 (copyImage u seq false) ++ [(copyAddr c, (copyImage u seq true).take 64)]) } })))

/-- A deck command is refused in the order of R636, and a refusal of class 0x1 changes only the report registers: WRONG_STATE while BUSY, then
NOT_PERMITTED, DECK_BUSY for OPEN of an open deck, WRONG_STATE without a session, BAD_TOKEN (R92, R636, R637). -/
def Obligations.DeckRefusalsChangeOnlyTheReport : Prop :=
  ∀ (s : State) (r : Req) (d : Fin 7) (tok : BitVec 12),
    let refused (op code : Nat) : State := deckReport s d.val op 2 1 636 code (deckReg d.val 0x1A0)
    (deckBusy s d.val = true → exec (.deckOpen r d) s = .next (drivePins (refused 1 0x103)) ∧
      exec (.deckCheck r d tok) s = .next (drivePins (refused 2 0x103)) ∧ exec (.deckAbandon r d tok) s = .next (drivePins (refused 5 0x103))) ∧
    (deckBusy s d.val = false → deckMay s d.val r = false → exec (.deckOpen r d) s = .next (drivePins (refused 1 0x104)) ∧
      exec (.deckCutAt r d tok) s = .next (drivePins (refused 4 0x104))) ∧
    (deckBusy s d.val = false → deckMay s d.val r = true → deckState s d.val ≠ 0 → exec (.deckOpen r d) s = .next (drivePins (refused 1 0x101))) ∧
    (deckBusy s d.val = false → deckMay s d.val r = true → deckState s d.val = 0 → exec (.deckCommitCrc r d tok) s = .next (drivePins (refused 3 0x103)) ∧
      exec (.deckCutAt r d tok) s = .next (drivePins (refused 4 0x103))) ∧
    (deckBusy s d.val = false → deckMay s d.val r = true → deckState s d.val ≠ 0 → (tok.toNat ≠ deckToken s d.val ∨ deckOwns s d.val r = false) →
      exec (.deckCheck r d tok) s = .next (drivePins (refused 2 0x102)) ∧ exec (.deckAbandon r d tok) s = .next (drivePins (refused 5 0x102)))

namespace Sys2Proof.Spec

/-- Requester r's access to the register at Table offset `off` is granted and leads to that register, which is none of those with an effect
of their own (R57, R58, R60, R92, R94, R187, R188, R409). -/
def Plain (s : State) (r : Req) (off : Nat) : Prop :=
  mayAccess s r = true ∧ (target s r off).1 = .reg off ∧ openTo s r off = true ∧ claimReg off = none ∧
  off % 0x1000 ≠ 0x018 ∧ off % 0x1000 ≠ 0x02C ∧ (deckOfPage (off / 0x1000) = none ∨ (off % 0x1000 ≠ 0x1A0 ∧ off % 0x1000 ≠ 0x1C4)) ∧
  (∀ v, tableCmd s r off v (off % 0x1000) = none ∧ portCmd s r off v (off % 0x1000) = none) ∧
  off ∉ [xltPg + 0x110, msxPg + 0x110, dlrPg + 0x1E0, safPg + 0x1E0, pwrPg + 0x100, lcsPg + 0x104]

/-- Bits of the register at `off` with one of the access codes. -/
def bitsOf (off : Nat) (cs : List Acc) : Word := accMask ((regFlds off).getD []) cs

end Sys2Proof.Spec

/-- REGISTER_WRITE of a whole aligned word to a plain register ends with its answer and with the fields written by their access codes;
STAGED_WRITE to a register of STG fields, by the owner of the deck of its scope, changes the deck's shadow and its state to OPEN and no
live value; PAGE_LOCK sets LOCK; EVENT_SET sets the page's events (R8, R55, R57, R60, R75). Of each of these commands it says that exec
answers a next state: registerWrite, stagedWrite, pageLock, eventSet. The model's choices in it: log entries 9 and 10. -/
def Obligations.RegisterWritesComplete : Prop :=
  ∀ (s : State) (r : Req) (off : BitVec 27) (page : Fin 32768) (v : Word),
    let o := off.toNat
    let answer (s : State) : State := if r.code.val < 6 then s else emit s (.answer r.code.val false false [])
    let d := scopeOf s o
    let stat := deckReg d 0x1A4
    (Plain s r o → o % 4 = 0 → exec (.registerWrite r off ((wordBytes v).map some)) s =
      .next (drivePins (answer (plainWrite s r o 0xFFFFFFFF#32 v (o % 0x1000))))) ∧
    (Plain s r o → o % 4 = 0 → bitsOf o [.rw, .rws, .rwl, .w1c, .w1s] = 0 → bitsOf o [.stg] ≠ 0 →
      (1 ≤ deckState s d ∧ deckState s d ≤ 3) → deckOwns s d r = true → exec (.stagedWrite r off ((wordBytes v).map some)) s =
        .next (drivePins (answer (fldPut { s with
          parShadow := s.parShadow.filter (· != o),
          decks := tabPut Deck.idle s.decks d { deckOf s d with
            shadow := tabIns (deckOf s d).shadow o ((prospective s d o &&& ~~~bitsOf o [.stg]) ||| (v &&& bitsOf o [.stg])),
            touched := deckBusy s d } } stat 6 4 1)))) ∧
    (Plain s r (page.val * 0x1000 + 0x008) → exec (.pageLock r page) s =
      .next (drivePins (answer (plainWrite s r (page.val * 0x1000 + 0x008) 0xFFFFFFFF#32 1#32 0x008)))) ∧
    (mayAccess s r = true → (target s r (page.val * 0x1000 + 0x018)).1 = .reg (page.val * 0x1000 + 0x018) → openTo s r (page.val * 0x1000 + 0x018) = true →
      exec (.eventSet r page v) s = .next (drivePins (answer ((List.range 32).foldl (fun s i =>
        if v.getLsbD i && (bitsOf (page.val * 0x1000 + 0x010) [.w1c]).getLsbD i then setEvt s (page.val * 0x1000) i else s) s))))

/-- What a write of bits `m` to those of `v` does to a register: RW and RWS bits, and RWL bits while the page is not locked, take the written
value; a 1 written to a W1C bit clears it unless hardware set it in this trick; RO, RV and reserved bits stay; no other register changes
but a log that a cleared bit releases (R7, R8, R9, R55, R59). -/
def Obligations.PlainWriteFollowsAccessCodes : Prop :=
  ∀ (s : State) (r : Req) (off first : Nat) (m v : Word),
    let locked := flagAt s (off / 0x1000 * 0x1000 + 0x008) 0
    let t := plainWrite s r off m v first
    (bitsOf off [.w1c, .w1s, .stg] = 0 → bitsOf off [.rwl] = 0 ∨ locked = false →
      regAt t off = (regAt s off &&& ~~~(m &&& bitsOf off [.rw, .rws, .rwl])) ||| (v &&& (m &&& bitsOf off [.rw, .rws, .rwl])) ∧
      (∀ p, p ≠ off → regAt t p = regAt s p) ∧ { t with regs := s.regs, parLive := s.parLive } = s) ∧
    (bitsOf off [.rw, .rws, .rwl, .w1s, .stg] = 0 →
      regAt t off = regAt s off &&& ~~~(m &&& v &&& bitsOf off [.w1c] &&& ~~~ tabGet 0 s.hwSet off) ∧
      (∀ p, p ≠ off → (∀ i, p ∉ releasedLogs off i) → ¬ (off = safPg + 0x100 ∧ (p = safPg + 0x104 ∨ p = safPg + 0x108)) → regAt t p = regAt s p) ∧
      { t with regs := s.regs } = s)

/-- Two writes to one W1C or W1S register, whoever makes them, are both applied, and a bit that hardware set in this trick stays set under a
W1C write of 1 (R9). -/
def Obligations.WritesOfOneTrickCombine : Prop :=
  ∀ (s : State) (r q : Req) (off first : Nat) (m v m' v' k : Word),
    let both := (m &&& v) ||| (m' &&& v')
    let twice := plainWrite (plainWrite s r off m v first) q off m' v' first
    (bitsOf off [.rw, .rws, .rwl, .w1s, .stg] = 0 →
      regAt twice off = regAt s off &&& ~~~(both &&& bitsOf off [.w1c] &&& ~~~ tabGet 0 s.hwSet off) ∧
      regAt (plainWrite (hwSetBits s off k) r off m v first) off &&& k = k) ∧
    (bitsOf off [.rw, .rws, .rwl, .w1c, .stg] = 0 → regAt twice off = regAt s off ||| (both &&& bitsOf off [.w1s]))

/-- MBOX_SNAP of an idle mailbox captures the wide value that the selector names, or, for a book, waits for the end of the trick, which
TRICK_BOUNDARY captures it at; it clears VALID and BADSEL, advances SEQ and names the requester as OWNER; MBOX_VALID, once the value is
captured, shows the captured words, sets VALID, and BADSEL where the selector named nothing (R58, R68, R69, R70, R177, R277). Of each of
these commands it says that exec answers a next state: mboxSnap, mboxValid. The model's choice in it: log entry 48. -/
def Obligations.MailboxCommandsComplete : Prop :=
  ∀ (s : State) (r : Req) (page : Fin 32768),
    let pg := page.val
    let ctl := regAt s (mboxCtl pg)
    let box (s : State) (b : Mbox) : State := { s with mbox := tabPut Mbox.idle s.mbox pg b }
    let word (i : Nat) : Word := (mboxOf s pg).data.getD i 0
    (mayAccess s r = true → (target s r (mboxCtl pg)).1 = .reg (mboxCtl pg) → openTo s r (mboxCtl pg) = true → (mboxOf s pg).seen = true →
      exec (.mboxSnap r page) s = .next (drivePins
        (let sel := fldAt s (pg * 0x1000 + 0x028) 15 0
         let t := box s { mboxOf s pg with due := some sel, seen := false }
         let (v, u) := wideValue t pg sel
         let w := regPut (if trickEndBook pg sel = true then t else box u { data := v.getD [0, 0, 0, 0], bad := v.isNone, seen := false, due := none }) (mboxCtl pg)
           (BitVec.ofNat 32 ((bits ctl 15 8 + 1) % 256 * 256 + r.code.val * 16 + 1))
         if r.code.val < 6 then w else emit w (.answer r.code.val false false [])))) ∧
    (bitOf ctl 0 = true → (mboxOf s pg).due = none → exec (.mboxValid page) s = .next (drivePins
      (let u := regPut (regPut (regPut (regPut s (pg * 0x1000 + 0x030) (word 0)) (pg * 0x1000 + 0x034) (word 1)) (pg * 0x1000 + 0x038) (word 2)) (pg * 0x1000 + 0x03C) (word 3)
       regPut u (mboxCtl pg) (setBit (setBit (setBit (regAt u (mboxCtl pg)) 0 false) 1 true) 2 (mboxOf s pg).bad))))

/-- PARITY_MISMATCH in the live value of a RW, RWL, RWS or STG register is logged, marks the register, and folds the scope of its page;
SHADOW_PARITY_MISMATCH is logged and marks the shadow, and folds nothing (R76, R78, R420). A fold it raises remembers that bit 0 of the
page's ERR_STAT raised it (R422). Of each of these commands it says that exec answers a next state: parityMismatch, shadowParityMismatch.
The model's choices in it: log entries 12 and 67. -/
def Obligations.ParityMismatchesComplete : Prop :=
  ∀ (s : State) (off : BitVec 27),
    let o := off.toNat
    let pg := o / 0x1000 * 0x1000
    let report (s : State) (shadow : Bool) : State :=
      setErrBit (if flagAt s (pg + 0x01C) 0 then s else regPut s (pg + 0x044) (setBits (setBits 0 12 12 shadow.toNat) 11 0 o)) pg 0
    (o % 4 = 0 → bitsOf o [.rw, .rwl, .rws, .stg] ≠ 0 → o ∉ s.parLive → exec (.parityMismatch off) s = .next (drivePins
      (let u := report { s with parLive := setIns o s.parLive } false
       if pageScope u o = 10 then faultTable u 0x04 o false
       else foldCause u (faultPort u (pageScope u o) 0x04 o false) (pageScope u o) 0x04 pg 0))) ∧
    (o % 4 = 0 → bitsOf o [.stg] ≠ 0 → o ∉ s.parShadow → exec (.shadowParityMismatch off) s = .next (drivePins
      (report { s with parShadow := setIns o s.parShadow } true)))

/-- FOLD by a trusted requester folds the port, or the table, with cause COMMAND; CLEAR of a drained port whose cause is gone ends OK and
waits for the trick boundary; FOLD_DRAINED sets DRAINED once nothing is left; the loss of a clock, of a supply and a monitor mismatch set
their error and fold the table with causes CLOCK, SUPPLY and MONITOR (R415, R418, R420, R422 to R425, R438). A port, or the table, that is
folded is unchanged by a fault of a later trick; of two causes of one trick the lower code stands. A cause that idles the lanes idles them
in a table that is folded already (R420, R438). Of each of these commands it says that exec answers a next state: foldCommand,
clearCommand, foldDrained, clockLoss, supplyFault, monitorMismatch. The model's choices in it: log entries 12, 46, 47, 66 and 102. -/
def Obligations.FoldsComplete : Prop :=
  (∀ (s : State) (r : Req) (p : Fin 16) (q : Fin 11),
     let cmd := safPg + 0x120
     (trusted s r = true → p.val < 10 → exec (.foldCommand r p) s = .next (drivePins (foldPort (faultLog (fldPut s cmd 31 28 0) 0x14 p.val 0 false) p.val 0x14))) ∧
     (trusted s r = true → p.val = 10 → exec (.foldCommand r p) s = .next (drivePins (foldTable (faultLog (fldPut s cmd 31 28 0) 0x14 15 0 false) 0x14))) ∧
     (trusted s r = true → portFolded s p.val = true → clearStatus s p.val = 0 → exec (.clearCommand r p) s =
       .next (drivePins { fldPut s cmd 31 28 0 with clearing := setIns p.val s.clearing })) ∧
     (trusted s r = true → clearStatus s p.val ≠ 0 → exec (.clearCommand r p) s = .next (drivePins (fldPut s cmd 31 28 (clearStatus s p.val)))) ∧
     (portFolded s q.val = true → flagAt s (foldReg q.val) 30 = false → isDrained s q.val = true → 6 ≤ q.val →
       exec (.foldDrained q) s = .next (drivePins (fldPut s (foldReg q.val) 30 30 1))) ∧
     (portFolded s q.val = true → flagAt s (foldReg q.val) 30 = false → isDrained s q.val = true → q.val < 6 →
       exec (.foldDrained q) s = .next (drivePins (slotDrained (fldPut s (foldReg q.val) 30 30 1) q.val))) ∧
     (exec .clockLoss s = .next (drivePins (foldTable (faultLog (setErrBit s safPg 10) 0x08 15 safPg false) 0x08))) ∧
     (exec .supplyFault s = .next (drivePins (foldTable (faultLog (setErrBit s safPg 11) 0x09 15 safPg false) 0x09))) ∧
     (exec .monitorMismatch s = .next (drivePins (foldTable (faultLog (setErrBit s safPg 9) 0x0D 15 safPg false) 0x0D)))) ∧
  (∀ (s : State) (p cause : Nat), p < 10 → cause < 32 →
     (portFolded s p = true → p ∉ s.foldFresh → foldPort s p cause = s) ∧
     (tableFolded s = true → 10 ∉ s.foldFresh → cause < 0x08 ∨ 0x0B < cause → foldTable s cause = s) ∧
     (tableFolded s = true → 10 ∉ s.foldFresh → foldTable s cause = linksIdle s cause) ∧
     (portFolded s p = true → p ∈ s.foldFresh → fldAt (foldPort s p cause) (foldReg p) 4 0 = min cause (fldAt s (foldReg p) 4 0)))

/-- Each SAF injection, while INJECT_EN is 1, stands in SAF.INJECT and waits with its KIND and TARGET for the next trick boundary, in place of
one that waited (log entry 99); while INJECT_EN is 0 the write is dropped and logged with KIND LOCKED (R437, R439). The injections of the
Dealer, the Talon, the XT and the MSI-X pool arm their fault while INJECT_EN is 1: the next card's seal, the comparison or the tile's
slice of the next trick, a phantom card, the next card's data, an entry's check bits, a pool entry's; KIND reads back until it is applied,
and one replaces another that waits (R241, R271, R274, R413, log entry 99). Of each of these commands it says that exec answers a next
state: injectParity, injectCrc, injectClock, injectSupply, injectTimeBase, injectMonitor, injectQctx, injectHseWdog, injectCrpWdog,
injectSeal, injectLockstep, injectOverrun, injectBook, injectTalonEcc, xltEccInject, msxEccInject. The model's choices in it: log entries
66, 99 and 132. -/
def Obligations.InjectionsComplete : Prop :=
  (∀ (s : State) (r : Req) (shadow : Bool) (target : BitVec 27) (k : Fin 16384),
     let en := flagAt s (safPg + 0x174) 0
     let waits (kind tgt : Nat) (sh : Bool) : State :=
       let w : Word := BitVec.ofNat 32 (kind + 16 * tgt + 2 ^ 31 * (if sh then 1 else 0))
       drivePins (rwPut { s with safe := { s.safe with inj := [(kind, bits w 31 4)] } } (safPg + 0x1E0) w)
     (en = true → exec (.injectParity r shadow target) s = .next (waits 1 target.toNat shadow) ∧ exec (.injectCrc r) s = .next (waits 2 0 false) ∧
       exec (.injectClock r) s = .next (waits 3 0 false) ∧ exec (.injectSupply r) s = .next (waits 4 0 false) ∧
       exec (.injectTimeBase r) s = .next (waits 5 0 false) ∧ exec (.injectMonitor r) s = .next (waits 6 0 false) ∧
       exec (.injectQctx r k) s = .next (waits 7 k.val false) ∧ exec (.injectHseWdog r) s = .next (waits 8 0 false) ∧
       exec (.injectCrpWdog r) s = .next (waits 9 0 false)) ∧
     (en = false →
       let dropped : State := drivePins (logAccess s safPg r 7 true 0x1E0)
       exec (.injectParity r shadow target) s = .next dropped ∧ exec (.injectCrc r) s = .next dropped ∧ exec (.injectClock r) s = .next dropped ∧
       exec (.injectSupply r) s = .next dropped ∧ exec (.injectTimeBase r) s = .next dropped ∧ exec (.injectMonitor r) s = .next dropped ∧
       exec (.injectQctx r k) s = .next dropped ∧ exec (.injectHseWdog r) s = .next dropped ∧ exec (.injectCrpWdog r) s = .next dropped)) ∧
  (∀ (s : State) (r : Req) (p t : Fin 16) (v : Word), flagAt s (safPg + 0x174) 0 = true →
     let dlr (tgt kind : Nat) (x : Dealer) : State := fldPut { fldPut s (dlrPg + 0x1E0) 31 28 tgt with dealer := x } (dlrPg + 0x1E0) 2 0 kind
     let d := s.dealer
     (p.val < 10 → exec (.injectSeal r p) s = .next (drivePins (dlr p.val 1 { d with sealArm := [p.val], lockArm := false, overArm := [] }))) ∧
     (10 ≤ p.val → exec (.injectSeal r p) s = .next (drivePins (fldPut s (dlrPg + 0x1E0) 31 28 p.val))) ∧
     (exec (.injectLockstep r) s = .next (drivePins
       (dlr (fldAt s (dlrPg + 0x1E0) 31 28) 2 { d with sealArm := [], lockArm := true, overArm := [] }))) ∧
     (t.val < 12 → exec (.injectOverrun r t) s = .next (drivePins (dlr t.val 3 { d with sealArm := [], lockArm := false, overArm := [t.val] }))) ∧
     (12 ≤ t.val → exec (.injectOverrun r t) s = .next (drivePins (fldPut s (dlrPg + 0x1E0) 31 28 t.val))) ∧
     (exec (.injectBook r) s = .next (drivePins
       (fldPut { s with talon := { s.talon with bookArm := true, eccArm := false } } (talPg + 0x1E0) 2 0 1))) ∧
     (exec (.injectTalonEcc r) s = .next (drivePins
       (fldPut { s with talon := { s.talon with bookArm := false, eccArm := true } } (talPg + 0x1E0) 2 0 2))) ∧
     (bits v 30 29 = 1 ∨ bits v 30 29 = 2 → exec (.xltEccInject r v) s = .next (drivePins
       { rwPut s (xltPg + 0x110) (v &&& 0xE07FFFFF#32) with
         xlt := { s.xlt with inject := [(entKey (bits v 31 31) (bits v 22 0), if bits v 30 29 = 1 then 1 else 3)] } })) ∧
     (bits v 30 29 = 0 → exec (.xltEccInject r v) s = .next (drivePins
       { rwPut s (xltPg + 0x110) (v &&& 0xE07FFFFF#32) with xlt := { s.xlt with inject := [] } })) ∧
     (exec (.msxEccInject r v) s = .next (drivePins (rwPut s (msxPg + 0x110) (v &&& 0x6003FFFF#32)))))

/-- Slot n of a seat: a card inserted in an empty slot is PRESENT and, under AUTO_PWR, POWERING; PWR_ON powers a PRESENT slot without a fault;
POWER_GOOD makes it POWERED; PWR_OFF of a slot whose link is down leaves it EMPTY; a power fault of a powered slot whose link is down ends
in FAULT, of one without power it only shows; the attention button is an event; a change of presence and the button are wake sources;
REMOVAL_CLEAR ends the fold of a re-inserted, powered, drained seat (R563 to R568). Of each of these commands it says that exec answers a
next state: presenceDebounced, attnButtonPress, pwrOn, pwrOff, powerGood, powerFault, removalClear. The model's choice in it: log entry
54. -/
def Obligations.SlotCommandsComplete : Prop :=
  ∀ (s : State) (r : Req) (n : Fin 6),
    let stat := slotPg n.val + 0x108
    let st := fldAt s stat 31 29
    let evt (s : State) (i : Nat) : State := setEvt s (slotPg n.val) i
    (flagAt s stat 28 = false → st ≠ 4 → ∀ u : State, u = fldPut (evt (fldPut (wake s (7 + n.val)) stat 28 27 3) 8) stat 31 29 1 →
      exec (.presenceDebounced n true) s = .next (drivePins
        (if flagAt u (slotPg n.val + 0x100) 0 = true ∧ pwrFaulted u n.val = false then fldPut (pwrEn u n.val true) stat 31 29 2 else u))) ∧
    (exec (.attnButtonPress n) s = .next (drivePins (evt (wake s (7 + n.val)) 9))) ∧
    (trusted s r = true → st = 1 → flagAt s (slotPg n.val + 0x010) 10 = false → exec (.pwrOn r n) s =
      .next (drivePins (fldPut (fldPut (pwrEn s n.val true) stat 31 29 2) stat 3 0 0))) ∧
    (trusted s r = true → dlUp s n.val = false → ∀ u : State, u = fldPut (pwrEn s n.val false) stat 3 0 0 → fldAt u stat 31 29 ≠ 4 →
      dlUp (fldPut u stat 31 29 0) n.val = false → exec (.pwrOff r n) s = .next (drivePins (fldPut u stat 31 29 0))) ∧
    (st = 2 → flagAt s stat 26 = true → exec (.powerGood n) s = .next (drivePins (evt (fldPut (fldPut s stat 25 25 0) stat 31 29 3) 11))) ∧
    (flagAt s stat 26 = false → exec (.powerFault n) s = .next (drivePins (fldPut s stat 25 25 1))) ∧
    (flagAt s stat 26 = true → ∀ u : State, u = evt (fldPut (pwrEn (fldPut s stat 25 25 1) n.val false) stat 31 29 5) 10 → dlUp u n.val = false →
      exec (.powerFault n) s = .next (drivePins u)) ∧
    (removed s n.val = true → st = 3 → flagAt s stat 25 = false → flagAt s (foldReg n.val) 30 = true → tableFolded s = false →
      exec (.removalClear n) s = .next (drivePins (evt (endFold s n.val) 13)))

/-- Direct accesses to the XT and the return table by a trusted requester: a LOW write is held for the requester and table, a HIGH write
commits the entry whole with the held LOW of the same entry, else with the LOW committed, in force for look-ups from the next boundary; a
LOW read captures the HIGH word, a HIGH read of the same entry returns the captured one; each ends the other's half (R27, R218, R219,
R220). Of each of these commands it says that exec answers a next state: entryLowWrite, entryHighWrite, entryLowRead, entryHighRead. The
model's choices in it: log entries 11 and 96. -/
def Obligations.EntryAccessesComplete : Prop :=
  ∀ (s : State) (r : Req) (tag : Fin 16384) (ret : Bool) (i : Fin 8388608) (v : Word), trusted s r = true →
    i.val < (if ret then 1048576 else 5242880) →
    let t := if ret then 1 else 0
    let key := t * 2 ^ 23 + i.val
    let sl := r.code.val * 2 + t
    let e := entAt s key
    let low := tabDel s.xlt.heldLow sl
    let cap := tabDel s.xlt.capHigh sl
    let wrote (s : State) : State := if r.code.val < 6 then s else emit s (.answer r.code.val false false [])
    let gave (s : State) (w : Word) : State :=
      if r.code.val < 6 then hostCpl s r.code.val r.fn.val tag.val 0 false (wordBytes w) else emit s (.answer r.code.val false false (wordBytes w))
    let xlt (l c : Tab (Nat × Word)) : State := { s with xlt := { s.xlt with heldLow := l, capHigh := c } }
    (exec (.entryLowWrite r ret i v) s = .next (drivePins (wrote (xlt (tabIns low sl (key, v)) cap)))) ∧
    (∀ w, (∀ p ∈ s.xlt.heldLow, p.1 = sl → False) ∨ tabGet (0, 0) s.xlt.heldLow sl = (key, w) →
      exec (.entryHighWrite r ret i v) s = .next (drivePins (wrote (commitEnt (xlt low cap) key
        (v ++ (if s.xlt.heldLow.any (fun p => p.1 == sl) then w else e.setWidth 32)))))) ∧
    (exec (.entryLowRead r tag ret i) s = .next (drivePins (gave (xlt low (tabIns cap sl (key, (e >>> 32).setWidth 32))) (e.setWidth 32)))) ∧
    (∀ w, (∀ p ∈ s.xlt.capHigh, p.1 = sl → False) ∨ tabGet (0, 0) s.xlt.capHigh sl = (key, w) →
      exec (.entryHighRead r tag ret i) s = .next (drivePins (gave (xlt low cap)
        (if s.xlt.capHigh.any (fun p => p.1 == sl) then w else (e >>> 32).setWidth 32))))

/-- A committed entry is read whole, carries a fresh check, and no other entry of either table changes. Lookups see the entry as it stood at
the last boundary until the next one, where the committed entry comes into force (R27, R216, R219, R220, R228). -/
def Obligations.CommittedEntryIsReadWhole : Prop :=
  ∀ (s : State) (key other : Nat) (v : Dword),
    let t := commitEnt s key v
    entAt t key = v ∧ entErrs t key = 0 ∧
    (other ≠ key → entAt t other = entAt s other ∧ entErrs t other = entErrs s other) ∧
    entSeen t key = entSeen s key ∧ (other ≠ key → entSeen t other = entSeen s other) ∧
    entSeen (entForce t) key = (v, 0)

/-- The indirect port of PF n, not BUSY, with INDEX in its seat's budget: READ gives DATA0 and DATA1 and its STATUS, WRITE commits DATA1 and
DATA0 as the entry, SYNC makes the port BUSY until SYNC_DONE finds nothing older left; ECC_WRITEBACK rewrites an entry with one error
(R222, R223, R224, R228). Of each of these commands it says that exec answers a next state: indRead, indWrite, indSync, syncDone,
eccWriteback. The model's choices in it: log entries 11 and 112. -/
def Obligations.IndirectPortCompletes : Prop :=
  ∀ (s : State) (n : Fin 6) (ret : Bool) (i : Fin 8388608),
    let p := fnPg n.val
    let idx := regAt s (p + 0x200)
    let key := bits idx 31 31 * 2 ^ 23 + bits idx 22 0
    let stat := p + 0x20C
    let done (s : State) (c : Nat) : State := fldPut (fldPut (fldPut s stat 31 28 c) stat 8 8 0) stat 1 0 0
    let e := entAt s key
    let k := (if ret then 1 else 0) * 2 ^ 23 + i.val
    (flagAt s stat 8 = false → inBudget s n.val (bits idx 31 31) (bits idx 22 0) = true →
      (exec (.indRead n) s = .next (drivePins
        (let u := regPut (regPut s (p + 0x204) (e.setWidth 32)) (p + 0x208) ((e >>> 32).setWidth 32)
         if entErrs s key = 1 then done (eccCorrected u) 0 else done u (if entErrs s key = 2 then 2 else 0)))) ∧
      (exec (.indWrite n) s = .next (drivePins (done (commitEnt s key (regAt s (p + 0x208) ++ regAt s (p + 0x204))) 0)))) ∧
    (flagAt s stat 8 = false → exec (.indSync n) s = .next (drivePins
      (let u := fldPut (fldPut s stat 8 8 1) stat 1 0 3
       { u with xlt := { u.xlt with sync := tabIns u.xlt.sync n.val none } }))) ∧
    (∀ l, tabGet none s.xlt.sync n.val = some l → (∀ x ∈ s.xacts, x.stamp ∉ l) → exec (.syncDone n) s = .next (drivePins
      (done { s with xlt := { s.xlt with sync := tabDel s.xlt.sync n.val } } 0))) ∧
    (entErrs s k = 1 → exec (.eccWriteback ret i) s = .next (drivePins { s with xlt := { s.xlt with ecc := tabDel s.xlt.ecc k } }))

/-- The dirty log: LOG_EVICTION of a cached line whose flush is not due counts it and starts its flush; LOG_FLUSH_MERGE writes the merged line
back once its read has data and the PF can master; a flush that fails, or LOG_FLUSH_LOST, takes back what of it still waits, drops the
bits, sets LOST and reports it; the line stays in the cache until its write has been sent, which frees and counts it (R235, R237, R239,
R242). Of each of these commands it says that exec answers a next state: logEviction, logFlushMerge, logFlushLost. The model's choices in
it: log entries 28, 29 and 113. -/
def Obligations.DirtyLogCommandsComplete : Prop :=
  ∀ (s : State) (f : Fin 4096) (l : Fin 67108864) (d : DirtyLine),
    let mine := s.xlt.lines.filter (fun x => x.fn == f.val && x.line == l.val)
    let lost : State :=
      let u := burnXacts s (ofFlush d.ser)
      if u.xlt.lines.any (fun x => x.ser == d.ser) then
        logLost { u with xlt := { u.xlt with lines := u.xlt.lines.filter (fun x => x.ser != d.ser) } } d.fn
      else u
    (s.xlt.lines.find? (fun x => !x.queued && (x.fn == f.val && x.line == l.val)) = some d → exec (.logEviction f l) s = .next (drivePins
      (flushLine { s with xlt := { s.xlt with evicts := s.xlt.evicts + 1, lines := s.xlt.lines.map (fun x => if x.ser = d.ser then { x with queued := true } else x) } }
        { d with queued := true }))) ∧
    (∀ b, mine.find? (fun x => x.reading && x.data.isSome) = some d → d.data = some (some b) → exec (.logFlushMerge f l) s = .next (drivePins
      (if canFlush s f.val = true then mergeLine s d b else lost))) ∧
    ((mergeLine s d []).xlt.lines.map (fun x => x.ser) = s.xlt.lines.map (fun x => x.ser)) ∧
    (∀ x ∈ (lineSent s d.ser).xlt.lines, x.ser ≠ d.ser) ∧
    (mine.find? (fun x => x.queued || x.reading) = some d → exec (.logFlushLost f l) s = .next (drivePins lost))

/-- The event router: a claim by a target's own reader gives the lowest routed PENDING source, which the target then holds, or 0xFFF;
completing it, or 64 rubbers, releases it, and the latter is counted and reported (R408, R409, R410). Of each of these commands it says
that exec answers a next state: eventClaim, claimComplete, claimExpire. -/
def Obligations.RouterCommandsComplete : Prop :=
  ∀ (s : State) (t : Fin 8) (tag : Fin 16384) (i : Fin 4096),
    let r := claimReq t.val
    let gave (s : State) (w : Word) : State :=
      if r.code.val < 6 then hostCpl s r.code.val r.fn.val tag.val 0 false (wordBytes w) else emit s (.answer r.code.val false false (wordBytes w))
    let claims (s : State) (c : Tab (Nat × Nat)) : State := { s with intr := { s.intr with claims := c } }
    (s.intr.srcs.find? (fun j => routed s j t.val) = none → exec (.eventClaim t tag) s = .next (drivePins (gave s 0xFFF#32))) ∧
    (∀ j, s.intr.srcs.find? (fun j => routed s j t.val) = some j → exec (.eventClaim t tag) s = .next (drivePins
      (let u : State := { s with intr := { s.intr with srcs := s.intr.srcs.filter (fun x => !(x == j)), claims := tabIns s.intr.claims j (t.val, s.time.toNat) } }
       gave (alertEdge s u) (setBit (BitVec.ofNat 32 j) 31 (pendingFor u t.val))))) ∧
    (∀ h, (i.val, t.val, h) ∈ s.intr.claims → exec (.claimComplete t i) s = .next (drivePins (claims s (tabDel s.intr.claims i.val)))) ∧
    (∀ h, (i.val, h) ∈ s.intr.claims → exec (.claimExpire i) s = .next (drivePins
      (setEvt (bump (claims s (tabDel s.intr.claims i.val)) (evrPg + 0x400)) evrPg 8)))

/-- The configuration writes that change a function's standing: FLR_INITIATE of a present function asks for the FLR; VF_ENABLE sets or clears
VF Enable and reports the change; BUS_MASTER_ENABLE, MEMORY_SPACE_ENABLE and POWER_STATE_WRITE write their bits, D1 and D2 keep the state;
VF_READY makes an enabled VF ready (R180, R181, R185, R198, R199, R202, R203). Of each of these commands it says that exec answers a next
state: flrInitiate, vfEnableSet, vfEnableClear, vfReady, busMasterEnable, memorySpaceEnable, powerStateWrite. The model's choices in it:
log entries 25 and 128. -/
def Obligations.FunctionConfigurationCompletes : Prop :=
  ∀ (s : State) (f : Fin 4096) (n : Fin 6) (on : Bool) (d : Fin 4),
    let x := fnOf s f.val
    let fns (g : Nat) (y : Fn) : State := { s with fns := tabPut Fn.idle s.fns g y }
    let vfe (b : Bool) : Word := (cfgAt s n.val 0x170 &&& ~~~1#32) ||| (if b then 1#32 else 0#32)
    let present := fnPresent s f.val = true
    (present → x.flr = false → exec (.flrInitiate f) s = .next (drivePins (fns f.val { x with flrReq := true }))) ∧
    (bitOf (cfgAt s n.val 0x170) 0 = false → exec (.vfEnableSet n) s = .next (drivePins (setEvt (cfgPut s n.val 0x170 (vfe true)) (fnPg n.val) 15))) ∧
    (bitOf (cfgAt s n.val 0x170) 0 = true → exec (.vfEnableClear n) s = .next (drivePins
      (let u := setEvt (cfgPut s n.val 0x170 (vfe false)) (fnPg n.val) 15
       fnMod u n.val (fun x => { x with vfClear := true })))) ∧
    (6 ≤ f.val → present → x.flr = false → exec (.vfReady f) s = .next (drivePins (fns f.val { x with ready := true }))) ∧
    (present → exec (.busMasterEnable f on) s = .next (drivePins
      (cfgPut s f.val 0x04 (setBit (cfgAt s f.val 0x04) 2 on)))) ∧
    (exec (.memorySpaceEnable n false on) s = .next (drivePins (cfgPut s n.val 0x04 (setBit (cfgAt s n.val 0x04) 1 on)))) ∧
    (exec (.memorySpaceEnable n true on) s = .next (drivePins (cfgPut s n.val 0x170 (setBit (cfgAt s n.val 0x170) 3 on)))) ∧
    (present → (d.val = 0 ∨ d.val = 3) → exec (.powerStateWrite f d) s = .next (drivePins
      (cfgPut s f.val 0x44 (setBits (cfgAt s f.val 0x44) 1 0 d.val)))) ∧
    (present → (d.val = 1 ∨ d.val = 2) → exec (.powerStateWrite f d) s = .next (drivePins (cfgPut s f.val 0x44 (cfgAt s f.val 0x44))))

/-- An FLR of a VF on a seat that is ready completes, with what FlrEndLeavesResetValues says of its end, once the function holds no card, no
BURN exchange of it is open and no dirty bit waits; while one of these stands it does not complete; at its deadline what is left is
discarded and it completes (R205, R207). What the end of an FLR leaves: no FLR in progress, every configuration dword at its reset value
but for its sticky bits, D0, the recorded bench in force (R205, R206, R207). Of each of these commands it says that exec answers a next
state: flrComplete, flrDeadline. The model's choices in it: log entries 13 and 14. -/
def Obligations.FlrCompletionFollowsItsConditions : Prop :=
  (∀ (s : State) (f : Fin 4096) (n : Nat), 6 ≤ f.val → fnSeat s f.val = some n → flagAt s (linkPg n + 0x110) 1 = true →
     (fnOf s f.val).flr = true →
     let cards := heldBy s f.val = 0
     let burns := ∀ k < 4, ∀ e ∈ (linkTxOf s k).exchs, e.isFold = true ∨ e.fn ≠ f.val
     let clean := ∀ d ∈ s.xlt.lines, d.fn ≠ f.val
     (cards → burns → clean → exec (.flrComplete f) s = .next (drivePins (flrEnd s f.val))) ∧
     (¬ (cards ∧ burns ∧ clean) → exec (.flrComplete f) s = .next (drivePins s)) ∧
     (exec (.flrDeadline f) s = .next (drivePins (flrEnd (flrForce s f.val) f.val)))) ∧
  (∀ (s : State) (f : Nat),
     let t := flrEnd s f
     (fnOf t f).flr = false ∧ (fnOf t f).d3 = false ∧ (fnOf t f).msixOn = false ∧
     (tabRising 0 (fnOf s f).cfg = true → ∀ i, cfgAt t f (4 * i) = (cfgAt s f (4 * i) &&& stickyCfg (4 * i)) ||| (cfgReset (4 * i) &&& ~~~stickyCfg (4 * i))) ∧
     (fnOf t f).bench = ((fnOf s f).bench || (fnOf s f).benchPend) ∧
     flagAt t (fnPg f + 0x010) 9 = true ∧ (∀ g, g ≠ f → fnOf t g = fnOf s g))

namespace Sys2Proof.Spec

/-- Queue pair k becomes `q`; no other queue pair changes. -/
def withQueue (s : State) (k : Nat) (q : Queue) : State := { s with queues := tabPut Queue.idle s.queues k q }

/-- Descriptor `r` of queue pair k becomes `g r`. -/
def withRun (s : State) (k i : Nat) (g : Run → Run) : State :=
  withQueue s k { queueOf s k with running := (queueOf s k).running.map (fun r => if r.desc.idx = i then g r else r) }

end Sys2Proof.Spec

/-- A doorbell word of a queue of an assigned function whose seat is not folded is kept for the boundary that ends the trick, the last write
of a word wins; while the seat is folded it is dropped (R280, R281, R284, R416). Of each of these commands it says that exec answers a
next state: sqTailWrite, cqHeadWrite, queueEnable, queueDisable, queueAbort, queueResume. The model's choice in it: log entry 29. -/
def Obligations.DoorbellsComplete : Prop :=
  ∀ (s : State) (f : Fin 4096) (q : Fin 256) (v : Word) (n : Nat), fnSeat s f.val = some n → q.val < queueCount s f.val →
    let k := fldAt s (fnPg f.val + 0x110) 29 16 + q.val
    let x := if (queueOf s k).st = 0 then { queueOf s k with fn := f.val, q := q.val } else queueOf s k
    (folded s n = false →
      exec (.sqTailWrite f q v) s = .next (drivePins (withQueue s k { x with pTail := some (v.toNat % 65536) })) ∧
      exec (.cqHeadWrite f q v) s = .next (drivePins (withQueue s k { x with pHead := some (v.toNat % 65536) })) ∧
      exec (.queueEnable f q) s = .next (drivePins (withQueue s k { x with pCmd := some 1 })) ∧
      exec (.queueDisable f q) s = .next (drivePins (withQueue s k { x with pCmd := some 2 })) ∧
      exec (.queueAbort f q) s = .next (drivePins (withQueue s k { x with pCmd := some 3 })) ∧
      exec (.queueResume f q) s = .next (drivePins (withQueue s k { x with pCmd := some 4 }))) ∧
    (folded s n = true →
      exec (.sqTailWrite f q v) s = .next (drivePins s) ∧ exec (.cqHeadWrite f q v) s = .next (drivePins s) ∧ exec (.queueEnable f q) s = .next (drivePins s) ∧
      exec (.queueDisable f q) s = .next (drivePins s) ∧ exec (.queueAbort f q) s = .next (drivePins s) ∧ exec (.queueResume f q) s = .next (drivePins s))

/-- What a command sampled at a boundary does in each queue state: a command with no action in the state, or while another is in progress,
only reports LAST_ERR BAD_CMD and counts; DISABLE of an ACTIVE queue drains it; RESUME of a HALTED one makes it ACTIVE (R284). -/
def Obligations.SampledQueueCommandFollowsTheState : Prop :=
  ∀ (s : State) (k op : Nat),
    let q := queueOf s k
    ((q.op ≠ 0 ∨ ¬ ((op = 1 ∧ q.st = 0) ∨ ((op = 2 ∨ op = 3) ∧ (q.st = 2 ∨ q.st = 4)) ∨ (op = 4 ∧ q.st = 4))) →
      qSampleCmd s k op = bump (withQueue s k { q with lastErr := 0x13 }) (dmaPg + 0x418)) ∧
    (q.op = 0 → q.st = 2 → (fnOf s q.fn).master = true →
      (queueOf (qSampleCmd s k 2) k).st = 3 ∧ (queueOf (qSampleCmd s k 2) k).running = q.running ∧ (queueOf (qSampleCmd s k 2) k).fetched = []) ∧
    (q.op = 0 → q.st = 4 → (fnOf s q.fn).master = true →
      (queueOf (qSampleCmd s k 4) k).st = 2 ∧ (queueOf (qSampleCmd s k 4) k).running = q.running ∧ (queueOf (qSampleCmd s k 4) k).op = 0) ∧
    (q.op = 0 → op = 2 ∨ op = 3 → q.st = 2 → (fnOf s q.fn).master = false → (queueOf (qSampleCmd s k op) k).op = op ∧ (queueOf (qSampleCmd s k op) k).st = 2)

/-- A loaded configuration entry makes its queue ACTIVE with empty rings on the idlest cell, or DISABLED with LAST_ERR BAD_ENTRY when a field
is bad; a DRAINING queue with nothing to report is DISABLED; a fetch asks for the next rung descriptors, and its data becomes fetched
descriptors; of a fetch that failed the first descriptor waits to be reported with FETCH_ERROR after every earlier one (R284, R285, R290,
R308). Of each of these commands it says that exec answers a next state: queueConfigLoaded, queueDrained, descFetch, descFetchDone. The
model's choices in it: log entries 28 and 29. -/
def Obligations.QueueLoadAndFetchComplete : Prop :=
  ∀ (s : State) (k : Fin 16384) (d : List Byte),
    let q := queueOf s k.val
    let x : Queue := { q with entry := d }
    let size (c : Nat) : Bool := decide (6 ≤ c ∧ c ≤ 16)
    let good := size (bits x.ctl 4 0) && size (bits x.ctl 12 8) && decide (x.sqBase % 4096 = 0 ∧ x.cqBase % 4096 = 0) &&
      (!bitOf x.ctl 31 || decide (bits x.ctl 26 16 < vectorCount s q.fn))
    (q.st = 1 → q.loaded = some (some d) → good = true → (bitOf x.ctl 31 = true → deckPending s q.fn q.q (some (bits x.ctl 26 16)) = false) →
      exec (.queueConfigLoaded k) s = .next (drivePins (withQueue s k.val
        { Queue.idle with fn := q.fn, q := q.q, st := 2, entry := d, cell := idlestCell s, pTail := q.pTail, pHead := q.pHead, pCmd := q.pCmd }))) ∧
    (q.st = 1 → q.loaded = some (some d) → good = false → exec (.queueConfigLoaded k) s =
      .next (drivePins (withQueue s k.val { q with st := 0, op := 0, loaded := none, lastErr := 0x10 }))) ∧
    (q.st = 3 → q.running = [] → q.burnt = [] → exec (.queueDrained k) s = .next (drivePins (withQueue s k.val { q with st := 0, op := 0 }))) ∧
    (∀ n, fnSeat s q.fn = some n → q.st = 2 → 0 < (nextFetch q).2 → q.fetching = 0 → q.badFetch = none → (fnOf s q.fn).master = true → folded s n = false →
      q.halting = false → exec (.descFetch k) s = .next (drivePins
        (askRead (withQueue s k.val { q with fetching := (nextFetch q).2 }) q.fn (q.sqBase + 64 * (nextFetch q).1) (64 * (nextFetch q).2) 0 15 1
          (.fetch k.val (nextFetch q).1 (nextFetch q).2)))) ∧
    (∀ i b, q.arrived = some (i, some b) → exec (.descFetchDone k) s = .next (drivePins (withQueue s k.val
      { q with arrived := none, fetching := 0, fetched := q.fetched ++ splitDescs q.sqSize (b.length / 64) i b }))) ∧
    (∀ i, q.arrived = some (i, none) → exec (.descFetchDone k) s = .next (drivePins (withQueue { s with freeCtr := s.freeCtr + 1 } k.val
      { q with arrived := none, fetching := 0,
               badFetch := some { idx := i, status := 0x0D, time := (s.time + 40).toNat, cookie := Config.freeValue s.freeCtr % 2 ^ 64 } })))

/-- A fetch reads at most 512 bytes, stays inside the ring, asks only for rung descriptors and holds at most 16 that have not started (R290). -/
def Obligations.FetchStaysWithinItsLimits : Prop :=
  ∀ (q : Queue), q.fetched.length + q.fetching ≤ 16 → q.taken ≤ q.rung →
    let i := (nextFetch q).1
    let n := (nextFetch q).2
    n ≤ 8 ∧ i < q.sqSize ∧ i + n ≤ q.sqSize ∧ q.fetched.length + q.fetching + n ≤ 16 ∧ q.taken + n ≤ q.rung

/-- DESC_START starts the next fetched descriptor when R291 lets it, after the checks of R289; a NOP and a FENCE complete as they start, a
FENCE with FAIL_ON_ERR after an error with FENCE_ERROR; copies, messages and a LOG_BARRIER start and go on (R289, R291, R293, R295, R296).
Of each of these commands it says that exec answers a next state: descStart, descNop, fence. The model's choice in it: log entry 28. -/
def Obligations.DescriptorStartCompletes : Prop :=
  ∀ (s : State) (k : Fin 16384) (d : Desc), canStart s k.val = some d →
    let q := queueOf s k.val
    let now := s.time.toNat
    let run (status : Nat) (done : Option Nat) : Run :=
      { desc := d, start := now, issued := 0, moved := 0, status := status, reason := 0, mark := s.xlt.lineSer, done := done }
    let started (r : Run) (erred : Bool) : State := withQueue s k.val { q with fetched := q.fetched.drop 1, running := q.running ++ [r], erred := erred }
    let bad := startCheck d
    (bad ≠ 0 → exec (.descStart k) s = .next (drivePins (started (run bad (some now)) q.erred))) ∧
    (bad = 0 → d.op = 0 → exec (.descNop k) s = .next (drivePins (started (run 0 (some now)) q.erred))) ∧
    (bad = 0 → d.op = 4 → exec (.fence k) s = .next (drivePins
      (started (run (if bitOf (BitVec.ofNat 32 (d.num 0 4)) 10 = true ∧ q.erred = true then 0x0B else 0) (some now)) false))) ∧
    (bad = 0 → (d.op = 1 ∨ d.op = 2 ∨ d.op = 3 ∨ d.op = 5) → exec (.descStart k) s = .next (drivePins (started (run 0 none) q.erred)))

/-- The parts of a started copy or message, while its cell has room in the trick for a card in its direction: the next host read of a
COPY_TO_FABRIC, the next Nicen RD of a COPY_FROM_FABRIC and the one card of a MSG_SEND go before the Dealer with their bytes counted;
DESC_COMPLETE when all bytes were issued, or an error ended the descriptor, nothing of it is on its way and its frames are acknowledged,
with the boundary that accounted for the last card; the LOG_BARRIER once every line that was dirty when it started is written or lost, at
the boundary that ends the trick (R238, R288, R292, R293, R296, R308). Of each of these commands it says that exec answers a next state:
copyToFabric, copyFromFabric, msgSend, descComplete, logBarrier. The model's choices in it: log entries 28, 34 and 123. -/
def Obligations.DescriptorTransfersComplete : Prop :=
  ∀ (s : State) (k : Fin 16384) (i : Fin 65536) (r : Run), (queueOf s k.val).running = [r] → r.desc.idx = i.val → r.done = none →
    let q := queueOf s k.val
    let len := r.desc.num 4 4
    let attr := r.desc.num 0 4 / 2048 % 2 + 4 * (r.desc.num 0 4 / 4096 % 2)
    let free := (fnOf s q.fn).master = true ∧ qFolded s q = false ∧ r.stop = none
    let room (dir : Nat) : Prop := tabGet 0 s.cells.load (2 * q.cell + dir) < 20
    let o := r.desc.num 0x18 8 + r.issued
    (free → room 0 → r.desc.op = 1 → r.issued < len → exec (.copyToFabric k i) s = .next (drivePins
      (let a := r.desc.num 0x10 8 + r.issued
       let n := min (piece a (len - r.issued) (mrrs s q.fn)) (4096 - o % 4096)
       askRead (countCards (withRun s k.val i.val (fun r => { r with issued := r.issued + n })) k.val 0 (cardsFor n) n) q.fn a n attr 15 1 (.dma k.val i.val r.issued)))) ∧
    (∀ ep off trump u l, free → room 1 → r.desc.op = 2 → r.issued < len → lookup s q.fn o .read = (.ok ep off trump, u) → linkFor u ep = some l →
      folded u (6 + l) = false → linkActive u l = true → exec (.copyFromFabric k i) s = .next (drivePins
        (let n := min (len - r.issued) (4096 - o % 4096)
         let v := withRun u k.val i.val (fun r => { r with issued := r.issued + n })
         sendNicen (countCards v k.val 1 (cardsFor n) n) l q.fn 1 1 false trump { acct := .owed, kit := 0 }
           { txn0 0x02 1 ((fnSeat v q.fn).getD 7) q.fn 0 with attr := attr, len := lenOf n, last := lastOf n, ep := ep, off := off }
           (some (TagEnt.ask q.fn (.dma k.val i.val r.issued) r.issued n (cardsFor n) 1)) .none))) ∧
    (∀ ep off trump u l, free → room 0 → r.desc.op = 3 → r.issued = 0 → lookup s q.fn (r.desc.num 0x18 8) .write = (.ok ep off trump, u) →
      linkFor u ep = some l → folded u (6 + l) = false → linkActive u l = true → exec (.msgSend k i) s = .next (drivePins
        (let v := withRun u k.val i.val (fun r => { r with issued := r.issued + len })
         sendNicen (countCards v k.val 0 1 len) l q.fn 3 1 true trump { acct := .owed, kit := 0 }
           { txn0 0x08 3 ((fnSeat v q.fn).getD 7) q.fn 0 with attr := attr, len := 1, last := len, ep := ep, off := off, data := (swapBytes (r.desc.num 0 4 / 65536 % 8) ((r.desc.raw.drop 0x20).take 32)).take len } none (.part k.val i.val 0 len false)))) ∧
    ((r.desc.op = 1 ∨ r.desc.op = 2 ∨ r.desc.op = 3) → r.issued = len ∨ r.stop ≠ none → r.frames = [] → runBusy s k.val i.val r.stop = false →
      r.last ≤ s.time.toNat → exec (.descComplete k i) s = .next (drivePins (withRun s k.val i.val (fun r => { r with done := some r.last })))) ∧
    (r.desc.op = 5 → (∀ x ∈ s.xlt.lines, x.fn = q.fn → r.mark ≤ x.ser) → exec (.logBarrier k) s =
      .next (drivePins (withRun s k.val i.val (fun r => { r with done := some (s.time + 40).toNat }))))

/-- COMPLETION_RECORD puts the record of the descriptor next in ring order before the Dealer, as a posted write of Bulk class, when its
function masters and no record of the queue waits; a SUCCESS with NOREC moves the head without one; with no report at the head nothing
happens. The record, as it is dealt, goes to the CQ slot CQ_W with the fields of R297, and dealing it passes the descriptor and turns the
phase as CQ_W wraps. COAL_TIMER_EXPIRE with records waiting for COAL_HANDS hands raises the queue's interrupt and restarts the count.
QCTX_ECC halts the queue with LAST_ERR ECC, drops its work and reports it (R250, R287, R294, R297, R300, R305). Of each of these commands
it says that exec answers a next state: completionRecord, coalTimerExpire, qctxEcc. The model's choices in it: log entries 28, 30, 103 and
145. -/
def Obligations.QueueReportsComplete : Prop :=
  ∀ (s : State) (k : Fin 16384) (n : Nat),
    let q := queueOf s k.val
    let may := (fnOf s q.fn).master = true ∧ fnSeat s q.fn = some n ∧ folded s n = false ∧ (∀ x ∈ s.xacts, x.isRecord k.val = false)
    (∀ r t, q.running.find? (fun r => r.desc.idx == q.sqHead) = some r → r.done = some t →
      let c := BitVec.ofNat 32 (r.desc.num 0 4)
      let bytes := natLe 4 ((if q.phase then 1 else 0) * 2 ^ 31 + r.status * 65536 + r.reason * 4096 + q.q) ++ natLe 4 r.desc.idx ++
        natLe 4 r.moved ++ natLe 4 0 ++ natLe 8 t ++ natLe 8 (r.desc.num 8 8)
      let silent := bitOf c 9 = true ∧ r.desc.op < 4 ∧ r.status = 0
      (folded s n = false → fnSeat s q.fn = some n → (∀ x ∈ s.xacts, x.isRecord k.val = false) → silent → exec (.completionRecord k) s = .next (drivePins (withQueue s k.val
        { q with sqHead := (r.desc.idx + 1) % q.sqSize, reported := q.reported + 1, running := q.running.filter (fun r' => r'.desc.idx != r.desc.idx),
                 burnt := q.burnt.filter (fun b => b.idx != r.desc.idx), badFetch := q.badFetch.filter (fun b => b.idx != r.desc.idx) }))) ∧
      (may → ¬ silent → exec (.completionRecord k) s = .next (drivePins
        (enqueue s { xact0 n q.fn 3 1 (.tlp n { tlp0 .memWr q.fn (q.cqBase + 32 * q.cqW) 32 with attr := hostAttr s q.fn (4 * (r.desc.num 0 4 / 4096 % 2)) }) with
          posted := true, after := .record k.val r.desc.idx }))) ∧
      (∀ x, recordTlp s k.val x = { x with addr := q.cqBase + 32 * q.cqW, data := bytes }) ∧
      (let u := queueOf (recordSent s k.val) k.val
       u.sqHead = (r.desc.idx + 1) % q.sqSize ∧ u.cqW = (q.cqW + 1) % q.cqSize ∧ u.phase = (if u.cqW = 0 then !q.phase else q.phase) ∧
         u.reported = q.reported + 1 ∧ (∀ r' ∈ u.running, r'.desc.idx ≠ r.desc.idx))) ∧
    (may → nextReport q = none → exec (.completionRecord k) s = .next (drivePins s)) ∧
    (∀ h, q.coalHand = some h → q.coalHands ≠ 0 → q.coalHands ≤ (handNo s + 2 ^ 40 - h) % 2 ^ 40 → bitOf q.ctl 31 = true →
        exec (.coalTimerExpire k) s = .next (drivePins
      (let u := withQueue s k.val { q with coal := 0, coalHand := none }
       { u with intr := { u.intr with fired := u.intr.fired ++ [(q.fn, bits q.ctl 26 16)] } }))) ∧
    (exec (.qctxEcc k) s = .next (drivePins
      (let u := burnXacts s (fun x => x.dealt == 0 && (x.isRecord k.val || (match x.run with
         | some (j, _, _) => j == k.val
         | none => false)))
       let v := killFetch (queueMod u k.val (fun q => { q with st := 4, op := 0, lastErr := 0x14, running := [], fetched := [], fetching := 0, arrived := none, badFetch := none, burnt := [], ecc := 0 })) k.val
       raiseErr (setEvt (setEvt (bump v (dmaPg + 0x400)) dmaPg 8) (fnPg q.fn) 11) dmaPg 8)))

/-- What the lane cells report: a lost signal or lock clears its bit and is counted, the loops acquire again, and a Nicen Link learns of it; a
lane that locks again within the hand is usable and its loops track, one that does not FAILS; Lane firmware that stopped is reported and
restarted, or left halted after 8 restarts in a rubber; the ROM baseline keeps the code of the highest SNR, the lower on a tie, the main
tap alone and the DFE value it noted, and fixes them (R114, R118, R125, R132, R133, R134). MARGIN_COMMAND: the answer leaves on the seat
as lane × 65,536 + margin type × 256 + payload. While margining is not ready (MARGIN_DIS, below 16 GT/s, out of L0) the lane says so; a
lane that is not locked, or in electrical idle, answers NAK; a report gives the parameter that R130 lists; an error count limit is stored;
a step within the lane's 32 timing or 64 voltage steps answers with its error count, an open value, and whether it passed the limit; a
step beyond them answers NAK; no setting of the lane moves (R130, R131). The codes are the PCI Express specification's (PRESUMED). Of each
of these commands it says that exec answers a next state: laneSignalLoss, laneLockLoss, laneReacquired, laneReacqTimeout, laneFwStop,
heartbeatResumes, romBaselineSweep, marginCommand. The model's choices in it: log entries 13, 108, 116 and 118. -/
def Obligations.LaneEventsComplete : Prop :=
  (∀ (s : State) (p : Fin 10) (i : Fin 32) (j : Fin 4) (snr : List (Fin 65536)),
     let o := laneStat p.val i.val
     let cnt (a : Nat) : Nat := lanePg p.val + a + 4 * i.val
     let lfw := lanePg p.val + 0x320 + 4 * j.val
     let key := p.val * 4 + j.val
     let limp (s : State) : Bool := fldAt s (lanePg p.val + 0x320 + 4 * (i.val / 8)) 15 12 == 3
     let loops (s : State) (locked : Bool) : State :=
       fldPut s o 23 20 (if limp s = true then (if (laneOf s p.val i.val).swept = true then 5 else 4) else if locked = true then 2 else 1)
     let told (s : State) : State := if p.val < 6 then s else laneLost s (p.val - 6) (wireLane s (p.val - 6) i.val)
     let wd (k : Nat) : Nat := (snr.map (fun x => x.val)).getD k 0
     (i.val < portLanes s p.val → flagAt s o 30 = true → exec (.laneSignalLoss p i) s = .next (drivePins
       (told (bump (loops (fldPut s o 30 30 0) false) (cnt 0x400))))) ∧
     (i.val < portLanes s p.val → flagAt s o 31 = true → exec (.laneLockLoss p i) s = .next (drivePins
       (told (bump (loops (fldPut (laneMod s p.val i.val (fun x => { x with block := false })) o 31 31 0) false) (cnt 0x480))))) ∧
     (i.val < portLanes s p.val → flagAt s o 27 = false → (flagAt s o 31 = false ∨ flagAt s o 30 = false) → exec (.laneReacquired p i) s = .next (drivePins
       (bump (loops (fldPut (laneMod s p.val i.val (fun x => { x with gained := s.time.toNat })) o 31 30 3) true) (cnt 0x500)))) ∧
     (i.val < portLanes s p.val → flagAt s o 31 = false → exec (.laneReacqTimeout p i) s = .next (drivePins (fldPut (fldPut s o 30 30 1) o 27 27 1))) ∧
     (fldAt s lfw 15 12 = 1 → lfwCount s key < 8 → exec (.laneFwStop p j) s = .next (drivePins
       (let u := emit s (.mgmt "LANE_FW_STOP" [p.val, j.val])
        fldPut (fldPut { u with lfw := tabIns s.lfw key (s.time.toNat / (64 * 163840), lfwCount s key + 1) } lfw 15 12 2) lfw 7 0
         (satNat 255 (fldAt s lfw 7 0 + 1))))) ∧
     (fldAt s lfw 15 12 = 1 → 8 ≤ lfwCount s key → exec (.laneFwStop p j) s = .next (drivePins
       (fldPut (emit s (.mgmt "LANE_FW_STOP" [p.val, j.val])) lfw 15 12 4))) ∧
     (fldAt s lfw 15 12 = 2 → exec (.heartbeatResumes p j) s = .next (drivePins (fldPut s lfw 15 12 1))) ∧
     (∀ b < 7, i.val < portLanes s p.val → limp s = true → (∀ c < 7, wd c ≤ wd b) → (∀ c < b, wd c < wd b) →
       exec (.romBaselineSweep p i snr) s = .next (drivePins
         (fldPut (laneMod { s with freeCtr := s.freeCtr + 1 } p.val i.val (fun x => { x with
           ctle := 8 * b, ffe := [0, 0, 0, 64, 0, 0, 0, 0, 0, 0, 0, 0], dfe := Config.freeValue s.freeCtr % 256, swept := true })) o 23 20 5)))) ∧
  (∀ (s : State) (n : Fin 6) (i : Fin 16) (m : MarginCmd) (w : Fin 13) (k : Fin 64) (v : Fin 128) (b : Bool),
     let st := regAt s (laneStat n.val i.val)
     let ready := flagAt s (lanePg n.val + 0x300) 1 = false ∧ 4 ≤ seatRate s n.val ∧ ltssm s n.val = 3
     let able := ready ∧ bitOf st 31 = true ∧ bitOf st 29 = false
     let tells (s : State) (ty pl : Nat) : Host.Outcome State Fault Refusal :=
       .next (drivePins (emit s (.seatSig n.val "MARGIN" (i.val * 65536 + ty * 256 + pl))))
     let step (ty pl : Nat) : Host.Outcome State Fault Refusal :=
       let e := Config.freeValue s.freeCtr % 64
       tells (laneMod { s with freeCtr := s.freeCtr + 1 } n.val i.val (fun x => { x with margin := some (ty, pl) })) ty
         (if (laneOf s n.val i.val).limit < e then e else 128 + e)
     (¬ ready → exec (.marginCommand n ⟨i, m⟩) s = .next (drivePins (emit s (.seatSig n.val "MARGIN_NOT_READY" i.val)))) ∧
     (ready → ¬ able → exec (.marginCommand n ⟨i, m⟩) s = tells s (marginCode m).1 0xC0) ∧
     (able →
       exec (.marginCommand n ⟨i, (.report w)⟩) s = tells s 1 ([1, 1, 1, 1, 1, 64, 32, 50, 25, 63, 63, 15, 63].getD w.val 0) ∧
       exec (.marginCommand n ⟨i, (.errorLimit k)⟩) s = tells (laneMod s n.val i.val (fun x => { x with limit := k.val })) 2 (0xC0 + k.val) ∧
       exec (.marginCommand n ⟨i, .normal⟩) s = tells (laneMod s n.val i.val (fun x => { x with margin := none })) 2 0x0F ∧
       exec (.marginCommand n ⟨i, .clearLog⟩) s = tells (laneMod s n.val i.val (fun x => { x with margin := none })) 2 0x55 ∧
       (k.val ≤ 32 → exec (.marginCommand n ⟨i, (.stepTiming b k)⟩) s = step 3 ((if b then 1 else 0) * 64 + k.val)) ∧
       (32 < k.val → exec (.marginCommand n ⟨i, (.stepTiming b k)⟩) s = tells s 3 0xC0) ∧
       (v.val ≤ 64 → exec (.marginCommand n ⟨i, (.stepVoltage b v)⟩) s = step 4 ((if b then 1 else 0) * 128 + v.val)) ∧
       (64 < v.val → exec (.marginCommand n ⟨i, (.stepVoltage b v)⟩) s = tells s 4 0xC0)))

/-- A present seat that may train goes from Detect to L0 at the rate and width R140 gives, latching its configuration, and its lanes begin
anew; the edge of Sn_PERST_N is a wake source; from Recovery it comes back to L0 at the largest width whose lanes were trained or hold
LOCK again, with an event for a rate or width that changed; Recovery is entered from any state with the data link up, and counted; after a
failed lane the seat forms the largest width whose lanes all hold LOCK (R117, R133, R140, R142, R146, R147, R173, R411). Of each of these
commands it says that exec answers a next state: seatTraining, seatRecovery, seatWidthReform. The model's choices in it: log entries 40,
86, 108, 109 and 117. -/
def Obligations.SeatTrainingCompletes : Prop :=
  ∀ (s : State) (n : Fin 6) (p : SeatPartner),
    let k := n.val
    let free := seatPresent s k = true ∧ portDown s k = false ∧ lanesFolded s = false ∧ removed s k = false ∧ isOff s = false ∧ p.rate ≠ 0
    let width := fitWidth (portLanes s k) p.lanes.val
    (free → width ≠ 0 → dlUp s k = false → exec (.seatTraining n p) s = .next (drivePins
      (let flit := !bitOf (regAt s (linkPg k + 0x100)) 8 && p.flit
       let b := (List.range (portLanes s k)).foldl (fun s i => laneBegin s k i (decide (i < p.lanes.val))) s
       let u := seatMod b k (fun x => { Seat.down with bus := x.bus, tags := x.tags, gen := x.gen, freed := x.freed, ide := x.ide,
                                                       cfg := regAt b (linkPg k + 0x100), fc := regAt b (linkPg k + 0x104),
                                                       bigBar := fldAt s 0x130 26 24 == k || fldAt s 0x130 30 28 == k })
       let v := seatLocked u k (trainRate s k p flit) width p flit true
       setEvt (fldPut (if flagAt v (slotPg k + 0x108) 24 = true then wake v (7 + k) else v) (slotPg k + 0x108) 24 24 0) (linkPg k) 8))) ∧
    (∀ w, free → dlUp s k = true → ltssm s k = 4 →
      [16, 8, 4, 2, 1].find? (fun x => decide (x ≤ portLanes s k ∧ x ≤ p.lanes.val) && (widthOf (portLanes s k) x p.reversed).all (fun i =>
        (flagAt s (laneStat k i) 31 && !flagAt s (laneStat k i) 27) || ((trainedLanes s k).contains i && !flagAt s (laneStat k i) 27))) = some w →
      exec (.seatTraining n p) s = .next (drivePins
      (let r := trainRate s k p (flitMode s k)
       let u := seatLocked s k r w p (flitMode s k) false
       let v := if seatRate s k = r then u else setEvt (ptmStale u k) (linkPg k) 11
       if seatLanes s k = w then v else setEvt (ptmStale v k) (linkPg k) 10))) ∧
    (dlUp s k = true → ltssm s k ≠ 4 → exec (.seatRecovery n) s = .next (drivePins
      (setEvt (bump (fldPut (seatMod s k (fun x => { x with ptmOpen := false })) (linkPg k + 0x110) 31 28 4) (linkPg k + 0x414)) (linkPg k) 12))) ∧
    (∀ w' rev, dlUp s k = true →
      (([8, 4, 2, 1].filter (fun x => decide (x < seatLanes s k))).flatMap (fun x => [(x, false), (x, true)])).find?
        (fun c => (widthOf (portLanes s k) c.1 c.2).all (fun i => flagAt s (laneStat k i) 31 && !flagAt s (laneStat k i) 27)) = some (w', rev) →
      exec (.seatWidthReform n) s = .next (drivePins
        (let u := (List.range (portLanes s k)).foldl (fun s i => if (widthOf (portLanes s k) w' rev).contains i then s else laneExclude s k i) s
         let v := fldPut (fldPut (fldPut u (linkPg k + 0x110) 31 28 3) (linkPg k + 0x110) 23 19 w') (linkPg k + 0x110) 18 14 w'
         let w := portTrained v k (seatRate v k) w' rev
         setEvt (bump (ptmStale w k) (linkPg k + 0x418)) (linkPg k) 10)))

/-- A data link that leaves DL_Active with Sn_PERST_N high and no deck holding the port is a surprise removal, else the link goes down and its
functions' FLRs end; SEAT_RESET, a hot reset and a link disable treat every function as by an FLR of the PF and clear READY; SEAT_READY
sets READY once no function of the seat drains; L0p and electrical idle move the lanes and the LTSSM; the edge of Sn_PERST_N and, in
Sleep, the exit from electrical idle are wake sources (R129, R148, R166, R411, R566, R581, R583). Of each of these commands it says that
exec answers a next state: seatLinkDown, seatReset, hotReset, seatReady, l0pRequestRx, electricalIdleEntry, electricalIdleExit. The
model's choices in it: log entries 13, 54, 109 and 127. -/
def Obligations.SeatLinkCommandsComplete : Prop :=
  ∀ (s : State) (n : Fin 6) (dis : Bool) (w : Fin 17) (sub : Fin 3),
    let k := n.val
    let st := linkPg k + 0x110
    (dlUp s k = true → exec (.seatLinkDown n) s = .next (drivePins
      (if flagAt s (slotPg k + 0x108) 24 = true ∨ portDown s k = true then releaseClaims (flrDrop (seatDown s k) k) k else removal s k))) ∧
    (seatPresent s k = true →
      let reset (s : State) (code : Nat) : State :=
        let u := lanesDown (seatLinkDown (fldPut s st 1 1 0) k code) k
        let v := (enabledVfs u k).foldl (fun s f => flrStart s f true) u
        let z := fnMod (flrStart v k false) k (fun x => { x with vfClear := false, vfs := 0 })
        fldPut (releaseClaims (deckAbandon (deckLosePf (deckLoseSeat (ideZeroize z k) k) k) (k + 1) 0) k) st 1 1 0
      exec (.seatReset n) s = .next (drivePins (fldPut (reset (wake s (7 + k)) 0) (slotPg k + 0x108) 24 24 1)) ∧
      exec (.hotReset n dis) s = .next (drivePins (reset s (if dis then 9 else 8)))) ∧
    (seatPresent s k = true → flagAt s st 1 = false → 7 ≤ fldAt s 0x1D4 31 28 → (∀ f ∈ seatFns s k, (fnOf s f).flr = false) →
      exec (.seatReady n) s = .next (drivePins (fldPut s st 1 1 1))) ∧
    (l0pOn s k = true → w.val ∈ [1, 2, 4, 8, 16] → w.val ≤ seatLanes s k → exec (.l0pRequestRx n w) s = .next (drivePins
      (emit (setL0p s k w.val) (.seatSig k "L0P_ACK" w.val)))) ∧
    (dlUp s k = true → ltssm s k = 3 →
      let quiet := seatMod s k (fun x => { x with ptmOpen := false })
      (flitMode s k = false → exec (.electricalIdleEntry n .l0s) s = .next (drivePins (fldPut (seatLanesIdle quiet k true) st 31 28 5))) ∧
      exec (.electricalIdleEntry n (.l1 sub)) s = .next (drivePins (fldPut (fldPut (seatLanesIdle quiet k true) st 12 11 sub.val) st 31 28 6)) ∧
      exec (.electricalIdleEntry n .l2) s = .next (drivePins (fldPut (seatLanesIdle quiet k true) st 31 28 7))) ∧
    (dlUp s k = true → (ltssm s k = 5 ∨ ltssm s k = 6 ∨ ltssm s k = 7) → exec (.electricalIdleExit n) s = .next (drivePins
      (fldPut (fldPut (seatLanesIdle (if s.pwr.state = 2 then wake s (1 + k) else s) k false) st 12 11 0) st 31 28 3)))

/-- A host acknowledgement releases what it acknowledges, a NAK replays the rest, or in selective replay the one FLIT it asks for, a credit
DLLP adds credits; a FLIT that FEC corrected is counted, one that it could not correct is counted, reported and answered with a NAK; the
replay timer replays and reports; a completion that ends its request frees the tag and delivers, and one that finds its tag in quarantine
is only counted; a timeout quarantines the tag and ends the request, and the end of the quarantine frees it; a PTM response completes the
open dialog (R146, R156, R163, R164, R165, R176, R434, R452). Of each of these commands it says that exec answers a next state: dllpRx,
seatReplayTimer, hostCompletion, completionTimeout, tagQuarantineExpire, ptmResponse. The model's choices in it: log entries 13, 31, 38,
43 and 95. -/
def Obligations.SeatTrafficCompletes : Prop :=
  ∀ (s : State) (n : Fin 6) (q : Fin 4096) (f : Fin 4096) (wire : Fin 16384) (data : List Byte) (i : Nat) (e : TagEnt) (t1 t4 : Fin 65536)
    (master : Dword) (delay : Word),
    let k := n.val
    let u := rxTlp s k
    (dlUp s k = true →
      exec (.dllpRx n (.ack q)) s = .next (drivePins (ackUp s k q.val)) ∧
      exec (.dllpRx n (.nak q)) s = .next (drivePins (replaySeat (bump (ackUp s k q.val) (linkPg k + 0x40C)) k (flagAt s (linkPg k + 0x110) 7))) ∧
      (∀ (c : Fin 3) (h d : Option (Fin 65536)), exec (.dllpRx n (.credit c h d)) s = .next (drivePins (seatMod s k (fun x => { x with
        grant := listSet (listSet x.grant (2 * c.val) (grantAdd (x.grant.getD (2 * c.val) none) (h.map (fun v => v.val)))) (2 * c.val + 1)
          (grantAdd (x.grant.getD (2 * c.val + 1) none) (d.map (fun v => v.val))) })))) ∧
      (flitMode s k = true →
        exec (.dllpRx n .fixed) s = .next (drivePins (flitLogged (tally (bump s (linkPg k + 0x400)) 9 k 1) k false)) ∧
        exec (.dllpRx n .uncorrectable) s = .next (drivePins
          (emit (bump (aer (raiseErr (flitLogged (bump s (linkPg k + 0x404)) k true) (linkPg k) 8) k .receiver) (linkPg k + 0x408)) (.seatSig k "NAK" 0))) ∧
        exec (.dllpRx n .badDllp) s = .next (drivePins s)) ∧
      (flitMode s k = false →
        exec (.dllpRx n .badCrc) s = .next (drivePins (emit (bump (aer s k .badTlp) (linkPg k + 0x408)) (.seatSig k "NAK" 0))) ∧
        exec (.dllpRx n .badDllp) s = .next (drivePins (aer s k .badDllp))) ∧
      exec (.dllpRx n .receiverError) s = .next (drivePins (aer (raiseErr s (linkPg k) 10) k .receiver)) ∧
      exec (.dllpRx n .protocol) s = .next (drivePins (aer s k .dataLink)) ∧
      exec (.dllpRx n .flowControl) s = .next (drivePins (aer s k .flowControl)) ∧
      ((seatOf s k).unacked ≠ [] → exec (.seatReplayTimer n) s = .next (drivePins (aer (replaySeat s k false) k .replayTimeout)))) ∧
    (dlUp s k = true → (seatOf s k).tags.find? (fun t => t.2.fn == f.val && t.2.wire == wire.val) = some (i, e) →
      (e.quar = true → ∀ b : Fin 4097, exec (.hostCompletion n f wire 0 b .good data) s = .next (drivePins
        (let v := aerAdvisory (setEvt (bump u (txnPg k + 0x404)) (txnPg k) 9) f.val .unexpectedCpl
         if b.val = data.length then freeTag v k i else v))) ∧
      (e.quar = false → ∀ b : Fin 4097, exec (.hostCompletion n f wire 4 b .good data) s = .next (drivePins
        (endSeatReq (freeTag u k i) e .hostCa))) ∧
      (e.quar = false → ∀ b : Fin 4097, b.val = data.length → e.len = e.got.length + data.length →
        exec (.hostCompletion n f wire 0 b .good data) s = .next (drivePins (deliver (freeTag u k i) e (e.got ++ data) e.ep)))) ∧
    (∀ j : Fin 4096, (seatOf s k).tags.find? (fun t => t.1 == j.val) = some (j.val, e) →
      (e.quar = false → exec (.completionTimeout n j) s = .next (drivePins
        (endSeatReq (aer (tally (quarTag (setEvt (bump s (txnPg k + 0x400)) (txnPg k) 8) k j.val) 8 k 1) e.fn .cplTimeout) e .timeout))) ∧
      (e.quar = true → exec (.tagQuarantineExpire n j) s = .next (drivePins (freeTag s k j.val)))) ∧
    ((seatOf s k).ptmOpen = true →
      let a : Int := (seatOf s k).ptmT1 + t1.val
      let b : Int := 8 * s.time.toNat + t4.val
      let (h, v) := halve s (b - a - 64 * (delay.toNat : Int))
      let off8 := (64 * (master.toNat : Int) - h - a).fdiv 8
      let ns := lowBits 64 (off8.fdiv 8)
      exec (.ptmResponse n t1 t4 master delay) s = .next (drivePins (seatMod { v with freeCtr := v.freeCtr + 1 } k (fun y =>
        { y with ptmOpen := false, ptmOk := true, ptm := [BitVec.ofNat 32 ns, BitVec.ofNat 32 (ns / 2 ^ 32),
          BitVec.ofNat 32 (Config.freeValue v.freeCtr % 65536 * 65536 + lowBits 3 off8), BitVec.ofNat 32 y.ptmHand] }))))

/-- The training of a Nicen Link: bursts in DETECT; PROBE once enough lanes carry a signal, with the configuration latched; a TS block that
fails its CRC is counted and forgotten, those that differ in lanes, spares or version fail with reasons 2, 3, 4, and agreeing ones are
counted and acknowledged until RATE_GO; in TRAIN an EQ request is taken or refused and answered, and every locked lane's DONE ends it; EQ
blocks on enough lanes of an ACTIVE link retrain it; AM rows are counted in ALIGN, and a wrong position in ACTIVE is a NAK; a state that
times out fails with its reason; a DOWN row leads to DETECT; block lock, its loss and SLIP act on the lane (R113, R117, R321, R322, R324
to R326, R328, R330, R331, R349). Of each of these commands it says that exec answers a next state: detectBurst, nicenSignalDetect,
tsBlockRx, eqBlockRx, amRowRx, nicenStateTimeout, downRowRx, blockLock, blockLockLoss, slip. The model's choices in it: log entries 13,
86, 94 and 120. -/
def Obligations.NicenTrainingCompletes : Prop :=
  ∀ (s : State) (k : Fin 4) (i : Fin 32) (t : TsBlock) (b : EqBlock) (a : AmRow) (lanes : List (Fin 32)),
    let p := 6 + k.val
    let x := physOf s k.val
    let o := laneStat p i.val
    let st := nlkState s k.val
    let use := i.val < nlkLanes s k.val
    let free := portPresent s p = true ∧ portDown s p = false ∧ lanesFolded s = false ∧ asleep s = false ∧ isOff s = false
    let up := (lanes.map (fun i => i.val)).filter (fun i => decide (i < nlkLanes s k.val))
    let ts (s : State) (flags : Nat) (cfg spare : Word) (lanes : List Nat) : State := lanes.foldl (fun s i => sendBlock s k.val [i] 0x10
      (natLe 1 (flags + 4 * b2n (portLimp s p)) ++ natLe 1 (wireLane s k.val i) ++ natLe 1 (nlkLanes s k.val) ++ natLe 2 (bits spare 15 0) ++
        natLe 1 (bits cfg 1 0) ++ natLe 1 (bits cfg 23 18) ++ natLe 4 (regAt s (linkPg p + 0x118)).toNat ++ natLe 1 1)) s
    (free → st = 0 → exec (.detectBurst k) s = .next (drivePins
      (ts s 0 (regAt s (linkPg p + 0x100)) (regAt s (linkPg p + 0x104)) (List.range (nlkLanes s k.val))))) ∧
    (free → st = 0 → up ≠ [] → minLanes s k.val ≤ up.length → exec (.nicenSignalDetect k lanes) s = .next (drivePins
      (let c := (List.range (nlkLanes s k.val)).foldl (fun s i => laneBegin s p i (up.contains i)) s
       let d := physMod c k.val (fun x => { x with
         cfg := regAt c (linkPg p + 0x100), spare := regAt c (linkPg p + 0x104), slip := regAt c (linkPg p + 0x11C), misses := 0 })
       let e := regPut d (lanePg p + 0x304) (regAt d (lanePg p + 0x304) &&& 0x40000000#32 ||| 0x08000000#32)
       ts (fldPut e (nlkStat k.val) 31 28 1) 0 (physOf e k.val).cfg (physOf e k.val).spare (List.range (nlkLanes e k.val))))) ∧
    (s.pwr.state = 3 ∨ isOff s = true → exec (.detectBurst k) s = .next (drivePins s) ∧ exec (.nicenSignalDetect k lanes) s = .next (drivePins s)) ∧
    (t.bad = true → exec (.tsBlockRx k i t) s = .next (drivePins
      (bumpBy (physMod s k.val (fun x => { x with tsGood := tabDel x.tsGood i.val, tsAck := tabDel x.tsAck i.val })) (linkPg p + 0x42C) 1))) ∧
    (st = 1 → use → t.bad = false →
      (t.lanes.val ≠ nlkLanes s k.val → exec (.tsBlockRx k i t) s = .next (drivePins (trainFail s k.val 2))) ∧
      (t.lanes.val = nlkLanes s k.val → t.spares.val ≠ bits x.spare 15 0 → exec (.tsBlockRx k i t) s = .next (drivePins (trainFail s k.val 3))) ∧
      (t.lanes.val = nlkLanes s k.val → t.spares.val = bits x.spare 15 0 → t.version.val ≠ 1 → exec (.tsBlockRx k i t) s = .next (drivePins (trainFail s k.val 4))) ∧
      (t.lanes.val = nlkLanes s k.val → t.spares.val = bits x.spare 15 0 → t.version.val = 1 →
        let pol := bits (laneOf s p i.val).cfg 31 30
        let u := regPut (fldPut s o 28 28 (if pol = 1 then 0 else if pol = 2 then 1 else b2n t.inverted)) (linkPg p + 0x12C) t.id
        let v := physMod u k.val (fun x => { x with
          tsLane := tabIns x.tsLane i.val t.lane.val, tsGood := tabMod 0 x.tsGood i.val (· + 1),
          tsAck := tabPut 0 x.tsAck i.val (if t.ack then tabGet 0 x.tsAck i.val + 1 else 0), pRate := t.maxRate.val, pLimp := x.pLimp || t.limp })
        let y := physOf v k.val
        let rev := y.tsLane.all (fun q => q.1 + q.2 + 1 == nlkLanes v k.val) && y.tsLane.any (fun q => q.1 != q.2)
        let w := fldPut (fldPut v (nlkStat k.val) 11 11 (b2n rev)) (lanePg p + 0x304) 28 28 (b2n rev)
        let z := if tabGet 0 y.tsGood i.val = 8 then ts w 1 y.cfg y.spare [i.val] else w
        exec (.tsBlockRx k i t) s = .next (drivePins
          (if minLanes z k.val ≤ y.tsLane.length ∧ y.tsLane.all (fun q => decide (16 ≤ tabGet 0 y.tsAck q.1)) = true then toTrain z k.val else z)))) ∧
    (b.bad = true → exec (.eqBlockRx k i b) s = .next (drivePins (bumpBy s (linkPg p + 0x42C) 1))) ∧
    (st = 2 → use → b.bad = false → exec (.eqBlockRx k i b) s = .next (drivePins
      (let asks := b.mode.val ≠ 0 ∧ x.eqId.any (fun q => q.1 == i.val && q.2 == b.id.val) = false
       let r := fldAt s (nlkStat k.val) 27 24
       let u := if asks then
           (if b.mode.val = 1 then sendEq (setPreset s p i.val r b.preset.val) k.val i.val b.id.val 0
            else let q := eqRequest s p i.val r b.pre.val (48 - b.pre.val - b.post.val) b.post.val
              sendEq q.2 k.val i.val b.id.val (if q.1 = true then 0 else 1))
         else s
       let v := physMod u k.val (fun x => { x with
         eqId := if asks then tabIns x.eqId i.val b.id.val else x.eqId, eqDone := tabPut 0 x.eqDone i.val (if b.done then tabGet 0 x.eqDone i.val + 1 else 0) })
       let locked := (List.range (nlkLanes v k.val)).filter (fun i => (laneOf v p i).block)
       if !locked.isEmpty && locked.all (fun i => decide (16 ≤ tabGet 0 (physOf v k.val).eqDone i)) then
         sendAm (fldPut (physMod v k.val (fun x => { x with amCnt := 0, skewed := [], amSent := 0 })) (nlkStat k.val) 31 28 3) k.val
       else v))) ∧
    (linkActive s k.val = true → use → b.bad = false → exec (.eqBlockRx k i b) s = .next (drivePins
      (let u := physMod s k.val (fun x => { x with eqAct := setIns i.val x.eqAct })
       if minLanes u k.val ≤ (setIns i.val x.eqAct).length then retrain u k.val else u))) ∧
    (flagAt s (nlkStat k.val) 8 = false →
      let z := if a.bad.val = 0 then s else bumpBy s (linkPg p + 0x42C) a.bad.val
      (st = 3 → a.skewed = [] → a.aligned = true → x.amCnt + 1 < 8 → exec (.amRowRx k a) s = .next (drivePins
        (physMod z k.val (fun x => { x with peerOk := a.rxOk.toNat, amCnt := x.amCnt + 1 })))) ∧
      (st = 3 → a.skewed = [] → a.aligned = true → 8 ≤ x.amCnt + 1 → rxOk s k.val ≠ 0 → exec (.amRowRx k a) s = .next (drivePins
        (alignDone (physMod z k.val (fun x => { x with peerOk := a.rxOk.toNat, amCnt := x.amCnt + 1 })) k.val (Nat.land (rxOk s k.val) a.rxOk.toNat)))) ∧
      (st = 5 → a.posOk = true → exec (.amRowRx k a) s = .next (drivePins z)) ∧
      (st = 5 → a.posOk = false → exec (.amRowRx k a) s = .next (drivePins
        (pump (physMod z k.val (fun x => { x with nak := true, drop := true })) k.val)))) ∧
    (let re := flagAt s (nlkStat k.val) 10
     (st = 1 → exec (.nicenStateTimeout k) s = .next (drivePins (trainFail s k.val (if x.tsLane.length < minLanes s k.val then 5 else 1)))) ∧
     (st = 2 → exec (.nicenStateTimeout k) s = .next (drivePins (trainFail s k.val (if re then 9 else 6)))) ∧
     (st = 3 → exec (.nicenStateTimeout k) s = .next (drivePins (trainFail s k.val (if re then 9 else 7)))) ∧
     (st = 4 → exec (.nicenStateTimeout k) s = .next (drivePins (trainFail s k.val 8)))) ∧
    (st ≠ 0 → exec (.downRowRx k) s = .next (drivePins (toDetect s k.val 0xA))) ∧
    (use → exec (.blockLock k i) s = .next (drivePins
      (let u := fldPut (laneMod s p i.val (fun y => { y with block := true, gained := if flagAt s o 31 then y.gained else s.time.toNat })) o 31 31 1
       fldPut u o 23 20 (if laneLimp u p i.val = true then (if (laneOf u p i.val).swept = true then 5 else 4) else 2)))) ∧
    ((laneOf s p i.val).block = true → exec (.blockLockLoss k i) s = .next (drivePins
      (laneLost (raiseErr (laneMod s p i.val (fun y => { y with block := false })) (linkPg p) 11) k.val (wireLane s k.val i.val)))) ∧
    (use → st = 0 → flagAt s (linkPg p + 0x11C) 0 = true → exec (.slip k i) s = .next (drivePins
      (laneMod s p i.val (fun y => { y with slip := (y.slip + 1) % 258 })))) ∧
    (use → st = 1 → bitOf x.slip 0 = true → exec (.slip k i) s = .next (drivePins
      (laneMod s p i.val (fun y => { y with slip := (y.slip + 1) % 258 }))))

/-- The frame layer of a Nicen Link that is at least in LINKUP: corrected symbols are counted; the next frame in sequence is accepted and its
ACK and NAK values acted on; a frame that fails FEC or CRC, or comes out of sequence, is a NAK, sent once; what is owed or ready leaves at
once; REPLAY_TIMEOUT replays; a retrain keeps rate, sequence numbers and credits, and one that fails goes to DETECT with reason 9; the
transmit direction, with nothing to send, enters electrical idle with an EI row and leaves it with the quick burst, 64 IDLE rows and an AM
row; the receive direction's lanes hold while it is idle; a HAND row with a good copy gives the receive map; NLk_ALERT_N is an event and a
wake source (R129, R322, R333, R337, R338, R340, R341, R343, R348, R352, R411). Of each of these commands it says that exec answers a next
state: frameRx, replayTimeout, nicenRetrain, retrainTimeout, nicenEiEntry, nicenEiExit, eiEnterRx, handRowRx, nlkAlert. The model's
choices in it: log entries 36, 39, 95 and 121. -/
def Obligations.NicenFramesComplete : Prop :=
  ∀ (s : State) (k : Fin 4) (f : Frame) (h : HandRow),
    let pg := linkPg (6 + k.val)
    let x := physOf s k.val
    let active := linkActive s k.val = true
    let nak (s : State) : State := if (physOf s k.val).drop then s else physMod s k.val (fun x => { x with nak := true, drop := true })
    let c : State :=
      let u := f.fixed.foldl (fun s i => physMod s k.val (fun x => { x with symNow := tabMod 0 x.symNow i.val (· + 1), symAll := tabMod 0 x.symAll i.val (· + 1) }))
        (rxAwake s k.val)
      if f.fixed.isEmpty then u else tally (bump u (pg + 0x400)) 9 (6 + k.val) 1
    let next := ((physOf c k.val).rxSeq + 1) % 4096
    let after (u : State) : State :=
      let v := frameAck u k.val f.ack.val
      pump (if f.nak then frameReplay (bump v (pg + 0x410)) k.val else v) k.val
    (4 ≤ nlkState s k.val →
      (f.good = .good → f.seq.val = next → f.empty = true → exec (.frameRx k f) s = .next (drivePins (after c))) ∧
      (f.good = .good → f.seq.val = next → f.empty = false → exec (.frameRx k f) s = .next (drivePins
        (after (physMod c k.val (fun x => { x with rxSeq := next, owe := true, nak := false, drop := false }))))) ∧
      (f.good = .good → f.seq.val ≠ next → exec (.frameRx k f) s = .next (drivePins (after (nak c)))) ∧
      (f.good = .fec → exec (.frameRx k f) s = .next (drivePins (pump (nak (raiseErr (bump c (pg + 0x404)) pg 8)) k.val))) ∧
      (f.good = .crc → exec (.frameRx k f) s = .next (drivePins (pump (nak (raiseErr (bump c (pg + 0x408)) pg 9)) k.val)))) ∧
    (active → flagAt s (nlkStat k.val) 9 = false → x.unacked ≠ [] → exec (.replayTimeout k) s = .next (drivePins
      (let n := x.unacked.length
       let c := if x.ex.isSome then x.failed else x.failed + 1
       let again := physMod (physMod s k.val (fun x => { x with failed := c })) k.val (fun x => { x with
         unacked := x.unacked.map (fun u => { u with time := s.time.toNat }), rttNow := (x.rttNow.1, x.rttNow.2.1, x.rttNow.2.2 + n) })
       let u := x.unacked.foldl (fun s f => frameOut s k.val f.seq false f.data) (bumpBy again (pg + 0x414) n)
       if fldAt u (pg + 0x10C) 19 16 ≤ c then retrain u k.val else u))) ∧
    (active → exec (.nicenRetrain k) s = .next (drivePins (retrain s k.val)) ∧ nlkState (retrain s k.val) k.val = 2 ∧
      (physOf (retrain s k.val) k.val).seq = x.seq ∧ (physOf (retrain s k.val) k.val).rxSeq = x.rxSeq ∧ linkTxOf (retrain s k.val) k.val = linkTxOf s k.val) ∧
    (flagAt s (nlkStat k.val) 10 = true → exec (.retrainTimeout k) s = .next (drivePins (trainFail s k.val 9))) ∧
    (active → flagAt s (pg + 0x100) 15 = true → x.unacked = [] → x.stream = [] → x.owe = false → x.nak = false → x.ex = none →
      flagAt s (nlkStat k.val) 9 = false → trickNo s + 128 < 4096 → exec (.nicenEiEntry k) s = .next (drivePins
        (let u := sendBlock s k.val ((rowLanes s k.val).map (wireLane s k.val)) 0x23 []
         let v := (rowLanes u k.val).foldl (fun v i => fldPut v (laneStat (6 + k.val) (wireLane v k.val i)) 29 29 1) (fldPut u (nlkStat k.val) 9 9 1)
         bump v (pg + 0x428)))) ∧
    (active → flagAt s (nlkStat k.val) 9 = true → exec (.nicenEiExit k) s = .next (drivePins
      (let u := sendBurst (txIdle s k.val false) k.val (rowLanes s k.val)
       pump (sendAm ((List.range 64).foldl (fun s _ => sendRow s k.val 0x01 []) u) k.val) k.val))) ∧
    (active → exec (.eiEnterRx k) s = .next (drivePins
      ((rxLanes s k.val).foldl (fun u i => fldPut u (laneStat (6 + k.val) (wireLane u k.val i)) 23 20 3) (fldPut s (nlkStat k.val) 8 8 1)))) ∧
    (active → h.bad.val = 0 → exec (.handRowRx k h) s = .next (drivePins
      (physMod (mapStat (regPut (rxAwake s k.val) (pg + 0x124) (BitVec.ofNat 32 h.txMap.toNat)) k.val) k.val
        (fun x => { x with handNo := h.hand.val, launch := h.launch.val, arrived := h.arrival.toInt })))) ∧
    (0 < h.bad.val → (rxLanes s k.val).length ≤ h.bad.val → exec (.handRowRx k h) s = .next (drivePins (bumpBy s (pg + 0x42C) h.bad.val))) ∧
    (exec (.nlkAlert k) s = .next (drivePins (setEvt (wake s (13 + k.val)) pg 13)))

/-- Shed and restore: a command on an ACTIVE link with no command under way asks the partner, and a lane it does not fit, a link that is down
or too few lanes left end it with 6, 6 or 1; the request is repeated while unanswered; the partner's request is acknowledged, or refused
with its reason; ACK and READY are kept, a REFUSE fails the exchange with SHED_FAIL; RESTORE_AM sends the extra AM row and AUTO_RESTORE
asks for every shed lane. The rows are SHED rows with OP, LANE, SPARE, EXCH_ID, TARGET and REASON (R344, R345, R346, R347, R351). Of each
of these commands it says that exec answers a next state: shedCommand, restoreCommand, shedRequestRepeat, shedReqRx, restoreReqRx,
shedAckRx, shedRefuseRx, shedReadyRx, restoreAm, autoRestore. The model's choices in it: log entries 40, 122 and 124. -/
def Obligations.ShedExchangesComplete : Prop :=
  ∀ (s : State) (k : Fin 4) (i : Fin 32) (r : ShedReq) (id : Fin 256) (e : ShedEx),
    let o := linkPg (6 + k.val) + 0x130
    let x := physOf s k.val
    let active := linkActive s k.val = true
    let ends (c : Nat) : State := fldPut (fldPut s o 31 28 c) o 8 8 0
    let mapped (l : Nat) : Prop := (nlkTxMap s k.val).testBit l = true
    let shed (l : Nat) : Prop := ∃ v, (l, v) ∈ x.shedBy
    let left (spare : Nat) : Nat := mapCount (nlkTxMap s k.val) - 1 + (if spare = 255 then 0 else 1)
    let row (s : State) (op lane spare ident target reason : Nat) : State :=
      sendRow s k.val 0x22 (natLe 1 op ++ natLe 1 lane ++ natLe 1 spare ++ natLe 1 ident ++ natLe 5 target ++ natLe 1 reason)
    let reply (s : State) (op reason : Nat) : State :=
      let u := eiExit s k.val
      row u op r.lane.val r.spare.val r.id.val r.target.val reason
    let begun (restore : Bool) : State := fldPut (physMod s k.val (fun x => { x with
      ex := some { mine := false, restore := restore, lane := r.lane.val, spare := r.spare.val, ident := r.id.val, hand := handNo s, target := r.target.val, acked := true, ready := false, soft := false } })) (nlkStat k.val) 7 7 1
    (flagAt s o 8 = true → exec (.shedCommand k i) s = .next (drivePins (fldPut s o 31 28 4)) ∧ exec (.restoreCommand k i) s = .next (drivePins (fldPut s o 31 28 4))) ∧
    (flagAt s o 8 = false → ¬ active → exec (.shedCommand k i) s = .next (drivePins (ends 6)) ∧ exec (.restoreCommand k i) s = .next (drivePins (ends 6))) ∧
    (flagAt s o 8 = false → active → (¬ mapped i.val → exec (.shedCommand k i) s = .next (drivePins (ends 6))) ∧
      (¬ shed i.val → exec (.restoreCommand k i) s = .next (drivePins (ends 6)))) ∧
    (flagAt s o 8 = false → active → mapped i.val → left (spareFor s k.val i.val) < minLanes s k.val → exec (.shedCommand k i) s = .next (drivePins (ends 1))) ∧
    (flagAt s o 8 = false → active → mapped i.val → minLanes s k.val ≤ left (spareFor s k.val i.val) →
      exec (.shedCommand k i) s = .next (drivePins (shedAsk (fldPut s o 8 8 1) k.val i.val false true))) ∧
    (flagAt s o 8 = false → active → shed i.val → exec (.restoreCommand k i) s = .next (drivePins (shedAsk (fldPut s o 8 8 1) k.val i.val true true))) ∧
    (x.ex = some e → e.mine = true → e.acked = false → e.hand = handNo s → exec (.shedRequestRepeat k) s = .next (drivePins
      (row s (if e.restore then 2 else 1) e.lane e.spare e.ident e.target 0))) ∧
    (active → x.ex = none →
      (¬ mapped r.lane.val → exec (.shedReqRx k r) s = .next (drivePins (reply s 4 3))) ∧
      (mapped r.lane.val → left r.spare.val < minLanes s k.val → exec (.shedReqRx k r) s = .next (drivePins (reply s 4 1))) ∧
      (mapped r.lane.val → minLanes s k.val ≤ left r.spare.val → exec (.shedReqRx k r) s = .next (drivePins (reply (begun false) 3 0))) ∧
      (¬ shed r.lane.val → exec (.restoreReqRx k r) s = .next (drivePins (reply s 4 3))) ∧
      (shed r.lane.val → exec (.restoreReqRx k r) s = .next (drivePins (laneBurst (reply (begun true) 3 0) k.val r.lane.val)))) ∧
    (x.ex = some e → e.ident = id.val →
      (e.mine = true → e.acked = false → e.restore = false → exec (.shedAckRx k id) s = .next (drivePins
        (physMod s k.val (fun x => { x with ex := some { e with acked := true } })))) ∧
      (e.mine = true → e.acked = false → e.restore = true → exec (.shedAckRx k id) s = .next (drivePins
        (laneBurst (physMod s k.val (fun x => { x with ex := some { e with acked := true } })) k.val e.lane))) ∧
      (e.mine = true → e.soft = false → exec (.shedRefuseRx k id) s = .next (drivePins
        (setEvt (fldPut (physMod s k.val (fun x => { x with ex := none })) (nlkStat k.val) 7 7 0) (linkPg (6 + k.val)) 11))) ∧
      (e.restore = true → exec (.shedReadyRx k id) s = .next (drivePins (physMod s k.val (fun x => { x with ex := some { e with ready := true } }))))) ∧
    (x.ex = some e → e.restore = true → e.acked = true → exec (.restoreAm k) s = .next (drivePins
      (let u := sendAm s k.val
       if laneIn u k.val e.lane then row (eiExit u k.val) 5 e.lane e.spare e.ident e.target 0 else u))) ∧
    (active → flagAt s (linkPg (6 + k.val) + 0x100) 14 = true → x.misses < 8 → exec (.autoRestore k) s = .next (drivePins
      (shedWants (physMod s k.val (fun x => { x with want := x.shedBy.foldl (fun l q => setIns (q.1 * 4 + 2) l) x.want })) k.val)))

/-- A request for coefficients is taken, and its set reached, exactly when it lies in the space of R111: |C−1| + C0 + |C+1| = 48, |C−1| ≤ 12,
C0 − |C−1| − |C+1| ≥ 16, with C−1 and C+1 not positive (the model keeps their absolute values); any other request changes nothing.
LANE_TXEQ then holds the set, and PRESET names the preset that it equals, or reads 0xF (R111, R126). -/
def Obligations.CoefficientRequestsFollowTheSpace : Prop :=
  ∀ (s : State) (p i rate pre main post : Nat),
    let legal := pre + main + post = 48 ∧ pre ≤ 12 ∧ 16 + pre + post ≤ main
    let w := txeqWord rate (pre, main, post)
    (legal → eqRequest s p i rate pre main post = (true, regPut s (laneTxeq p i) w) ∧
      bits w 5 0 = pre ∧ bits w 11 6 = main ∧ bits w 17 12 = post ∧
      (∀ n < 11, presetEq rate n = (pre, main, post) → bits w 31 28 ≤ n ∧ presetEq rate (bits w 31 28) = (pre, main, post)) ∧
      ((∀ n < 11, presetEq rate n ≠ (pre, main, post)) → bits w 31 28 = 0xF)) ∧
    (¬ legal → eqRequest s p i rate pre main post = (false, s))

/-- The transaction stream and the frames that carry it. A transaction is its 16-byte header, its payload bytes and 0x00 up to a multiple of 8
bytes, so that it occupies 16 + 8 × ⌈n ÷ 8⌉ bytes; it takes its place right behind what the stream holds, and a stream of whole units
stays one, so every header begins on a unit boundary. Each header field stands at its bits. A frame is 264 bytes: the control word, the
stream's units and 0x00 behind them, the CRC-32 over bytes 0 to 251, the parity. A control block is 32 bytes: TYPE, its fields, 0x00, the
CRC-16 over bytes 0 to 29 (R322, R332, R355, R357). -/
def Obligations.StreamFollowsTheFormat : Prop :=
  ∀ (s : State) (k seq ack kind : Nat) (nak empty : Bool) (x : Txn) (data fields : List Byte),
    let b := txnBytes x
    let n := x.data.length
    let h := leNat (b.take 16)
    let f (hi lo : Nat) : Nat := h / 2 ^ lo % 2 ^ (hi + 1 - lo)
    let y := physOf s k
    let frame := frameBytes seq ack nak empty data
    let c := leNat (frame.take 4)
    let ctl := controlBlock kind fields
    (b.length = 16 + 8 * ((n + 7) / 8) ∧ (b.drop 16).take n = x.data ∧ ∀ z ∈ b.drop (16 + n), z = 0) ∧
    (linkSends s k = false → (physOf (nicenPut s k x) k).stream = y.stream ++ b ∧ (nicenPut s k x).out = s.out ++ [.nicen k x] ∧
      (y.stream.length % 8 = 0 → (y.stream ++ b).length % 8 = 0)) ∧
    (x.type < 32 → x.cls < 4 → x.attr < 8 → x.status < 8 → x.seat < 8 → x.fn < 4096 → x.tag < 4096 → x.len < 128 → x.last < 64 →
      x.ep < 2 ^ 24 → x.off < 2 ^ 48 →
      f 127 123 = x.type ∧ f 122 121 = x.cls ∧ f 120 120 = x.poison.toNat ∧ f 119 117 = x.attr ∧ f 116 114 = x.status ∧ f 113 111 = x.seat ∧
      f 110 99 = x.fn ∧ f 98 87 = x.tag ∧ f 86 80 = x.len ∧ f 79 74 = x.last ∧ f 73 73 = x.posted.toNat ∧ f 72 72 = 0 ∧ f 71 48 = x.ep ∧ f 47 0 = x.off) ∧
    (data.length % 8 = 0 → data.length ≤ 248 → seq < 4096 → ack < 4096 →
      frame.length = 264 ∧ c = seq * 2 ^ 20 + ack * 2 ^ 8 + nak.toNat * 2 ^ 7 + empty.toNat * 2 ^ 6 + data.length / 8 ∧
      (frame.drop 4).take data.length = data ∧ (∀ z ∈ ((frame.take 252).drop (4 + data.length)), z = 0) ∧
      leNat ((frame.drop 252).take 4) = frameCrc (frame.take 252)) ∧
    (kind < 256 → fields.length ≤ 29 → ctl.length = 32 ∧ ctl.take (1 + fields.length) = BitVec.ofNat 8 kind :: fields ∧
      (∀ z ∈ (ctl.take 30).drop (1 + fields.length), z = 0) ∧ leNat (ctl.drop 30) = crc16 (ctl.take 30))

namespace Sys2Proof.Spec

/-- A received transaction with no fault of R390, of the type `t`, on a link that is at least in LINKUP. -/
def Sound (s : State) (k : Fin 4) (t : Nat) (x : TxnIn) : Prop :=
  (nlkState s k.val = 4 ∨ nlkState s k.val = 5) ∧ txnFault s k.val x = 0 ∧ x.type.val = t

end Sys2Proof.Spec

/-- Received transactions without a fault: a CPL that is a refusal is logged, one without a request is counted, one for a tag in quarantine is
counted and frees it, one with data goes back to the host that waits; an HWR or HRD lands in the link's reserve and waits for its return
check, which refuses it by an answer that its own card carries or makes host writes or host reads of it; a HINT that fails its checks is
answered, one that passes becomes a vector's firing before the Dealer; CREDIT, BURN, FOLD and the shed report do what their rules say; a
fault of R390 is reported and folds the link (R226, R251, R364, R367, R368, R370, R375, R376, R386, R387, R388, R390). The device's own
fabric requests: a timeout is reported once, ends the request and puts its tag in quarantine, which NICEN_TAG_RELEASE ends; a BURN or FOLD
exchange that times out is counted and its tags stay in quarantine (R382, R387, R388). Of each of these commands it says that exec answers
a next state: cplRx, hwrRx, hrdRx, hintRx, creditRx, burnRx, foldRx, shedReportRx, nicenRdTimeout, nicenTagRelease, burnTimeout. The
model's choices in it: log entries 13, 31, 42 and 93. -/
def Obligations.FabricTransactionsAndTimeoutsComplete : Prop :=
  (∀ (s : State) (k : Fin 4) (x : TxnIn) (i : Nat) (e : TagEnt) (n rid tag : Nat),
     let pg := txnPg (6 + k.val)
     let u := passCredits s k.val x
     let f := x.fn.val
     let len := txnLen x.len.val x.last.val
     let refused (s : State) (st why : Nat) : State :=
       linkAnswer (land s (6 + k.val) 1 x.cls.val (inCards x)) k.val (6 + k.val) f (.landing (6 + k.val)) 0 (some (x.cls.val, inCards x)) (answerCpl (if x.cls.val = 0 then 0 else 2) x.seat.val f x.tag.val st why (x.type.val != 0x0A) false [])
     (Sound s k 0x03 x → x.posted = true → exec (.cplRx k x) s = .next (drivePins (refusalRx u k.val x))) ∧
     (Sound s k 0x03 x → x.posted = false →
       ((linkTxOf u k.val).tags.find? (fun t => t.1 == x.tag.val) = none → exec (.cplRx k x) s = .next (drivePins (bump u (pg + 0x408)))) ∧
       ((linkTxOf u k.val).tags.find? (fun t => t.1 == x.tag.val) = some (i, e) → x.status.val = 0 →
         (e.quar = true → exec (.cplRx k x) s = .next (drivePins (freeLinkTag (setEvt (bump u (pg + 0x404)) pg 9) k.val i))) ∧
         (e.quar = false → folded u (6 + k.val) = false → e.why = .window n rid tag → exec (.cplRx k x) s = .next (drivePins
           (windowData (freeLinkTag u k.val i) k.val n tag e x))))) ∧
     (Sound s k 0x09 x →
       (folded s (6 + k.val) = true → exec (.hwrRx k x) s = .next (drivePins (refused s 6 8))) ∧
       (folded s (6 + k.val) = false → exec (.hwrRx k x) s = .next (drivePins
         (awaitLook (land s (6 + k.val) (inCards x) x.cls.val (inCards x)) { fabricXact k.val x 3 (inCards x) with posted := true, after := .hwr k.val x.cls.val x.tag.val })))) ∧
     (Sound s k 0x0A x →
       (folded s (6 + k.val) = true → exec (.hrdRx k x) s = .next (drivePins (refused s 6 8))) ∧
       (folded s (6 + k.val) = false → exec (.hrdRx k x) s = .next (drivePins
         (awaitLook (linkTxMod (land s (6 + k.val) 1 x.cls.val 1) k.val (fun t => { t with
             hrds := t.hrds ++ [{ tag := x.tag.val, fn := f, cls := x.cls.val, left := 1, data := [], cards := 0, kit := 0, poison := false }] }))
           { fabricXact k.val x 1 1 with ask := some (TagEnt.ask f (.hrd k.val x.tag.val x.cls.val) 0 len (cardsFor len) x.cls.val) })))) ∧
     (∀ v w, x.type.val = 0x09 → w.kit = 0 →
       (∀ st why idx, retCheck s f x.seat.val (x.ep.toNat / 16) x.off.toNat len true = (.inr (st, why, idx), v) →
         fabricLook s w k.val x = linkAnswer (toFlight (setErrBit (refuse v 2 why f idx) (fnPg f) 9) w.acct (w.cards - 1) 0) k.val (6 + k.val) f w.acct 0 w.land
           (answerCpl (if x.cls.val = 0 then 0 else 2) x.seat.val f x.tag.val st why true false [])) ∧
       (∀ a, retCheck s f x.seat.val (x.ep.toNat / 16) x.off.toNat len true = (.inl a, v) → seatRefuses v k.val x.seat.val = none →
         fabricLook s w k.val x =
           (let z := if x.cls.val = 0 ∧ inCards x ≠ 1 then countDemote v (6 + k.val) 0x400 else v
            (pieces a (inData x).length (mps z f) ((inData x).length + 1) 0).foldl (fun s p =>
              enqueue s { w with
                dst := x.seat.val, fn := f, cards := (pieceCards p).1, posted := true, chk := true, look := none,
                need := if p.1 = 0 then w.cards else 0,
                what := .tlp x.seat.val { tlp0 .memWr f (a + p.1) p.2 with
                  poison := x.poison, attr := hostAttr z f x.attr.val, data := ((inData x).drop p.1).take p.2 },
                trump := x.cls.val == 0 && inCards x == 1 && p.1 == 0,
                acct := if (pieceCards p).2 then .owed else w.acct,
                land := if p.1 + p.2 = (inData x).length then w.land else none,
                after := if p.1 + p.2 = (inData x).length then w.after else .none }) z))) ∧
     (∀ v w a, x.type.val = 0x0A → retCheck s f x.seat.val (x.ep.toNat / 16) x.off.toNat len false = (.inl a, v) → seatRefuses v k.val x.seat.val = none →
       fabricLook s w k.val x =
         (let ps := pieces a len (mrrs v f) (len + 1) 0
          ps.foldl (fun s p => enqueue s { w with
              what := .tlp x.seat.val { tlp0 .memRd f (a + p.1) p.2 with attr := hostAttr v f x.attr.val },
              chk := true, look := none, trump := x.cls.val == 0 && p.1 == 0, acct := if p.1 = 0 then w.acct else .owed, land := if p.1 = 0 then w.land else none,
              ask := some (TagEnt.ask f (.hrd k.val x.tag.val x.cls.val) p.1 p.2 (cardsFor p.2) x.cls.val) })
            (linkTxMod v k.val (fun t => { t with hrds := t.hrds.map (fun h => if h.tag == x.tag.val then { h with left := ps.length } else h) })))) ∧
     (Sound s k 0x0B x → folded s (6 + k.val) = false →
       ((fnOf s f).master = false → exec (.hintRx k x) s = .next (drivePins (refused s 2 7))) ∧
       ((fnOf s f).master = true → fnSeat s f = some x.seat.val → x.off.toNat % 2048 < vectorCount s f → folded s x.seat.val = false →
         let c := x.cls.val
         (dlUp s x.seat.val = true → exec (.hintRx k x) s = .next (drivePins
           (enqueue (land s (6 + k.val) 1 c 1) { xact0 x.seat.val f 3 1 (.nicen k.val (txn0 0x0B c x.seat.val f x.tag.val)) with
             src := 6 + k.val, trump := c == 0, posted := true, acct := .landing (6 + k.val), land := some (c, 1),
             after := .hint (x.off.toNat % 2048) k.val c x.tag.val }))) ∧
         (dlUp s x.seat.val = false → exec (.hintRx k x) s = .next (drivePins
           { u with intr := { u.intr with fired := u.intr.fired ++ [(f, x.off.toNat % 2048)] } })))) ∧
     (Sound s k 0x10 x →
       (x.off.getLsbD 0 = false → exec (.creditRx k x) s = .next (drivePins (linkTxMod s k.val (fun t => { t with pRet := creditCounts x })))) ∧
       (x.off.getLsbD 0 = true → initUnusable (creditCounts x) = true → exec (.creditRx k x) s = .next (drivePins (protocolErr s k.val 6 x false))) ∧
       (x.off.getLsbD 0 = true → initUnusable (creditCounts x) = false → exec (.creditRx k x) s = .next (drivePins
         (linkUpDone (linkTxMod s k.val (fun t => { t with pLim := creditCounts x, initRx := true })) k.val)))) ∧
     (Sound s k 0x12 x → (∃ b ∈ (linkTxOf s k.val).exchs, b.isFold = false ∧ b.ident = x.tag.val ∧ b.fn = f ∧ b.seat = x.seat.val) →
       exec (.burnRx k x) s = .next (drivePins (exchEnd (freeBurned s k.val x.tag.val) k.val x.tag.val))) ∧
     (Sound s k 0x13 x → x.off.getLsbD 0 = true →
       ((∃ b ∈ (linkTxOf s k.val).exchs, b.isFold = true ∧ b.ident = x.tag.val) →
         exec (.foldRx k x) s = .next (drivePins (exchEnd (freeBurned s k.val x.tag.val) k.val x.tag.val))) ∧
       ((∀ b ∈ (linkTxOf s k.val).exchs, b.isFold = true → b.ident ≠ x.tag.val) → exec (.foldRx k x) s = .next (drivePins (setEvt s pg 13)))) ∧
     (Sound s k 0x13 x → x.off.getLsbD 0 = false → exec (.foldRx k x) s = .next (drivePins
       (if x.off.toNat / 2 % 4 = 2 ∧ x.off.toNat / 8 % 2 = 1 then faultPort s (6 + k.val) 0x11 pg false else setEvt s pg 13))) ∧
     (Sound s k 0x14 x → exec (.shedReportRx k x) s = .next (drivePins (linkTxMod s k.val (fun t =>
       { t with shedRpt := (List.range 32).map (fun i => leNat (((inData x).drop (2 * i)).take 2)) })))) ∧
     ((nlkState s k.val = 4 ∨ nlkState s k.val = 5) → txnFault s k.val x ≠ 0 → x.type.val = 0x0B →
       exec (.hintRx k x) s = .next (drivePins (protocolErr s k.val (txnFault s k.val x) x true)))) ∧
  (∀ (s : State) (k : Fin 4) (i : Fin 4096) (e : TagEnt) (b : Exch),
     let pg := txnPg (6 + k.val)
     ((linkTxOf s k.val).tags.find? (fun t => t.1 == i.val) = some (i.val, e) → e.quar = false → exec (.nicenRdTimeout k i) s = .next (drivePins
       (endLinkReq (tally (setEvt (bump (quarLinkTag s k.val i.val) (pg + 0x400)) pg 8) 8 (6 + k.val) 1) e .timeout))) ∧
     ((i.val, e) ∈ (linkTxOf s k.val).tags → e.quar = true → exec (.nicenTagRelease k i) s = .next (drivePins (freeLinkTag s k.val i.val))) ∧
     (b ∈ (linkTxOf s k.val).exchs → b.ident = i.val → exec (.burnTimeout k i) s = .next (drivePins
       (let u := linkTxMod s k.val (fun t => { t with tags := t.tags.map (fun e => if e.2.burn = i.val + 1 then (e.1, { e.2 with burn := 0 }) else e) })
        setEvt (bump (linkTxMod u k.val (fun t => { t with exchs := t.exchs.filter (fun e => e.ident != i.val) })) (pg + 0x418)) pg 12))))

/-- Time: a PPS_IN edge is a measurement when PPS_IN is the source, and with a SET pending gives the jump; a lost source leads to HOLDOVER and
nothing else happens without one; SET is accepted with no other SET pending and a source that is PPS_IN or none, else refused; PPS_OUT
rises in the trick in which its second is due, outside Deep sleep and Off; a HAND transaction measures the link, a TIME transaction from
the source link gives the jump that makes the hands equal (R444, R445, R446, R449, R455, R458, R489). Of each of these commands it says
that exec answers a next state: ppsInEdge, timeSourceLost, timeSet, ppsOutEdge, handTxnRx, timeTxnRx. The model's choices in it: log
entries 43, 133 and 142. -/
def Obligations.TimeCommandsComplete : Prop :=
  ∀ (s : State) (ofs : Fin 320) (k : Fin 4) (x : TxnIn),
    let src := fldAt s (timPg + 0x100) 3 0
    let t : Int := 8 * (s.time.toNat : Int) + (ofs.val : Int)
    let half := secondUnits / 2
    let value : Nat := (regAt s (timPg + 0x134)).toNat * 2 ^ 32 + (regAt s (timPg + 0x130)).toNat
    let pend := flagAt s (timPg + 0x138) 8
    let st := fldAt s (timPg + 0x140) 31 29
    (src = 1 → pend = false → exec (.ppsInEdge ofs) s = .next (drivePins (measure s (t - (t + half).fdiv secondUnits * secondUnits)))) ∧
    (src = 1 → pend = true → exec (.ppsInEdge ofs) s = .next (drivePins
      (let th := t - 8 * (value : Int)
       let u := fldPut s (timPg + 0x138) 8 8 0
       measure { u with tim := { u.tim with jump := - nearestHands th } } th))) ∧
    (src ≠ 1 → exec (.ppsInEdge ofs) s = .next (drivePins s)) ∧
    (src ≠ 0 → s.tim.used = true → st ≠ 3 → exec .timeSourceLost s = .next (drivePins
      (let u := fldPut s (timPg + 0x140) 24 24 0
       setEvt (fldPut { u with tim := { u.tim with good := 0, outs := 0, steady := 0, fault := false } } (timPg + 0x140) 31 29 3) timPg 9))) ∧
    (src ≤ 1 → pend = false → exec .timeSet s = .next (drivePins (fldPut (fldPut s (timPg + 0x138) 31 28 0) (timPg + 0x138) 8 8 1))) ∧
    (1 < src ∨ pend = true → exec .timeSet s = .next (drivePins (fldPut s (timPg + 0x138) 31 28 1))) ∧
    (let w := fldAt s (timPg + 0x124) 15 0
     let r := (s.time.toNat + w) % 8000000000
     flagAt s (timPg + 0x124) 31 = true → s.pwr.state < 3 → (r = 0 ∨ 8000000000 - 40 < r) → exec .ppsOutEdge s = .next (drivePins
      (emit { s with tim := { s.tim with pps := fldAt s (timPg + 0x124) 25 16 * 8000000 } } (.pin "PPS_OUT" 1)))) ∧
    (Sound s k 0x11 x → exec (.handTxnRx k x) s = .next (drivePins
      (handMeasure s k.val (x.off.toNat % 2 ^ 40) (signedBits 32 (leNat ((inData x).take 4)))))) ∧
    (Sound s k 0x15 x → src = 8 + k.val →
      let cur : Nat := s.time.toNat / 163840
      let mine : Nat := cur - (cur + 2 ^ 40 - x.off.toNat % 2 ^ 40) % 2 ^ 40
      let theirs : Nat := leNat ((inData x).take 8) / 163840
      let j : Int := Int.ofNat theirs - Int.ofNat mine
      exec (.timeTxnRx k x) s = .next (drivePins { s with tim := { s.tim with jump := if j = 0 then s.tim.jump else j } }))

/-- What a usable measurement does to a LOCKED unit: inside 100 ns it stays LOCKED and the outlier count restarts; outside, three in a row are
counted and the fourth is HOLDOVER with its fault (R445, R446). -/
def Obligations.LockedMeasurementsFollowTheRule : Prop :=
  ∀ (s : State) (th : Int), timState s = 2 → timSource s ≠ 0 →
    let t := measure s th
    (th.natAbs ≤ 6400 → timState t = 2 ∧ t.tim.outs = 0) ∧
    (6400 < th.natAbs → s.tim.outs < 3 → timState t = 2 ∧ t.tim.outs = s.tim.outs + 1) ∧
    (6400 < th.natAbs → 3 ≤ s.tim.outs → timState t = 3 ∧ t.tim.fault = true ∧ flagAt t (timPg + 0x010) 9 = true ∧ flagAt t (timPg + 0x010) 11 = true)

/-- Power: an enabled source ends Sleep or Deep sleep with its source in LAST_WAKE; OFF is accepted only when all twelve votes are NONE, and
entered at the next trick boundary, else refused, and from a requester that is not trusted it is an error of the page; droop is counted, a
sensor round samples every channel, THERM_TRIP asserts its pin once and for all; MINMAX_CLEAR marks the captures; the fourth failed AVS
transaction in a row freezes the loop (R29, R495, R497, R501, R502, R503, R505, R507). Of each of these commands it says that exec answers
a next state: wake, offCommand, droop, sensorRound, thermTrip, minmaxClear, avsTransactionFail. The model's choices in it: log entries 27,
119 and 136. -/
def Obligations.PowerCommandsComplete : Prop :=
  ∀ (s : State) (w : Fin 19) (r : Req) (tile : Fin 12) (ovr : Bool) (xs : List Nat) (m : BitVec 16),
    let pw (f : Power → Power) : State := { s with pwr := f s.pwr }
    ((s.pwr.state = 2 ∨ s.pwr.state = 3) → s.pwr.entering ≠ 4 → flagAt s (evrPg + 0x180) w.val = true → exec (.wake w) s = .next (drivePins (powerExit s (0x1E0 + w.val)))) ∧
    (trusted s r = true → (∀ v ∈ votes s, v = 4) → exec (.offCommand r) s = .next (drivePins
      (let u := fldPut s (pwrPg + 0x104) 31 28 0
       { u with pwr := { u.pwr with entering := 4 } }))) ∧
    (s.pwr.state ≠ 4 → s.pwr.entering = 4 → powerTrick s = pw (fun p => { p with state := 4, entering := 0 })) ∧
    (trusted s r = true → (∃ v ∈ votes s, v ≠ 4) → exec (.offCommand r) s = .next (drivePins (fldPut s (pwrPg + 0x104) 31 28 1))) ∧
    (trusted s r = false → exec (.offCommand r) s = .next (drivePins (logAccess s pwrPg r 5 true 0x104))) ∧
    (exec (.droop tile ovr) s = .next (drivePins
      (let u := bump s (pwrPg + 0x410)
       let u := if s.pwr.drooped then u else setEvt u pwrPg 12
       let u : State := { u with pwr := { u.pwr with drooped := true, holdHand := true } }
       if ovr then overrun u tile.val 0 false else u))) ∧
    (s.pwr.state ≠ 4 → exec (.sensorRound xs) s = .next (drivePins
      (let u := (List.range 16).foldl (fun s c => sampleChan s c (xs.getD c 0)) s
       thermal u (((List.range 6).map (fun c => bits (chanOf u c).word 11 0)).foldl max 0)))) ∧
    (exec .thermTrip s = .next (drivePins
      (if s.pins.tripN then s else emit { s with pins := { s.pins with tripN := true } } (.pin "THERM_TRIP_N" 0)))) ∧
    (exec (.minmaxClear r m) s = .next (drivePins ((List.range 16).foldl (fun s c =>
      if m.getLsbD c then { s with sens := tabPut Chan.idle s.sens c { tabGet Chan.idle s.sens c with clear := true } } else s) s))) ∧
    (s.pwr.silent = false → s.pwr.frozen = false → s.pwr.fails < 3 → exec .avsTransactionFail s = .next (drivePins
      (pw (fun p => { p with fails := p.fails + 1, failed := true })))) ∧
    (s.pwr.silent = false → s.pwr.frozen = false → 3 ≤ s.pwr.fails → exec .avsTransactionFail s = .next (drivePins
      (setEvt (pw (fun p => { p with fails := p.fails + 1, failed := true, frozen := true })) pwrPg 11)))

/-- The AVS loop never commands a rail outside 650 to 850 mV (R500). The vote of the twelve voters is the shallowest of them, and none at all
asks for Deep sleep (R490). -/
def Obligations.PowerRulesHold : Prop :=
  (∀ (s : State) (slack mv : Nat), 650 ≤ s.pwr.cmd → s.pwr.cmd ≤ 850 →
     650 ≤ (avsStep s slack mv).pwr.cmd ∧ (avsStep s slack mv).pwr.cmd ≤ 850) ∧
  (∀ (s : State),
     (∀ v ∈ votes s, voteLevel s ≤ v) ∧ (voteLevel s = 3 ∨ voteLevel s ∈ votes s) ∧ (votes s).length = 12 ∧ ((∀ v ∈ votes s, v = 4) → voteLevel s = 3))

namespace Sys2Proof.Spec

/-- The state after a cold reset or RESET_N with cause `c`: boot step 1, registers at their reset values but the grade, the boot status and the
ring's place, nothing held or under way, a waiting life-cycle transition in force, the store, the flash and the queue kept (R529, R574, R587). -/
def AfterReset (s t : State) (c : Nat) : Prop :=
  fldAt t 0x1D4 31 28 = 1 ∧ fldAt t 0x1D4 17 16 = c ∧ t.time = 0 ∧ t.talon = Talon.full ∧ t.xacts = [] ∧ t.seats = [] ∧ t.phys = [] ∧ t.links = [] ∧
  t.fns = [] ∧ t.queues = [] ∧ t.decks = [] ∧ t.recs = [] ∧ t.intr.pool = [] ∧ t.xlt = Xlt.fresh ∧
  (∀ o, o ∉ [0x104, 0x1D4, pstPg + 0x144, pstPg + 0x148] → regAt t o = regReset o) ∧
  (∀ o ∈ [0x104, pstPg + 0x144, pstPg + 0x148], regAt t o = regAt s o) ∧
  t.lcs.fuse = (if s.lcs.next = 0 then s.lcs.fuse else s.lcs.next) ∧ t.lcs.next = 0 ∧ t.store.flash = s.store.flash ∧ t.pending = s.pending ∧
  (s.store.busy = none → t.store.mem = s.store.mem)

end Sys2Proof.Spec

/-- Resets: COLD_RESET and RESET_N leave the state after reset with their cause, the former with the token lockout over; a wake in Off is a
cold reset with cause 2, outside Off it does nothing; SOFT_RESET is accepted with CONFIRM, else refused by its STATUS, and its instant
leaves the table in boot step 4 with nothing held, waiting or under way and table time kept (R529, R530, R573, R574, R587, R588, R589). Of
each of these commands it says that exec answers a next state: resetN, coldReset, softReset, softResetInstant. The model's choices in it:
log entries 60, 61 and 141. -/
def Obligations.ResetsComplete : Prop :=
  ∀ (s : State) (r : Req),
    (∃ t, exec .resetN s = .next t ∧ AfterReset s t 1 ∧ t.lcs.fails = s.lcs.fails) ∧
    (∃ t, exec (.coldReset false) s = .next t ∧ AfterReset s t 0 ∧ t.lcs.fails = 0) ∧
    (isOff s = true → ∃ t, exec (.coldReset true) s = .next t ∧ AfterReset s t 2 ∧ t.lcs.fails = 0 ∧ t.pwr.wake = (0, 0x1E0, 4, 0)) ∧
    (isOff s = false → exec (.coldReset true) s = .next (drivePins s)) ∧
    (trusted s r = true →
      let ends (s : State) (c : Nat) : State := fldPut s 0x1D0 31 28 c
      (fldAt s 0x1D0 15 4 ≠ 0x5EA → exec (.softReset r) s = .next (drivePins (ends s 1))) ∧
      (fldAt s 0x1D0 15 4 = 0x5EA → s.boot.soft = true ∨ fldAt s 0x1D4 31 28 ≠ 7 → exec (.softReset r) s = .next (drivePins (ends s 2))) ∧
      (fldAt s 0x1D0 15 4 = 0x5EA → s.boot.soft = false → fldAt s 0x1D4 31 28 = 7 → s.boot.shed = true → exec (.softReset r) s = .next (drivePins (ends s 3))) ∧
      (fldAt s 0x1D0 15 4 = 0x5EA → s.boot.soft = false → fldAt s 0x1D4 31 28 = 7 → s.boot.shed = false →
        exec (.softReset r) s = .next (drivePins (ends { s with boot := { s.boot with soft := true } } 0)))) ∧
    (s.boot.soft = true → s.store.busy = none → ∃ t, exec .softResetInstant s = .next t ∧ t.boot.soft = false ∧ fldAt t 0x1D4 31 28 = 4 ∧
      fldAt t 0x1D4 17 16 = 3 ∧ t.talon = { Talon.full with waited := t.talon.waited } ∧ t.xacts = [] ∧ t.fns = [] ∧ t.queues = [] ∧ t.intr.pool = [] ∧
      t.xlt = { Xlt.fresh with inject := s.xlt.inject } ∧ (∀ o ∈ t.parLive, stgMask o = 0 ∧ o ∈ s.parLive) ∧ t.time = s.time) ∧
    (s.boot.soft = false → exec .softResetInstant s = .next (drivePins s))

/-- BOOT: with no healthy core the part stays in boot step 1; a part in SCRAP stops in step 2 with PHASE 8; else the MGMT address is taken
from the straps, the store initialised, and House firmware and cut 0 follow; a soft reset boots from step 4 (R575, R576, R577, R589,
R601). Of each of these commands it says that exec answers a next state: boot. The model's choice in it: log entry 63. -/
def Obligations.BootCompletes : Prop :=
  ∀ (s : State) (b : BootIn), s.boot.shed = false → isOff s = false →
    let ok := fldAt s 0x1D4 31 28 = 1 ∧ ¬ (b.test = true ∧ (s.lcs.fuse = 1 ∨ s.lcs.fuse = 4))
    let core := fldPut s 0x1D4 23 20 b.cores.toNat
    let strap : State := { core with
      mgmt := { i3c := false, addr := 0x2C + 2 * (if b.gpio.getLsbD 2 then 1 else 0) + (if b.gpio.getLsbD 1 then 1 else 0), dyn := none, eid := none },
      pins := { core.pins with gpio := b.gpio.toNat } }
    (ok → b.cores = 0 → exec (.boot b) s = .next (drivePins core)) ∧
    (ok → b.cores ≠ 0 → s.lcs.fuse = 5 → exec (.boot b) s = .next (drivePins (fldPut (fldPut strap 0x1D4 31 28 8) 0x1D4 25 24 3))) ∧
    (ok → b.cores ≠ 0 → s.lcs.fuse ≠ 5 → exec (.boot b) s = .next (drivePins (bootHouse (bootStore strap b.storeOk) b))) ∧
    (fldAt s 0x1D4 31 28 = 4 → exec (.boot b) s = .next (drivePins (bootHouse s b)))

namespace Sys2Proof.Spec

/-- A request of host seat n that its seat can take: the data link is up, the device is not in Off, the credits are held. -/
def CanReceive (s : State) (n c d : Nat) : Prop := dlUp s n = true ∧ isOff s = false ∧ hasLanding (rxTlp s n) n c d = true

/-- The BAR that answers: it is on, its function is of the seat, and the seat is ready. -/
def Answers (s : State) (n : Nat) (h : BarHit) : Prop := barsOn s h.fn = true ∧ fnSeat s h.fn = some n ∧ flagAt s (linkPg n + 0x110) 1 = true

end Sys2Proof.Spec

/-- Host requests with no mark: one that a BAR answers is a register access of BAR0 or BAR4, completed and its credits given back, or a window
access; one that no BAR answers is an Unsupported Request, which a non-posted one's own card brings back; an AtomicOp outside the window
is one too; more than the granted credits is a Receiver Overflow (R192, R215, R434). Of each of these commands it says that exec answers a
next state: hostMemoryRead, hostMemoryWrite, hostAtomicop. The model's choices in it: log entries 25, 30, 71, 72 and 73. -/
def Obligations.HostRequestsComplete : Prop :=
  ∀ (s : State) (q : HostReq) (en : List Bool) (l : List (Option Byte)) (op : Fin 3) (data : List Byte) (h : BarHit), q.mark = .good →
    let n := q.seat.val
    let u := rxTlp s n
    let bytes := en.map (fun b => if b then some (0 : Byte) else none)
    let hit := barHit u n q.addr.toNat
    (CanReceive s n 1 0 → oneSpan q.addr en.length = true →
      (hit = some h → Answers u n h → h.bar ≠ 2 → exec (.hostMemoryRead q en) s = .next (drivePins (creditBack (barRead u n h q.tag.val bytes) n 1 0))) ∧
      (hit = some h → Answers u n h → h.bar = 2 → exec (.hostMemoryRead q en) s = .next (drivePins
        (let (a, k) := spanOf h.off bytes
         windowAccess u q h.fn a 0x02 (max 1 k) .read [] (some (max 1 k)) (some (1, 0))))) ∧
      (hit = none → exec (.hostMemoryRead q en) s = .next (drivePins (refuseCpl (unsupported u n n) n n q.tag.val 1 1 0)))) ∧
    (CanReceive s n 0 ((l.length + 15) / 16) → oneSpan q.addr l.length = true →
      (hit = some h → Answers u n h → h.bar ≠ 2 → exec (.hostMemoryWrite q l) s = .next (drivePins (creditBack (barWrite u n h l) n 0 ((l.length + 15) / 16)))) ∧
      (hit = some h → Answers u n h → h.bar = 2 → exec (.hostMemoryWrite q l) s = .next (drivePins (windowWrite u q h l ((l.length + 15) / 16)))) ∧
      (hit = none → exec (.hostMemoryWrite q l) s = .next (drivePins (creditBack (unsupported u n n) n 0 ((l.length + 15) / 16))))) ∧
    (CanReceive s n 1 ((data.length + 15) / 16) → atomOk q op.val data.length = true →
      (hit = some h → Answers u n h → h.bar = 2 → exec (.hostAtomicop q op data) s = .next (drivePins
        (windowAccess u q h.fn h.off (0x04 + op.val) data.length .atom data (some (if op.val = 2 then data.length / 2 else data.length)) (some (1, (data.length + 15) / 16))))) ∧
      (hit = some h → Answers u n h → h.bar ≠ 2 → exec (.hostAtomicop q op data) s = .next (drivePins
        (refuseCpl (unsupported u n h.fn) n h.fn q.tag.val 1 1 ((data.length + 15) / 16))))) ∧
    (dlUp s n = true → isOff s = false → hasLanding u n 1 0 = false → exec (.hostMemoryRead q en) s = .next (drivePins
      (raiseErr (aer u n .overflow) (txnPg n) 9)))

/-- Configuration requests and the management port: a request that the granted credits cover takes and returns them, else it is a Receiver
Overflow; to a function that answers it reads or writes its configuration dword; one that does not is an Unsupported Request or a retry;
MCTP identity is answered at the device's address alone, whose match is a wake source; SETDASA, ENTDAA and RSTDAA move between the static
and the dynamic address; a slow-clock edge copies the pins and the units' words (R66, R154, R155, R179, R181, R183, R411, R434, R603,
R604). Of each of these commands it says that exec answers a next state: configRead, configWrite, mctpMessage, setdasa, entdaa, rstdaa,
setEndpointId, slowClockEdge. The model's choices in it: log entries 25, 74, 75 and 140. -/
def Obligations.ConfigurationAndManagementComplete : Prop :=
  ∀ (s : State) (q : CfgReq) (l : List (Option Byte)) (f : Nat) (a b : Fin 128) (e : Fin 256) (gpio : BitVec 3),
    let n := q.seat.val
    let u := rxTlp s n
    let o := q.off.val / 4 * 4
    let up := 3 ≤ fldAt s 0x1D4 31 28 ∧ isOff s = false
    let mg (i : Bool) (d : Option Nat) : State := { s with mgmt := { s.mgmt with i3c := i, dyn := d } }
    (dlUp s n = true → isOff s = false →
      (hasLanding u n 1 0 = true → ∀ v, v = creditBack u n 1 0 →
        (cfgVerdict v n (cfgIndex v q) = (0, f) → exec (.configRead q) s = .next (drivePins (emit v (.config n 0 (cfgRead v f o))))) ∧
        (cfgVerdict v n (cfgIndex v q) = (1, f) → exec (.configRead q) s = .next (drivePins (emit (unsupported v n f) (.config n 1 0)))) ∧
        (cfgVerdict v n (cfgIndex v q) = (2, f) → exec (.configRead q) s = .next (drivePins (emit v (.config n 2 0))))) ∧
      (hasLanding u n 1 1 = true → ∀ v w, v = creditBack u n 1 1 →
        w = (if q.type0 = true ∧ cfgIndex v q = 0 then seatMod v n (fun x => { x with bus := q.rid.val / 256 }) else v) →
        cfgVerdict w n (cfgIndex v q) = (0, f) → exec (.configWrite q l) s = .next (drivePins
          (emit (cfgStore w f o (BitVec.ofNat 32 (byteMask (l.take 4) 0)) (BitVec.ofNat 32 (byteWord (l.take 4)))) (.config n 0 0)))) ∧
      (hasLanding u n 1 0 = false → exec (.configRead q) s = .next (drivePins (raiseErr (aer u n .overflow) (txnPg n) 9))) ∧
      (hasLanding u n 1 1 = false → exec (.configWrite q l) s = .next (drivePins (raiseErr (aer u n .overflow) (txnPg n) 9)))) ∧
    (up → mgmtAddr s = a.val → exec (.mctpMessage a .identity) s = .next (drivePins
      (let u := wake s 17
       emit u (.mgmt "IDENTITY" [(regAt u 0x100).toNat, (regAt u 0x104).toNat, u.mgmt.eid.getD 0])))) ∧
    (mgmtAddr s ≠ a.val → exec (.mctpMessage a .identity) s = .next (drivePins s)) ∧
    (up → s.mgmt.dyn = none → s.mgmt.addr = a.val → exec (.setdasa a b) s = .next (drivePins (mg true (some b.val)))) ∧
    (up → s.mgmt.dyn = none → exec (.entdaa b) s = .next (drivePins (mg true (some b.val)))) ∧
    (up → exec .rstdaa s = .next (drivePins (mg false none))) ∧
    (up → mgmtAddr s = a.val → exec (.setEndpointId a e) s = .next (drivePins
      (let u := wake s 17
       { u with mgmt := { u.mgmt with eid := some e.val } }))) ∧
    (isOff s = false → exec (.slowClockEdge gpio) s = .next (drivePins
      (let v : State := { s with pins := { s.pins with gpio := gpio.toNat } }
       let v := copySeq (fldPut v 0x1E4 2 0 ((if gpioLevel v 0 then 1 else 0) + 2 * (if gpioLevel v 1 then 1 else 0) + 4 * (if gpioLevel v 2 then 1 else 0))) tblPg
       let w := pwrWords v
       let v := copySeq ((List.range 4).foldl (fun s i => regPut s (pwrPg + 0x140 + 4 * i) (w.getD i 0)) v) pwrPg
       copySeq ((List.range 16).foldl (fun s c => regPut s (snsPg + 0x180 + 4 * c) (chanOf s c).word) v) snsPg)))

/-- The boundaries: outside Off, a trick boundary inside a hand ends the trick, advances table time by 5 ns and starts the next, in the order
of R37; after trick 4,095 it is a hand boundary, whose slack and rail reading are open; HAND_BOUNDARY plays the tricks left in the hand
and then the hand boundary; in Off nothing runs (R11, R37, R38, R486). Of each of these commands it says that exec answers a next state:
trickBoundary, handBoundary. The model's choices in it: log entries 77 and 78. -/
def Obligations.BoundariesComplete : Prop :=
  ∀ (s : State) (x : TrickEvents) (h : HandEvents),
    (isOff s = false → trickNo s ≠ 4095 → exec (.trickBoundary x) s = .next (drivePins (trickStart (nextTrick (fnBoundary (trickEnd s))) x))) ∧
    (isOff s = false → trickNo s = 4095 → exec (.trickBoundary x) s = .next (drivePins
      (let u : State := { s with freeCtr := s.freeCtr + 2 }
       trickStart (handStart (nextTrick (handEnd (trickEnd u))) false (Config.freeValue s.freeCtr % 256) (Config.freeValue (s.freeCtr + 1) % 1024)) x))) ∧
    (isOff s = false → exec (.handBoundary x h) s = .next (drivePins
      (trickStart (handStart (nextTrick (handEnd (trickEnd (quietTricks (4095 - trickNo s) s)))) h.badLength h.slack.val h.readMv.val) x))) ∧
    (isOff s = true → exec (.trickBoundary x) s = .next (drivePins s) ∧ exec (.handBoundary x h) s = .next (drivePins s)) ∧
    (nextTrick s).time = s.time + 40 ∧ trickNo s < 4096

/-- One step is one command: the command at the front of the queue is executed on the state that holds the rest of the queue. The model's
choice for an empty queue (log entry 3): the block idles. -/
def Obligations.StepRunsTheFrontCommand : Prop :=
  ∀ (c : Instr) (l : List Instr) (s : State),
    step { s with pending := c :: l } = exec c { s with pending := l } ∧ step { s with pending := [] } = .next { s with pending := [] }

/-- In every state in which FAULT_N tells the truth, whatever command is at the front, the step answers a next state, and FAULT_N tells the
truth again: no command stops the block, and the pin is asserted exactly when the safety state calls for it (R430, R436). The model's
choices in it: log entries 14 and 88. -/
def Obligations.EveryStepAnswersAndFaultNTellsTheTruth : Prop :=
  ∀ s : State, PinTellsTruth s → ∃ t, step s = .next t ∧ PinTellsTruth t

/-- The state after reset: boot step 1, table time 0, every card free, no port present, FAULT_N asserted and true, the books balanced, the
store canonical, the entries 0, the queue empty (R10, R230, R260, R436, R587). The model's choices in it: log entries 2 and 4. -/
def Obligations.ResetStateIsTheManuals : Prop :=
  let s := State.reset
  Safe s ∧ s.pins.faultN = true ∧ fldAt s 0x1D4 31 28 = 1 ∧ s.time = 0 ∧ s.talon.free = 262144 ∧ s.talon.held = [] ∧ s.talon.flight = 0 ∧
    (∀ p < 10, portPresent s p = false) ∧ (∀ k, entAt s k = 0) ∧ (∀ o, o ≠ 0x104 → regAt s o = regReset o) ∧ s.pending = []

/-- PST_BATCH_DONE writes the batch's bytes at its address and no other byte of the store, and keeps both memories canonical; the final record
of a power failure does so too (R517, R524). -/
def Obligations.StoreWritesReachTheirBytesOnly : Prop :=
  ∀ (s t : State) (b : Batch), StoreCanonical s →
    (s.store.busy = some b → exec .pstBatchDone s = .next t → StoreCanonical t ∧ t.store.flash = s.store.flash ∧
      ∀ a, tabGet 0 t.store.mem a = if b.addr ≤ a ∧ a < b.addr + b.data.length then b.data.getD (a - b.addr) 0 else tabGet 0 s.store.mem a) ∧
    (s.store.busy = none → exec .powerFailRecord s = .next t → StoreCanonical t ∧ t.store.flash = s.store.flash)

/-- Every movement of cards keeps the Talon's identity, free + held + in flight = 262,144, and the accounts canonical (R258, R259, R260,
R274). The model's choice in it: log entry 32. -/
def Obligations.CardMovementsKeepTheBooks : Prop :=
  ∀ (s : State) (f p n k : Nat), BooksBalance s → tabWf (fun _ => 0) s.talon.held = true → tabWf (fun _ => 0) s.talon.landing = true →
    let kept (t : State) : Prop := BooksBalance t ∧ tabWf (fun _ => 0) t.talon.held = true ∧ tabWf (fun _ => 0) t.talon.landing = true
    kept (chargeFn s f n) ∧ kept (chargeLanding s p n) ∧ kept (toFlight s (.fn f) n k) ∧ kept (toFlight s (.landing p) n k) ∧
      kept (recharge s p f n) ∧ kept (releaseCards s f n k) ∧ kept (reserveCards s f n) ∧ kept (closeBooks s) ∧
      (closeBooks s).talon.flight = 0 ∧ (closeBooks s).talon.free = s.talon.free + s.talon.flight
end

