-- ==== Sys2Proof/Laws/Tab.lean ====
section
/-! SUPPORT. What reading a sparse table gives after a write, that a write keeps the canonical form, what a bit field of a word reads
after a write, and the same for stored registers and the numbered parts of the state. -/

namespace Sys2Proof.Machine

/-! ## Tables -/

variable {α : Type}

theorem tabGet_tabIns (d : α) (t : Tab α) (k j : Nat) (v : α) :
    tabGet d (tabIns t k v) j = if j = k then v else tabGet d t j := by
  induction t with
  | nil => simp [tabIns, tabGet, eq_comm]
  | cons p r ih =>
    obtain ⟨i, w⟩ := p
    simp only [tabIns]
    split
    · subst i
      by_cases h : k = j
      · simp [tabGet, h]
      · simp [tabGet, h, Ne.symm h]
    · split
      · by_cases h : k = j
        · simp [tabGet, h]
        · simp [tabGet, h, Ne.symm h]
      · rename_i hik _
        by_cases h : i = j
        · have hj : ¬ j = k := by omega
          simp [tabGet, h, hj]
        · simp [tabGet, h, ih]

theorem tabGet_tabDel (d : α) (t : Tab α) (k j : Nat) : tabGet d (tabDel t k) j = if j = k then d else tabGet d t j := by
  induction t with
  | nil => simp [tabDel, tabGet]
  | cons p r ih =>
    obtain ⟨i, w⟩ := p
    simp only [tabDel]
    split
    · subst i
      rw [ih]
      by_cases h : j = k
      · simp [h]
      · simp [tabGet, h, Ne.symm h]
    · by_cases h : i = j
      · have hj : ¬ j = k := by omega
        simp [tabGet, h, hj]
      · simp [tabGet, h, ih]

/-- A write is read back, and no other key changes. -/
theorem tabGet_tabPut [DecidableEq α] (d : α) (t : Tab α) (k j : Nat) (v : α) :
    tabGet d (tabPut d t k v) j = if j = k then v else tabGet d t j := by
  unfold tabPut
  split
  · subst v; rw [tabGet_tabDel]
  · rw [tabGet_tabIns]

theorem tabGet_tabMod [DecidableEq α] (d : α) (t : Tab α) (k j : Nat) (f : α → α) :
    tabGet d (tabMod d t k f) j = if j = k then f (tabGet d t k) else tabGet d t j := tabGet_tabPut d t k j _

theorem tabRising_mono {lo lo' : Nat} {t : Tab α} (h : tabRising lo t = true) (hl : lo' ≤ lo) : tabRising lo' t = true := by
  cases t with
  | nil => rfl
  | cons p r => obtain ⟨i, w⟩ := p; simp_all [tabRising]; omega

theorem tabRising_tabIns {lo : Nat} {t : Tab α} {k : Nat} {v : α} (h : tabRising lo t = true) (hk : lo ≤ k) :
    tabRising lo (tabIns t k v) = true := by
  induction t generalizing lo with
  | nil => simp [tabIns, tabRising, hk]
  | cons p r ih =>
    obtain ⟨i, w⟩ := p
    simp only [tabRising, Bool.and_eq_true, decide_eq_true_eq] at h
    simp only [tabIns]
    split
    · subst i; simp [tabRising, h]
    · split
      · simp [tabRising, hk, h.2]; omega
      · simp [tabRising, h.1]; exact ih h.2 (by omega)

theorem tabDel_of_lt {lo : Nat} {t : Tab α} {k : Nat} (h : tabRising lo t = true) (hk : k < lo) : tabDel t k = t := by
  induction t generalizing lo with
  | nil => rfl
  | cons p r ih =>
    obtain ⟨i, w⟩ := p
    simp only [tabRising, Bool.and_eq_true, decide_eq_true_eq] at h
    simp only [tabDel]
    rw [if_neg (by omega), ih h.2 (by omega)]

theorem tabRising_tabDel {lo : Nat} {t : Tab α} {k : Nat} (h : tabRising lo t = true) : tabRising lo (tabDel t k) = true := by
  induction t generalizing lo with
  | nil => rfl
  | cons p r ih =>
    obtain ⟨i, w⟩ := p
    simp only [tabRising, Bool.and_eq_true, decide_eq_true_eq] at h
    simp only [tabDel]
    split
    · exact tabRising_mono (ih h.2) (by omega)
    · simp [tabRising, h.1, ih h.2]

theorem mem_tabDel {t : Tab α} {k : Nat} {p : Nat × α} (h : p ∈ tabDel t k) : p ∈ t := by
  induction t with
  | nil => simp [tabDel] at h
  | cons q r ih =>
    obtain ⟨i, w⟩ := q
    simp only [tabDel] at h
    split at h
    · exact .tail _ (ih h)
    · rcases List.mem_cons.1 h with rfl | h
      · exact .head _
      · exact .tail _ (ih h)

theorem mem_tabIns {t : Tab α} {k : Nat} {v : α} {p : Nat × α} (h : p ∈ tabIns t k v) : p = (k, v) ∨ p ∈ t := by
  induction t with
  | nil => simpa [tabIns] using h
  | cons q r ih =>
    obtain ⟨i, w⟩ := q
    simp only [tabIns] at h
    split at h
    · rcases List.mem_cons.1 h with rfl | h
      · exact .inl rfl
      · exact .inr (.tail _ h)
    · split at h
      · rcases List.mem_cons.1 h with rfl | h
        · exact .inl rfl
        · exact .inr h
      · rcases List.mem_cons.1 h with rfl | h
        · exact .inr (.head _)
        · rcases ih h with h | h
          · exact .inl h
          · exact .inr (.tail _ h)

/-- A write keeps the canonical form. -/
theorem tabWf_tabPut [DecidableEq α] {d : α} {t : Tab α} {k : Nat} {v : α} (h : tabWf (fun _ => d) t = true) :
    tabWf (fun _ => d) (tabPut d t k v) = true := by
  simp only [tabWf, Bool.and_eq_true, List.all_eq_true, decide_eq_true_eq] at h ⊢
  unfold tabPut
  split
  · exact ⟨tabRising_tabDel h.1, fun p hp => h.2 p (mem_tabDel hp)⟩
  · rename_i hv
    refine ⟨tabRising_tabIns h.1 (Nat.zero_le _), fun p hp => ?_⟩
    rcases mem_tabIns hp with rfl | hp
    · exact hv
    · exact h.2 p hp

/-! ## Bit fields -/

theorem bitOf_eq (w : Word) (i : Nat) : bitOf w i = w.getLsbD i := by simp [bitOf, BitVec.testBit_toNat]

theorem getLsbD_maskOf (hi lo i : Nat) : (maskOf hi lo).getLsbD i = (decide (i < 32) && decide (lo ≤ i) && decide (i < hi + 1 - lo + lo)) := by
  simp only [maskOf, BitVec.getLsbD_ofNat, Nat.testBit_shiftLeft, Nat.testBit_two_pow_sub_one]
  by_cases h : lo ≤ i
  · have e : (i - lo < hi + 1 - lo) = (i < hi + 1 - lo + lo) := by rw [Nat.sub_lt_iff_lt_add h]
    simp [h, e]
  · simp [h]

/-- Bit `i` after a write of bits [hi:lo]. -/
theorem bitOf_setBits (w : Word) (hi lo v i : Nat) (h : lo ≤ hi) :
    bitOf (setBits w hi lo v) i = if lo ≤ i ∧ i ≤ hi ∧ i < 32 then v.testBit (i - lo) else bitOf w i := by
  simp only [bitOf_eq, setBits, BitVec.getLsbD_or, BitVec.getLsbD_and, BitVec.getLsbD_not, getLsbD_maskOf, BitVec.getLsbD_ofNat,
    Nat.testBit_shiftLeft]
  have e : hi + 1 - lo + lo = hi + 1 := by omega
  rw [e]
  by_cases h32 : i < 32 <;> by_cases h1 : lo ≤ i <;> by_cases h2 : i ≤ hi
  all_goals (have h3 : (i < hi + 1) = (i ≤ hi) := propext Nat.lt_succ_iff)
  all_goals first
    | (simp [h32, h1, h2, h3]; done)
    | (have hw : w.getLsbD i = false := BitVec.getLsbD_of_ge w i (by omega)
       simp [h32, h1, h2, h3, hw])

theorem testBit_bits (w : Word) (hi lo i : Nat) : (bits w hi lo).testBit i = (decide (i < hi + 1 - lo) && bitOf w (lo + i)) := by
  simp [bits, bitOf, Nat.testBit_mod_two_pow, Nat.testBit_shiftRight]

/-- A field that was written holds the low bits of the value. -/
theorem bits_setBits_same (w : Word) (hi lo v : Nat) (h : lo ≤ hi) (h32 : hi < 32) : bits (setBits w hi lo v) hi lo = v % 2 ^ (hi + 1 - lo) := by
  apply Nat.eq_of_testBit_eq
  intro i
  rw [testBit_bits, bitOf_setBits _ _ _ _ _ h, Nat.testBit_mod_two_pow]
  by_cases hi' : i < hi + 1 - lo
  · rw [if_pos (by omega)]; simp [hi']
  · simp [hi']

/-- A field apart from the written one keeps its value. -/
theorem bits_setBits_other (w : Word) (hi lo v hi' lo' : Nat) (h : lo ≤ hi) (hd : hi' < lo ∨ hi < lo') :
    bits (setBits w hi lo v) hi' lo' = bits w hi' lo' := by
  apply Nat.eq_of_testBit_eq
  intro i
  rw [testBit_bits, testBit_bits, bitOf_setBits _ _ _ _ _ h]
  by_cases hi'' : i < hi' + 1 - lo'
  · rw [if_neg (by omega)]
  · simp [hi'']

/-! ## Stored registers -/

/-- A register reads what was stored in it; every other one is unchanged. -/
theorem regAt_regPut (s : State) (o p : Nat) (v : Word) : regAt (regPut s o v) p = if p = o then v else regAt s p := by
  unfold regAt regPut
  by_cases h : p = o
  · subst h; simp [tabGet_tabPut]
  · simp only [if_neg h]
    unfold tabPut
    split
    · rw [tabGet_tabDel, if_neg h]
    · rw [tabGet_tabIns, if_neg h]

theorem regAt_fldPut (s : State) (o hi lo v p : Nat) : regAt (fldPut s o hi lo v) p = if p = o then setBits (regAt s o) hi lo v else regAt s p := by
  unfold fldPut; rw [regAt_regPut]
theorem regAt_bump (s : State) (o p : Nat) : regAt (bump s o) p = if p = o then satInc (regAt s o) else regAt s p := by
  unfold bump; rw [regAt_regPut]
theorem regAt_hwSetBits (s : State) (o p : Nat) (m : Word) : regAt (hwSetBits s o m) p = if p = o then regAt s o ||| m else regAt s p :=
  regAt_regPut s o p (regAt s o ||| m)
theorem regAt_keepTrace (s : State) (pg i p : Nat) : regAt (keepTrace s pg i) p = regAt s p := by
  simp only [regAt, keepTrace]
theorem regAt_setEvt (s : State) (pg i p : Nat) : regAt (setEvt s pg i) p = if p = pg + 0x010 then regAt s (pg + 0x010) ||| maskOf i i else regAt s p := by
  unfold setEvt; rw [regAt_keepTrace, regAt_hwSetBits]
theorem regAt_setErrBit (s : State) (pg i p : Nat) :
    regAt (setErrBit s pg i) p = if p = pg + 0x01C then regAt s (pg + 0x01C) ||| maskOf i i else regAt s p := by
  unfold setErrBit; rw [regAt_keepTrace, regAt_hwSetBits]
theorem regAt_emit (s : State) (e : Emit) (p : Nat) : regAt (emit s e) p = regAt s p := rfl
/-- FAULT_N is no register. -/
theorem regAt_drivePins (s : State) (p : Nat) : regAt (drivePins s) p = regAt s p := by unfold drivePins; split <;> rfl

/-! ## Numbered parts of the state -/

theorem seatOf_seatMod (s : State) (n m : Nat) (f : Seat → Seat) : seatOf (seatMod s n f) m = if m = n then f (seatOf s n) else seatOf s m :=
  tabGet_tabMod ..
theorem linkTxOf_linkTxMod (s : State) (n m : Nat) (f : LinkTx → LinkTx) :
    linkTxOf (linkTxMod s n f) m = if m = n then f (linkTxOf s n) else linkTxOf s m := tabGet_tabMod ..
theorem fnOf_fnMod (s : State) (n m : Nat) (f : Fn → Fn) : fnOf (fnMod s n f) m = if m = n then f (fnOf s n) else fnOf s m := tabGet_tabMod ..
theorem queueOf_queueMod (s : State) (n m : Nat) (f : Queue → Queue) :
    queueOf (queueMod s n f) m = if m = n then f (queueOf s n) else queueOf s m := tabGet_tabMod ..

/-- FAULT_N tells the truth at the end of every command. -/
theorem drivePins_tells (s : State) : (drivePins s).pins.faultN = faultLevel (drivePins s) := by
  unfold drivePins
  split
  · assumption
  · rfl

end Sys2Proof.Machine
end

