-- ==== Sys2Proof/Laws/Bus.lean ====
section
/-! SUPPORT. Register accesses: what a write of a whole aligned word does. -/

namespace Sys2Proof.Machine

/-- The four bytes of a word spell it again. -/
theorem wordBytes_eq (v : Word) : ∃ a b c d, wordBytes v = [a, b, c, d] ∧ BitVec.ofNat 32 (byteWord [some a, some b, some c, some d]) = v := by
  refine ⟨_, _, _, _, rfl, ?_⟩
  apply BitVec.eq_of_toNat_eq
  have := v.isLt
  simp only [byteWord, Option.getD_some, BitVec.toNat_ofNat]
  omega

/-- A write of a whole aligned word that leads to a register reaches it with every bit, once, and is answered without an error. -/
theorem registerWrite_word (s : State) (r : Req) (o : Nat) (v : Word) (ha : mayAccess s r = true) (ho : o % 4 = 0)
    (ht : (target s r o).1 = .reg o) : registerWrite s r o (whole v) = answerWrite (writeReg s r o 0xFFFFFFFF#32 v (o % 0x1000)) r false := by
  obtain ⟨a, b, c, d, e, hv⟩ := wordBytes_eq v
  have hd : o / 4 * 4 = o := by omega
  have hs : spanOf o [some a, some b, some c, some d] = (o, 4) := by simp [spanOf]
  have hw : wordsTouched o [some a, some b, some c, some d] = [(o, [some a, some b, some c, some d])] := by
    simp only [wordsTouched, hs]
    have h1 : o / 4 = (o + 4 - 1) / 4 := by omega
    rw [if_neg (by omega), if_pos h1, hd]
    have h2 : 4 * (o / 4) = o := by omega
    simp [List.range, List.range.loop, h2]
  have hb : sizeBad o [some a, some b, some c, some d] = false := by
    have : o / 8 = (o + 3) / 8 := by omega
    simp [sizeBad, hs, this]
  have hm : BitVec.ofNat 32 (byteMask [some a, some b, some c, some d] 0) = 0xFFFFFFFF#32 := by
    simp [byteMask]
  simp only [registerWrite, ha, if_true, busWrite, writeAt, whole, e, List.map, hb, hw, List.foldl]
  have hk (x : Bool) : widthKind x [some a, some b, some c, some d] = 0 := by simp [widthKind, contiguous]
  have hf : firstByte o [some a, some b, some c, some d] = o := by simp [firstByte, hs]
  simp [ht, writeWord, hk, hf, hm, hv]
end Sys2Proof.Machine
end

