-- ==== Sys2Proof/Laws/Memory.lean ====
section
/-! SUPPORT. The byte memories (the store, the boot flash): what a byte reads after a write, that every operation keeps the canonical
form, and that a range reads back what was written there. -/

namespace Sys2Proof.Machine

/-- A byte inside the written range reads the byte written there; every other byte is unchanged. -/
theorem tabGet_memWrite (d : Byte) (m : List (Nat × Byte)) (a j : Nat) (bs : List Byte) :
    tabGet d (memWrite d m a bs) j = if a ≤ j ∧ j < a + bs.length then bs.getD (j - a) d else tabGet d m j := by
  induction bs generalizing a with
  | nil => rw [if_neg (by simp only [List.length_nil]; omega)]; rfl
  | cons b r ih =>
    simp only [memWrite, tabGet_tabPut, ih, List.length_cons]
    by_cases h : j = a
    · subst h; simp
    · by_cases h1 : a ≤ j ∧ j < a + (r.length + 1)
      · rw [if_neg h, if_pos (by omega), if_pos h1]
        obtain ⟨k, hk⟩ : ∃ k, j - a = k + 1 := ⟨j - a - 1, by omega⟩
        rw [hk, show j - (a + 1) = k by omega]; rfl
      · rw [if_neg h, if_neg (by omega), if_neg h1]

/-- A write keeps the canonical form. -/
theorem memWrite_wf {d : Byte} {m : List (Nat × Byte)} (a : Nat) (bs : List Byte) (h : Memory.wf d m) : Memory.wf d (memWrite d m a bs) := by
  induction bs generalizing a with
  | nil => exact h
  | cons b r ih => exact tabWf_tabPut (ih (a + 1))

theorem tabRising_filter {α : Type} (q : Nat × α → Bool) {lo : Nat} {t : Tab α} (h : tabRising lo t = true) : tabRising lo (t.filter q) = true := by
  induction t generalizing lo with
  | nil => rfl
  | cons p r ih =>
    obtain ⟨i, w⟩ := p
    simp only [tabRising, Bool.and_eq_true, decide_eq_true_eq] at h
    rw [List.filter_cons]
    split
    · simp [tabRising, h.1, ih h.2]
    · exact tabRising_mono (ih h.2) (by omega)

/-- An erase keeps the canonical form. -/
theorem memErase_wf {d : Byte} {m : List (Nat × Byte)} (q : Nat × Byte → Bool) (h : Memory.wf d m) : Memory.wf d (m.filter q) := by
  simp only [Memory.wf, tabWf, Bool.and_eq_true, List.all_eq_true] at h ⊢
  exact ⟨tabRising_filter q h.1, fun p hp => h.2 p ((List.mem_filter.1 hp).1)⟩

theorem tabGet_of_lt {α : Type} (d : α) {lo : Nat} {t : Tab α} {j : Nat} (h : tabRising lo t = true) (hj : j < lo) : tabGet d t j = d := by
  induction t generalizing lo with
  | nil => rfl
  | cons p r ih =>
    obtain ⟨i, w⟩ := p
    simp only [tabRising, Bool.and_eq_true, decide_eq_true_eq] at h
    simp only [tabGet]
    rw [if_neg (by omega), ih h.2 (by omega)]

theorem tabGet_dropWhile {α : Type} (d : α) {lo : Nat} {t : Tab α} {a j : Nat} (h : tabRising lo t = true) (hj : a < j) :
    tabGet d (t.dropWhile (fun p => decide (p.1 ≤ a))) j = tabGet d t j := by
  induction t generalizing lo with
  | nil => rfl
  | cons p r ih =>
    obtain ⟨i, w⟩ := p
    simp only [tabRising, Bool.and_eq_true, decide_eq_true_eq] at h
    rw [List.dropWhile_cons]
    split
    · rename_i hi
      simp only [decide_eq_true_eq] at hi
      rw [ih h.2]
      simp only [tabGet]
      rw [if_neg (by omega)]
    · rfl

theorem tabRising_dropWhile {α : Type} (q : Nat × α → Bool) {lo : Nat} {t : Tab α} (h : tabRising lo t = true) : tabRising lo (t.dropWhile q) = true := by
  induction t generalizing lo with
  | nil => rfl
  | cons p r ih =>
    obtain ⟨i, w⟩ := p
    rw [List.dropWhile_cons]
    split
    · simp only [tabRising, Bool.and_eq_true, decide_eq_true_eq] at h
      exact tabRising_mono (ih h.2) (by omega)
    · exact h

/-- A range of a canonical memory is the list of its bytes. -/
theorem memRange_eq (d : Byte) {lo : Nat} {m : List (Nat × Byte)} (a n : Nat) (h : tabRising lo m = true) :
    memRange d m a n = (List.range n).map (fun i => tabGet d m (a + i)) := by
  induction n generalizing a m with
  | zero => rfl
  | succ n ih =>
    rw [memRange, ih (a + 1) (tabRising_dropWhile _ h), List.range_succ_eq_map]
    simp only [List.map_cons, List.map_map, Nat.add_zero, List.cons.injEq, true_and, Function.comp_def]
    apply List.map_congr_left
    intro i _
    rw [tabGet_dropWhile d h (by omega), show a + 1 + i = a + (i + 1) by omega]

/-- What was written is read back. -/
theorem memRange_memWrite {d : Byte} {m : List (Nat × Byte)} (a : Nat) (bs : List Byte) (h : Memory.wf d m) :
    memRange d (memWrite d m a bs) a bs.length = bs := by
  have hw := memWrite_wf a bs h
  simp only [Memory.wf, tabWf, Bool.and_eq_true] at hw
  rw [memRange_eq d a _ hw.1]
  apply List.ext_getElem
  · simp
  · intro i h1 h2
    simp only [List.getElem_map, List.getElem_range, tabGet_memWrite]
    rw [if_pos (by simp at h1; omega)]
    simp at h1
    simp [h1]

end Sys2Proof.Machine
end

