-- ==== Sys2Proof/Laws/State.lean ====
section
/-! SUPPORT. One lemma per field of the state and per basic update: the fields an update leaves alone. -/

namespace Sys2Proof.Machine

@[simp] theorem regPut_hwSet (s : State) (o : Nat) (v : Word) : (regPut s o v).hwSet = s.hwSet := rfl
@[simp] theorem regPut_parLive (s : State) (o : Nat) (v : Word) : (regPut s o v).parLive = s.parLive := rfl
@[simp] theorem regPut_parShadow (s : State) (o : Nat) (v : Word) : (regPut s o v).parShadow = s.parShadow := rfl
@[simp] theorem regPut_mbox (s : State) (o : Nat) (v : Word) : (regPut s o v).mbox = s.mbox := rfl
@[simp] theorem regPut_decks (s : State) (o : Nat) (v : Word) : (regPut s o v).decks = s.decks := rfl
@[simp] theorem regPut_gen (s : State) (o : Nat) (v : Word) : (regPut s o v).gen = s.gen := rfl
@[simp] theorem regPut_tokenCtr (s : State) (o : Nat) (v : Word) : (regPut s o v).tokenCtr = s.tokenCtr := rfl
@[simp] theorem regPut_activeId (s : State) (o : Nat) (v : Word) : (regPut s o v).activeId = s.activeId := rfl
@[simp] theorem regPut_time (s : State) (o : Nat) (v : Word) : (regPut s o v).time = s.time := rfl
@[simp] theorem regPut_tim (s : State) (o : Nat) (v : Word) : (regPut s o v).tim = s.tim := rfl
@[simp] theorem regPut_talon (s : State) (o : Nat) (v : Word) : (regPut s o v).talon = s.talon := rfl
@[simp] theorem regPut_dealer (s : State) (o : Nat) (v : Word) : (regPut s o v).dealer = s.dealer := rfl
@[simp] theorem regPut_xacts (s : State) (o : Nat) (v : Word) : (regPut s o v).xacts = s.xacts := rfl
@[simp] theorem regPut_seats (s : State) (o : Nat) (v : Word) : (regPut s o v).seats = s.seats := rfl
@[simp] theorem regPut_lanes (s : State) (o : Nat) (v : Word) : (regPut s o v).lanes = s.lanes := rfl
@[simp] theorem regPut_lfw (s : State) (o : Nat) (v : Word) : (regPut s o v).lfw = s.lfw := rfl
@[simp] theorem regPut_links (s : State) (o : Nat) (v : Word) : (regPut s o v).links = s.links := rfl
@[simp] theorem regPut_phys (s : State) (o : Nat) (v : Word) : (regPut s o v).phys = s.phys := rfl
@[simp] theorem regPut_fns (s : State) (o : Nat) (v : Word) : (regPut s o v).fns = s.fns := rfl
@[simp] theorem regPut_queues (s : State) (o : Nat) (v : Word) : (regPut s o v).queues = s.queues := rfl
@[simp] theorem regPut_cells (s : State) (o : Nat) (v : Word) : (regPut s o v).cells = s.cells := rfl
@[simp] theorem regPut_intr (s : State) (o : Nat) (v : Word) : (regPut s o v).intr = s.intr := rfl
@[simp] theorem regPut_xlt (s : State) (o : Nat) (v : Word) : (regPut s o v).xlt = s.xlt := rfl
@[simp] theorem regPut_crp (s : State) (o : Nat) (v : Word) : (regPut s o v).crp = s.crp := rfl
@[simp] theorem regPut_pwr (s : State) (o : Nat) (v : Word) : (regPut s o v).pwr = s.pwr := rfl
@[simp] theorem regPut_sens (s : State) (o : Nat) (v : Word) : (regPut s o v).sens = s.sens := rfl
@[simp] theorem regPut_store (s : State) (o : Nat) (v : Word) : (regPut s o v).store = s.store := rfl
@[simp] theorem regPut_lcs (s : State) (o : Nat) (v : Word) : (regPut s o v).lcs = s.lcs := rfl
@[simp] theorem regPut_house (s : State) (o : Nat) (v : Word) : (regPut s o v).house = s.house := rfl
@[simp] theorem regPut_safe (s : State) (o : Nat) (v : Word) : (regPut s o v).safe = s.safe := rfl
@[simp] theorem regPut_mgmt (s : State) (o : Nat) (v : Word) : (regPut s o v).mgmt = s.mgmt := rfl
@[simp] theorem regPut_pins (s : State) (o : Nat) (v : Word) : (regPut s o v).pins = s.pins := rfl
@[simp] theorem regPut_boot (s : State) (o : Nat) (v : Word) : (regPut s o v).boot = s.boot := rfl
@[simp] theorem regPut_trace (s : State) (o : Nat) (v : Word) : (regPut s o v).trace = s.trace := rfl
@[simp] theorem regPut_recs (s : State) (o : Nat) (v : Word) : (regPut s o v).recs = s.recs := rfl
@[simp] theorem regPut_foldFresh (s : State) (o : Nat) (v : Word) : (regPut s o v).foldFresh = s.foldFresh := rfl
@[simp] theorem regPut_foldBy (s : State) (o : Nat) (v : Word) : (regPut s o v).foldBy = s.foldBy := rfl
@[simp] theorem regPut_clearing (s : State) (o : Nat) (v : Word) : (regPut s o v).clearing = s.clearing := rfl
@[simp] theorem regPut_freeCtr (s : State) (o : Nat) (v : Word) : (regPut s o v).freeCtr = s.freeCtr := rfl
@[simp] theorem regPut_out (s : State) (o : Nat) (v : Word) : (regPut s o v).out = s.out := rfl
@[simp] theorem regPut_pending (s : State) (o : Nat) (v : Word) : (regPut s o v).pending = s.pending := rfl

@[simp] theorem fldPut_hwSet (s : State) (o h l v : Nat) : (fldPut s o h l v).hwSet = s.hwSet := rfl
@[simp] theorem fldPut_parLive (s : State) (o h l v : Nat) : (fldPut s o h l v).parLive = s.parLive := rfl
@[simp] theorem fldPut_parShadow (s : State) (o h l v : Nat) : (fldPut s o h l v).parShadow = s.parShadow := rfl
@[simp] theorem fldPut_mbox (s : State) (o h l v : Nat) : (fldPut s o h l v).mbox = s.mbox := rfl
@[simp] theorem fldPut_decks (s : State) (o h l v : Nat) : (fldPut s o h l v).decks = s.decks := rfl
@[simp] theorem fldPut_gen (s : State) (o h l v : Nat) : (fldPut s o h l v).gen = s.gen := rfl
@[simp] theorem fldPut_tokenCtr (s : State) (o h l v : Nat) : (fldPut s o h l v).tokenCtr = s.tokenCtr := rfl
@[simp] theorem fldPut_activeId (s : State) (o h l v : Nat) : (fldPut s o h l v).activeId = s.activeId := rfl
@[simp] theorem fldPut_time (s : State) (o h l v : Nat) : (fldPut s o h l v).time = s.time := rfl
@[simp] theorem fldPut_tim (s : State) (o h l v : Nat) : (fldPut s o h l v).tim = s.tim := rfl
@[simp] theorem fldPut_talon (s : State) (o h l v : Nat) : (fldPut s o h l v).talon = s.talon := rfl
@[simp] theorem fldPut_dealer (s : State) (o h l v : Nat) : (fldPut s o h l v).dealer = s.dealer := rfl
@[simp] theorem fldPut_xacts (s : State) (o h l v : Nat) : (fldPut s o h l v).xacts = s.xacts := rfl
@[simp] theorem fldPut_seats (s : State) (o h l v : Nat) : (fldPut s o h l v).seats = s.seats := rfl
@[simp] theorem fldPut_lanes (s : State) (o h l v : Nat) : (fldPut s o h l v).lanes = s.lanes := rfl
@[simp] theorem fldPut_lfw (s : State) (o h l v : Nat) : (fldPut s o h l v).lfw = s.lfw := rfl
@[simp] theorem fldPut_links (s : State) (o h l v : Nat) : (fldPut s o h l v).links = s.links := rfl
@[simp] theorem fldPut_phys (s : State) (o h l v : Nat) : (fldPut s o h l v).phys = s.phys := rfl
@[simp] theorem fldPut_fns (s : State) (o h l v : Nat) : (fldPut s o h l v).fns = s.fns := rfl
@[simp] theorem fldPut_queues (s : State) (o h l v : Nat) : (fldPut s o h l v).queues = s.queues := rfl
@[simp] theorem fldPut_cells (s : State) (o h l v : Nat) : (fldPut s o h l v).cells = s.cells := rfl
@[simp] theorem fldPut_intr (s : State) (o h l v : Nat) : (fldPut s o h l v).intr = s.intr := rfl
@[simp] theorem fldPut_xlt (s : State) (o h l v : Nat) : (fldPut s o h l v).xlt = s.xlt := rfl
@[simp] theorem fldPut_crp (s : State) (o h l v : Nat) : (fldPut s o h l v).crp = s.crp := rfl
@[simp] theorem fldPut_pwr (s : State) (o h l v : Nat) : (fldPut s o h l v).pwr = s.pwr := rfl
@[simp] theorem fldPut_sens (s : State) (o h l v : Nat) : (fldPut s o h l v).sens = s.sens := rfl
@[simp] theorem fldPut_store (s : State) (o h l v : Nat) : (fldPut s o h l v).store = s.store := rfl
@[simp] theorem fldPut_lcs (s : State) (o h l v : Nat) : (fldPut s o h l v).lcs = s.lcs := rfl
@[simp] theorem fldPut_house (s : State) (o h l v : Nat) : (fldPut s o h l v).house = s.house := rfl
@[simp] theorem fldPut_safe (s : State) (o h l v : Nat) : (fldPut s o h l v).safe = s.safe := rfl
@[simp] theorem fldPut_mgmt (s : State) (o h l v : Nat) : (fldPut s o h l v).mgmt = s.mgmt := rfl
@[simp] theorem fldPut_pins (s : State) (o h l v : Nat) : (fldPut s o h l v).pins = s.pins := rfl
@[simp] theorem fldPut_boot (s : State) (o h l v : Nat) : (fldPut s o h l v).boot = s.boot := rfl
@[simp] theorem fldPut_trace (s : State) (o h l v : Nat) : (fldPut s o h l v).trace = s.trace := rfl
@[simp] theorem fldPut_recs (s : State) (o h l v : Nat) : (fldPut s o h l v).recs = s.recs := rfl
@[simp] theorem fldPut_foldFresh (s : State) (o h l v : Nat) : (fldPut s o h l v).foldFresh = s.foldFresh := rfl
@[simp] theorem fldPut_foldBy (s : State) (o h l v : Nat) : (fldPut s o h l v).foldBy = s.foldBy := rfl
@[simp] theorem fldPut_clearing (s : State) (o h l v : Nat) : (fldPut s o h l v).clearing = s.clearing := rfl
@[simp] theorem fldPut_freeCtr (s : State) (o h l v : Nat) : (fldPut s o h l v).freeCtr = s.freeCtr := rfl
@[simp] theorem fldPut_out (s : State) (o h l v : Nat) : (fldPut s o h l v).out = s.out := rfl
@[simp] theorem fldPut_pending (s : State) (o h l v : Nat) : (fldPut s o h l v).pending = s.pending := rfl

@[simp] theorem freshPar_regs (s : State) (o : Nat) : (freshPar s o).regs = s.regs := rfl
@[simp] theorem freshPar_hwSet (s : State) (o : Nat) : (freshPar s o).hwSet = s.hwSet := rfl
@[simp] theorem freshPar_parShadow (s : State) (o : Nat) : (freshPar s o).parShadow = s.parShadow := rfl
@[simp] theorem freshPar_mbox (s : State) (o : Nat) : (freshPar s o).mbox = s.mbox := rfl
@[simp] theorem freshPar_decks (s : State) (o : Nat) : (freshPar s o).decks = s.decks := rfl
@[simp] theorem freshPar_gen (s : State) (o : Nat) : (freshPar s o).gen = s.gen := rfl
@[simp] theorem freshPar_tokenCtr (s : State) (o : Nat) : (freshPar s o).tokenCtr = s.tokenCtr := rfl
@[simp] theorem freshPar_activeId (s : State) (o : Nat) : (freshPar s o).activeId = s.activeId := rfl
@[simp] theorem freshPar_time (s : State) (o : Nat) : (freshPar s o).time = s.time := rfl
@[simp] theorem freshPar_tim (s : State) (o : Nat) : (freshPar s o).tim = s.tim := rfl
@[simp] theorem freshPar_talon (s : State) (o : Nat) : (freshPar s o).talon = s.talon := rfl
@[simp] theorem freshPar_dealer (s : State) (o : Nat) : (freshPar s o).dealer = s.dealer := rfl
@[simp] theorem freshPar_xacts (s : State) (o : Nat) : (freshPar s o).xacts = s.xacts := rfl
@[simp] theorem freshPar_seats (s : State) (o : Nat) : (freshPar s o).seats = s.seats := rfl
@[simp] theorem freshPar_lanes (s : State) (o : Nat) : (freshPar s o).lanes = s.lanes := rfl
@[simp] theorem freshPar_lfw (s : State) (o : Nat) : (freshPar s o).lfw = s.lfw := rfl
@[simp] theorem freshPar_links (s : State) (o : Nat) : (freshPar s o).links = s.links := rfl
@[simp] theorem freshPar_phys (s : State) (o : Nat) : (freshPar s o).phys = s.phys := rfl
@[simp] theorem freshPar_fns (s : State) (o : Nat) : (freshPar s o).fns = s.fns := rfl
@[simp] theorem freshPar_queues (s : State) (o : Nat) : (freshPar s o).queues = s.queues := rfl
@[simp] theorem freshPar_cells (s : State) (o : Nat) : (freshPar s o).cells = s.cells := rfl
@[simp] theorem freshPar_intr (s : State) (o : Nat) : (freshPar s o).intr = s.intr := rfl
@[simp] theorem freshPar_xlt (s : State) (o : Nat) : (freshPar s o).xlt = s.xlt := rfl
@[simp] theorem freshPar_crp (s : State) (o : Nat) : (freshPar s o).crp = s.crp := rfl
@[simp] theorem freshPar_pwr (s : State) (o : Nat) : (freshPar s o).pwr = s.pwr := rfl
@[simp] theorem freshPar_sens (s : State) (o : Nat) : (freshPar s o).sens = s.sens := rfl
@[simp] theorem freshPar_store (s : State) (o : Nat) : (freshPar s o).store = s.store := rfl
@[simp] theorem freshPar_lcs (s : State) (o : Nat) : (freshPar s o).lcs = s.lcs := rfl
@[simp] theorem freshPar_house (s : State) (o : Nat) : (freshPar s o).house = s.house := rfl
@[simp] theorem freshPar_safe (s : State) (o : Nat) : (freshPar s o).safe = s.safe := rfl
@[simp] theorem freshPar_mgmt (s : State) (o : Nat) : (freshPar s o).mgmt = s.mgmt := rfl
@[simp] theorem freshPar_pins (s : State) (o : Nat) : (freshPar s o).pins = s.pins := rfl
@[simp] theorem freshPar_boot (s : State) (o : Nat) : (freshPar s o).boot = s.boot := rfl
@[simp] theorem freshPar_trace (s : State) (o : Nat) : (freshPar s o).trace = s.trace := rfl
@[simp] theorem freshPar_recs (s : State) (o : Nat) : (freshPar s o).recs = s.recs := rfl
@[simp] theorem freshPar_foldFresh (s : State) (o : Nat) : (freshPar s o).foldFresh = s.foldFresh := rfl
@[simp] theorem freshPar_foldBy (s : State) (o : Nat) : (freshPar s o).foldBy = s.foldBy := rfl
@[simp] theorem freshPar_clearing (s : State) (o : Nat) : (freshPar s o).clearing = s.clearing := rfl
@[simp] theorem freshPar_freeCtr (s : State) (o : Nat) : (freshPar s o).freeCtr = s.freeCtr := rfl
@[simp] theorem freshPar_out (s : State) (o : Nat) : (freshPar s o).out = s.out := rfl
@[simp] theorem freshPar_pending (s : State) (o : Nat) : (freshPar s o).pending = s.pending := rfl

@[simp] theorem rwPut_hwSet (s : State) (o : Nat) (v : Word) : (rwPut s o v).hwSet = s.hwSet := rfl
@[simp] theorem rwPut_parShadow (s : State) (o : Nat) (v : Word) : (rwPut s o v).parShadow = s.parShadow := rfl
@[simp] theorem rwPut_mbox (s : State) (o : Nat) (v : Word) : (rwPut s o v).mbox = s.mbox := rfl
@[simp] theorem rwPut_decks (s : State) (o : Nat) (v : Word) : (rwPut s o v).decks = s.decks := rfl
@[simp] theorem rwPut_gen (s : State) (o : Nat) (v : Word) : (rwPut s o v).gen = s.gen := rfl
@[simp] theorem rwPut_tokenCtr (s : State) (o : Nat) (v : Word) : (rwPut s o v).tokenCtr = s.tokenCtr := rfl
@[simp] theorem rwPut_activeId (s : State) (o : Nat) (v : Word) : (rwPut s o v).activeId = s.activeId := rfl
@[simp] theorem rwPut_time (s : State) (o : Nat) (v : Word) : (rwPut s o v).time = s.time := rfl
@[simp] theorem rwPut_tim (s : State) (o : Nat) (v : Word) : (rwPut s o v).tim = s.tim := rfl
@[simp] theorem rwPut_talon (s : State) (o : Nat) (v : Word) : (rwPut s o v).talon = s.talon := rfl
@[simp] theorem rwPut_dealer (s : State) (o : Nat) (v : Word) : (rwPut s o v).dealer = s.dealer := rfl
@[simp] theorem rwPut_xacts (s : State) (o : Nat) (v : Word) : (rwPut s o v).xacts = s.xacts := rfl
@[simp] theorem rwPut_seats (s : State) (o : Nat) (v : Word) : (rwPut s o v).seats = s.seats := rfl
@[simp] theorem rwPut_lanes (s : State) (o : Nat) (v : Word) : (rwPut s o v).lanes = s.lanes := rfl
@[simp] theorem rwPut_lfw (s : State) (o : Nat) (v : Word) : (rwPut s o v).lfw = s.lfw := rfl
@[simp] theorem rwPut_links (s : State) (o : Nat) (v : Word) : (rwPut s o v).links = s.links := rfl
@[simp] theorem rwPut_phys (s : State) (o : Nat) (v : Word) : (rwPut s o v).phys = s.phys := rfl
@[simp] theorem rwPut_fns (s : State) (o : Nat) (v : Word) : (rwPut s o v).fns = s.fns := rfl
@[simp] theorem rwPut_queues (s : State) (o : Nat) (v : Word) : (rwPut s o v).queues = s.queues := rfl
@[simp] theorem rwPut_cells (s : State) (o : Nat) (v : Word) : (rwPut s o v).cells = s.cells := rfl
@[simp] theorem rwPut_intr (s : State) (o : Nat) (v : Word) : (rwPut s o v).intr = s.intr := rfl
@[simp] theorem rwPut_xlt (s : State) (o : Nat) (v : Word) : (rwPut s o v).xlt = s.xlt := rfl
@[simp] theorem rwPut_crp (s : State) (o : Nat) (v : Word) : (rwPut s o v).crp = s.crp := rfl
@[simp] theorem rwPut_pwr (s : State) (o : Nat) (v : Word) : (rwPut s o v).pwr = s.pwr := rfl
@[simp] theorem rwPut_sens (s : State) (o : Nat) (v : Word) : (rwPut s o v).sens = s.sens := rfl
@[simp] theorem rwPut_store (s : State) (o : Nat) (v : Word) : (rwPut s o v).store = s.store := rfl
@[simp] theorem rwPut_lcs (s : State) (o : Nat) (v : Word) : (rwPut s o v).lcs = s.lcs := rfl
@[simp] theorem rwPut_house (s : State) (o : Nat) (v : Word) : (rwPut s o v).house = s.house := rfl
@[simp] theorem rwPut_safe (s : State) (o : Nat) (v : Word) : (rwPut s o v).safe = s.safe := rfl
@[simp] theorem rwPut_mgmt (s : State) (o : Nat) (v : Word) : (rwPut s o v).mgmt = s.mgmt := rfl
@[simp] theorem rwPut_pins (s : State) (o : Nat) (v : Word) : (rwPut s o v).pins = s.pins := rfl
@[simp] theorem rwPut_boot (s : State) (o : Nat) (v : Word) : (rwPut s o v).boot = s.boot := rfl
@[simp] theorem rwPut_trace (s : State) (o : Nat) (v : Word) : (rwPut s o v).trace = s.trace := rfl
@[simp] theorem rwPut_recs (s : State) (o : Nat) (v : Word) : (rwPut s o v).recs = s.recs := rfl
@[simp] theorem rwPut_foldFresh (s : State) (o : Nat) (v : Word) : (rwPut s o v).foldFresh = s.foldFresh := rfl
@[simp] theorem rwPut_foldBy (s : State) (o : Nat) (v : Word) : (rwPut s o v).foldBy = s.foldBy := rfl
@[simp] theorem rwPut_clearing (s : State) (o : Nat) (v : Word) : (rwPut s o v).clearing = s.clearing := rfl
@[simp] theorem rwPut_freeCtr (s : State) (o : Nat) (v : Word) : (rwPut s o v).freeCtr = s.freeCtr := rfl
@[simp] theorem rwPut_out (s : State) (o : Nat) (v : Word) : (rwPut s o v).out = s.out := rfl
@[simp] theorem rwPut_pending (s : State) (o : Nat) (v : Word) : (rwPut s o v).pending = s.pending := rfl

@[simp] theorem bump_hwSet (s : State) (o : Nat) : (bump s o).hwSet = s.hwSet := rfl
@[simp] theorem bump_parLive (s : State) (o : Nat) : (bump s o).parLive = s.parLive := rfl
@[simp] theorem bump_parShadow (s : State) (o : Nat) : (bump s o).parShadow = s.parShadow := rfl
@[simp] theorem bump_mbox (s : State) (o : Nat) : (bump s o).mbox = s.mbox := rfl
@[simp] theorem bump_decks (s : State) (o : Nat) : (bump s o).decks = s.decks := rfl
@[simp] theorem bump_gen (s : State) (o : Nat) : (bump s o).gen = s.gen := rfl
@[simp] theorem bump_tokenCtr (s : State) (o : Nat) : (bump s o).tokenCtr = s.tokenCtr := rfl
@[simp] theorem bump_activeId (s : State) (o : Nat) : (bump s o).activeId = s.activeId := rfl
@[simp] theorem bump_time (s : State) (o : Nat) : (bump s o).time = s.time := rfl
@[simp] theorem bump_tim (s : State) (o : Nat) : (bump s o).tim = s.tim := rfl
@[simp] theorem bump_talon (s : State) (o : Nat) : (bump s o).talon = s.talon := rfl
@[simp] theorem bump_dealer (s : State) (o : Nat) : (bump s o).dealer = s.dealer := rfl
@[simp] theorem bump_xacts (s : State) (o : Nat) : (bump s o).xacts = s.xacts := rfl
@[simp] theorem bump_seats (s : State) (o : Nat) : (bump s o).seats = s.seats := rfl
@[simp] theorem bump_lanes (s : State) (o : Nat) : (bump s o).lanes = s.lanes := rfl
@[simp] theorem bump_lfw (s : State) (o : Nat) : (bump s o).lfw = s.lfw := rfl
@[simp] theorem bump_links (s : State) (o : Nat) : (bump s o).links = s.links := rfl
@[simp] theorem bump_phys (s : State) (o : Nat) : (bump s o).phys = s.phys := rfl
@[simp] theorem bump_fns (s : State) (o : Nat) : (bump s o).fns = s.fns := rfl
@[simp] theorem bump_queues (s : State) (o : Nat) : (bump s o).queues = s.queues := rfl
@[simp] theorem bump_cells (s : State) (o : Nat) : (bump s o).cells = s.cells := rfl
@[simp] theorem bump_intr (s : State) (o : Nat) : (bump s o).intr = s.intr := rfl
@[simp] theorem bump_xlt (s : State) (o : Nat) : (bump s o).xlt = s.xlt := rfl
@[simp] theorem bump_crp (s : State) (o : Nat) : (bump s o).crp = s.crp := rfl
@[simp] theorem bump_pwr (s : State) (o : Nat) : (bump s o).pwr = s.pwr := rfl
@[simp] theorem bump_sens (s : State) (o : Nat) : (bump s o).sens = s.sens := rfl
@[simp] theorem bump_store (s : State) (o : Nat) : (bump s o).store = s.store := rfl
@[simp] theorem bump_lcs (s : State) (o : Nat) : (bump s o).lcs = s.lcs := rfl
@[simp] theorem bump_house (s : State) (o : Nat) : (bump s o).house = s.house := rfl
@[simp] theorem bump_safe (s : State) (o : Nat) : (bump s o).safe = s.safe := rfl
@[simp] theorem bump_mgmt (s : State) (o : Nat) : (bump s o).mgmt = s.mgmt := rfl
@[simp] theorem bump_pins (s : State) (o : Nat) : (bump s o).pins = s.pins := rfl
@[simp] theorem bump_boot (s : State) (o : Nat) : (bump s o).boot = s.boot := rfl
@[simp] theorem bump_trace (s : State) (o : Nat) : (bump s o).trace = s.trace := rfl
@[simp] theorem bump_recs (s : State) (o : Nat) : (bump s o).recs = s.recs := rfl
@[simp] theorem bump_foldFresh (s : State) (o : Nat) : (bump s o).foldFresh = s.foldFresh := rfl
@[simp] theorem bump_foldBy (s : State) (o : Nat) : (bump s o).foldBy = s.foldBy := rfl
@[simp] theorem bump_clearing (s : State) (o : Nat) : (bump s o).clearing = s.clearing := rfl
@[simp] theorem bump_freeCtr (s : State) (o : Nat) : (bump s o).freeCtr = s.freeCtr := rfl
@[simp] theorem bump_out (s : State) (o : Nat) : (bump s o).out = s.out := rfl
@[simp] theorem bump_pending (s : State) (o : Nat) : (bump s o).pending = s.pending := rfl

@[simp] theorem bumpBy_hwSet (s : State) (o n : Nat) : (bumpBy s o n).hwSet = s.hwSet := by rw [bumpBy, regPut_hwSet]
@[simp] theorem bumpBy_parLive (s : State) (o n : Nat) : (bumpBy s o n).parLive = s.parLive := by rw [bumpBy, regPut_parLive]
@[simp] theorem bumpBy_parShadow (s : State) (o n : Nat) : (bumpBy s o n).parShadow = s.parShadow := by rw [bumpBy, regPut_parShadow]
@[simp] theorem bumpBy_mbox (s : State) (o n : Nat) : (bumpBy s o n).mbox = s.mbox := by rw [bumpBy, regPut_mbox]
@[simp] theorem bumpBy_decks (s : State) (o n : Nat) : (bumpBy s o n).decks = s.decks := by rw [bumpBy, regPut_decks]
@[simp] theorem bumpBy_gen (s : State) (o n : Nat) : (bumpBy s o n).gen = s.gen := by rw [bumpBy, regPut_gen]
@[simp] theorem bumpBy_tokenCtr (s : State) (o n : Nat) : (bumpBy s o n).tokenCtr = s.tokenCtr := by rw [bumpBy, regPut_tokenCtr]
@[simp] theorem bumpBy_activeId (s : State) (o n : Nat) : (bumpBy s o n).activeId = s.activeId := by rw [bumpBy, regPut_activeId]
@[simp] theorem bumpBy_time (s : State) (o n : Nat) : (bumpBy s o n).time = s.time := by rw [bumpBy, regPut_time]
@[simp] theorem bumpBy_tim (s : State) (o n : Nat) : (bumpBy s o n).tim = s.tim := by rw [bumpBy, regPut_tim]
@[simp] theorem bumpBy_talon (s : State) (o n : Nat) : (bumpBy s o n).talon = s.talon := by rw [bumpBy, regPut_talon]
@[simp] theorem bumpBy_dealer (s : State) (o n : Nat) : (bumpBy s o n).dealer = s.dealer := by rw [bumpBy, regPut_dealer]
@[simp] theorem bumpBy_xacts (s : State) (o n : Nat) : (bumpBy s o n).xacts = s.xacts := by rw [bumpBy, regPut_xacts]
@[simp] theorem bumpBy_seats (s : State) (o n : Nat) : (bumpBy s o n).seats = s.seats := by rw [bumpBy, regPut_seats]
@[simp] theorem bumpBy_lanes (s : State) (o n : Nat) : (bumpBy s o n).lanes = s.lanes := by rw [bumpBy, regPut_lanes]
@[simp] theorem bumpBy_lfw (s : State) (o n : Nat) : (bumpBy s o n).lfw = s.lfw := by rw [bumpBy, regPut_lfw]
@[simp] theorem bumpBy_links (s : State) (o n : Nat) : (bumpBy s o n).links = s.links := by rw [bumpBy, regPut_links]
@[simp] theorem bumpBy_phys (s : State) (o n : Nat) : (bumpBy s o n).phys = s.phys := by rw [bumpBy, regPut_phys]
@[simp] theorem bumpBy_fns (s : State) (o n : Nat) : (bumpBy s o n).fns = s.fns := by rw [bumpBy, regPut_fns]
@[simp] theorem bumpBy_queues (s : State) (o n : Nat) : (bumpBy s o n).queues = s.queues := by rw [bumpBy, regPut_queues]
@[simp] theorem bumpBy_cells (s : State) (o n : Nat) : (bumpBy s o n).cells = s.cells := by rw [bumpBy, regPut_cells]
@[simp] theorem bumpBy_intr (s : State) (o n : Nat) : (bumpBy s o n).intr = s.intr := by rw [bumpBy, regPut_intr]
@[simp] theorem bumpBy_xlt (s : State) (o n : Nat) : (bumpBy s o n).xlt = s.xlt := by rw [bumpBy, regPut_xlt]
@[simp] theorem bumpBy_crp (s : State) (o n : Nat) : (bumpBy s o n).crp = s.crp := by rw [bumpBy, regPut_crp]
@[simp] theorem bumpBy_pwr (s : State) (o n : Nat) : (bumpBy s o n).pwr = s.pwr := by rw [bumpBy, regPut_pwr]
@[simp] theorem bumpBy_sens (s : State) (o n : Nat) : (bumpBy s o n).sens = s.sens := by rw [bumpBy, regPut_sens]
@[simp] theorem bumpBy_store (s : State) (o n : Nat) : (bumpBy s o n).store = s.store := by rw [bumpBy, regPut_store]
@[simp] theorem bumpBy_lcs (s : State) (o n : Nat) : (bumpBy s o n).lcs = s.lcs := by rw [bumpBy, regPut_lcs]
@[simp] theorem bumpBy_house (s : State) (o n : Nat) : (bumpBy s o n).house = s.house := by rw [bumpBy, regPut_house]
@[simp] theorem bumpBy_safe (s : State) (o n : Nat) : (bumpBy s o n).safe = s.safe := by rw [bumpBy, regPut_safe]
@[simp] theorem bumpBy_mgmt (s : State) (o n : Nat) : (bumpBy s o n).mgmt = s.mgmt := by rw [bumpBy, regPut_mgmt]
@[simp] theorem bumpBy_pins (s : State) (o n : Nat) : (bumpBy s o n).pins = s.pins := by rw [bumpBy, regPut_pins]
@[simp] theorem bumpBy_boot (s : State) (o n : Nat) : (bumpBy s o n).boot = s.boot := by rw [bumpBy, regPut_boot]
@[simp] theorem bumpBy_trace (s : State) (o n : Nat) : (bumpBy s o n).trace = s.trace := by rw [bumpBy, regPut_trace]
@[simp] theorem bumpBy_recs (s : State) (o n : Nat) : (bumpBy s o n).recs = s.recs := by rw [bumpBy, regPut_recs]
@[simp] theorem bumpBy_foldFresh (s : State) (o n : Nat) : (bumpBy s o n).foldFresh = s.foldFresh := by rw [bumpBy, regPut_foldFresh]
@[simp] theorem bumpBy_foldBy (s : State) (o n : Nat) : (bumpBy s o n).foldBy = s.foldBy := by rw [bumpBy, regPut_foldBy]
@[simp] theorem bumpBy_clearing (s : State) (o n : Nat) : (bumpBy s o n).clearing = s.clearing := by rw [bumpBy, regPut_clearing]
@[simp] theorem bumpBy_freeCtr (s : State) (o n : Nat) : (bumpBy s o n).freeCtr = s.freeCtr := by rw [bumpBy, regPut_freeCtr]
@[simp] theorem bumpBy_out (s : State) (o n : Nat) : (bumpBy s o n).out = s.out := by rw [bumpBy, regPut_out]
@[simp] theorem bumpBy_pending (s : State) (o n : Nat) : (bumpBy s o n).pending = s.pending := by rw [bumpBy, regPut_pending]

@[simp] theorem hwSetBits_parLive (s : State) (o : Nat) (m : Word) : (hwSetBits s o m).parLive = s.parLive := rfl
@[simp] theorem hwSetBits_parShadow (s : State) (o : Nat) (m : Word) : (hwSetBits s o m).parShadow = s.parShadow := rfl
@[simp] theorem hwSetBits_mbox (s : State) (o : Nat) (m : Word) : (hwSetBits s o m).mbox = s.mbox := rfl
@[simp] theorem hwSetBits_decks (s : State) (o : Nat) (m : Word) : (hwSetBits s o m).decks = s.decks := rfl
@[simp] theorem hwSetBits_gen (s : State) (o : Nat) (m : Word) : (hwSetBits s o m).gen = s.gen := rfl
@[simp] theorem hwSetBits_tokenCtr (s : State) (o : Nat) (m : Word) : (hwSetBits s o m).tokenCtr = s.tokenCtr := rfl
@[simp] theorem hwSetBits_activeId (s : State) (o : Nat) (m : Word) : (hwSetBits s o m).activeId = s.activeId := rfl
@[simp] theorem hwSetBits_time (s : State) (o : Nat) (m : Word) : (hwSetBits s o m).time = s.time := rfl
@[simp] theorem hwSetBits_tim (s : State) (o : Nat) (m : Word) : (hwSetBits s o m).tim = s.tim := rfl
@[simp] theorem hwSetBits_talon (s : State) (o : Nat) (m : Word) : (hwSetBits s o m).talon = s.talon := rfl
@[simp] theorem hwSetBits_dealer (s : State) (o : Nat) (m : Word) : (hwSetBits s o m).dealer = s.dealer := rfl
@[simp] theorem hwSetBits_xacts (s : State) (o : Nat) (m : Word) : (hwSetBits s o m).xacts = s.xacts := rfl
@[simp] theorem hwSetBits_seats (s : State) (o : Nat) (m : Word) : (hwSetBits s o m).seats = s.seats := rfl
@[simp] theorem hwSetBits_lanes (s : State) (o : Nat) (m : Word) : (hwSetBits s o m).lanes = s.lanes := rfl
@[simp] theorem hwSetBits_lfw (s : State) (o : Nat) (m : Word) : (hwSetBits s o m).lfw = s.lfw := rfl
@[simp] theorem hwSetBits_links (s : State) (o : Nat) (m : Word) : (hwSetBits s o m).links = s.links := rfl
@[simp] theorem hwSetBits_phys (s : State) (o : Nat) (m : Word) : (hwSetBits s o m).phys = s.phys := rfl
@[simp] theorem hwSetBits_fns (s : State) (o : Nat) (m : Word) : (hwSetBits s o m).fns = s.fns := rfl
@[simp] theorem hwSetBits_queues (s : State) (o : Nat) (m : Word) : (hwSetBits s o m).queues = s.queues := rfl
@[simp] theorem hwSetBits_cells (s : State) (o : Nat) (m : Word) : (hwSetBits s o m).cells = s.cells := rfl
@[simp] theorem hwSetBits_intr (s : State) (o : Nat) (m : Word) : (hwSetBits s o m).intr = s.intr := rfl
@[simp] theorem hwSetBits_xlt (s : State) (o : Nat) (m : Word) : (hwSetBits s o m).xlt = s.xlt := rfl
@[simp] theorem hwSetBits_crp (s : State) (o : Nat) (m : Word) : (hwSetBits s o m).crp = s.crp := rfl
@[simp] theorem hwSetBits_pwr (s : State) (o : Nat) (m : Word) : (hwSetBits s o m).pwr = s.pwr := rfl
@[simp] theorem hwSetBits_sens (s : State) (o : Nat) (m : Word) : (hwSetBits s o m).sens = s.sens := rfl
@[simp] theorem hwSetBits_store (s : State) (o : Nat) (m : Word) : (hwSetBits s o m).store = s.store := rfl
@[simp] theorem hwSetBits_lcs (s : State) (o : Nat) (m : Word) : (hwSetBits s o m).lcs = s.lcs := rfl
@[simp] theorem hwSetBits_house (s : State) (o : Nat) (m : Word) : (hwSetBits s o m).house = s.house := rfl
@[simp] theorem hwSetBits_safe (s : State) (o : Nat) (m : Word) : (hwSetBits s o m).safe = s.safe := rfl
@[simp] theorem hwSetBits_mgmt (s : State) (o : Nat) (m : Word) : (hwSetBits s o m).mgmt = s.mgmt := rfl
@[simp] theorem hwSetBits_pins (s : State) (o : Nat) (m : Word) : (hwSetBits s o m).pins = s.pins := rfl
@[simp] theorem hwSetBits_boot (s : State) (o : Nat) (m : Word) : (hwSetBits s o m).boot = s.boot := rfl
@[simp] theorem hwSetBits_trace (s : State) (o : Nat) (m : Word) : (hwSetBits s o m).trace = s.trace := rfl
@[simp] theorem hwSetBits_recs (s : State) (o : Nat) (m : Word) : (hwSetBits s o m).recs = s.recs := rfl
@[simp] theorem hwSetBits_foldFresh (s : State) (o : Nat) (m : Word) : (hwSetBits s o m).foldFresh = s.foldFresh := rfl
@[simp] theorem hwSetBits_foldBy (s : State) (o : Nat) (m : Word) : (hwSetBits s o m).foldBy = s.foldBy := rfl
@[simp] theorem hwSetBits_clearing (s : State) (o : Nat) (m : Word) : (hwSetBits s o m).clearing = s.clearing := rfl
@[simp] theorem hwSetBits_freeCtr (s : State) (o : Nat) (m : Word) : (hwSetBits s o m).freeCtr = s.freeCtr := rfl
@[simp] theorem hwSetBits_out (s : State) (o : Nat) (m : Word) : (hwSetBits s o m).out = s.out := rfl
@[simp] theorem hwSetBits_pending (s : State) (o : Nat) (m : Word) : (hwSetBits s o m).pending = s.pending := rfl

@[simp] theorem keepTrace_regs (s : State) (p i : Nat) : (keepTrace s p i).regs = s.regs := by simp only [keepTrace]
@[simp] theorem keepTrace_hwSet (s : State) (p i : Nat) : (keepTrace s p i).hwSet = s.hwSet := by simp only [keepTrace]
@[simp] theorem keepTrace_parLive (s : State) (p i : Nat) : (keepTrace s p i).parLive = s.parLive := by simp only [keepTrace]
@[simp] theorem keepTrace_parShadow (s : State) (p i : Nat) : (keepTrace s p i).parShadow = s.parShadow := by simp only [keepTrace]
@[simp] theorem keepTrace_mbox (s : State) (p i : Nat) : (keepTrace s p i).mbox = s.mbox := by simp only [keepTrace]
@[simp] theorem keepTrace_decks (s : State) (p i : Nat) : (keepTrace s p i).decks = s.decks := by simp only [keepTrace]
@[simp] theorem keepTrace_gen (s : State) (p i : Nat) : (keepTrace s p i).gen = s.gen := by simp only [keepTrace]
@[simp] theorem keepTrace_tokenCtr (s : State) (p i : Nat) : (keepTrace s p i).tokenCtr = s.tokenCtr := by simp only [keepTrace]
@[simp] theorem keepTrace_activeId (s : State) (p i : Nat) : (keepTrace s p i).activeId = s.activeId := by simp only [keepTrace]
@[simp] theorem keepTrace_time (s : State) (p i : Nat) : (keepTrace s p i).time = s.time := by simp only [keepTrace]
@[simp] theorem keepTrace_tim (s : State) (p i : Nat) : (keepTrace s p i).tim = s.tim := by simp only [keepTrace]
@[simp] theorem keepTrace_talon (s : State) (p i : Nat) : (keepTrace s p i).talon = s.talon := by simp only [keepTrace]
@[simp] theorem keepTrace_dealer (s : State) (p i : Nat) : (keepTrace s p i).dealer = s.dealer := by simp only [keepTrace]
@[simp] theorem keepTrace_xacts (s : State) (p i : Nat) : (keepTrace s p i).xacts = s.xacts := by simp only [keepTrace]
@[simp] theorem keepTrace_seats (s : State) (p i : Nat) : (keepTrace s p i).seats = s.seats := by simp only [keepTrace]
@[simp] theorem keepTrace_lanes (s : State) (p i : Nat) : (keepTrace s p i).lanes = s.lanes := by simp only [keepTrace]
@[simp] theorem keepTrace_lfw (s : State) (p i : Nat) : (keepTrace s p i).lfw = s.lfw := by simp only [keepTrace]
@[simp] theorem keepTrace_links (s : State) (p i : Nat) : (keepTrace s p i).links = s.links := by simp only [keepTrace]
@[simp] theorem keepTrace_phys (s : State) (p i : Nat) : (keepTrace s p i).phys = s.phys := by simp only [keepTrace]
@[simp] theorem keepTrace_fns (s : State) (p i : Nat) : (keepTrace s p i).fns = s.fns := by simp only [keepTrace]
@[simp] theorem keepTrace_queues (s : State) (p i : Nat) : (keepTrace s p i).queues = s.queues := by simp only [keepTrace]
@[simp] theorem keepTrace_cells (s : State) (p i : Nat) : (keepTrace s p i).cells = s.cells := by simp only [keepTrace]
@[simp] theorem keepTrace_intr (s : State) (p i : Nat) : (keepTrace s p i).intr = s.intr := by simp only [keepTrace]
@[simp] theorem keepTrace_xlt (s : State) (p i : Nat) : (keepTrace s p i).xlt = s.xlt := by simp only [keepTrace]
@[simp] theorem keepTrace_crp (s : State) (p i : Nat) : (keepTrace s p i).crp = s.crp := by simp only [keepTrace]
@[simp] theorem keepTrace_pwr (s : State) (p i : Nat) : (keepTrace s p i).pwr = s.pwr := by simp only [keepTrace]
@[simp] theorem keepTrace_sens (s : State) (p i : Nat) : (keepTrace s p i).sens = s.sens := by simp only [keepTrace]
@[simp] theorem keepTrace_store (s : State) (p i : Nat) : (keepTrace s p i).store = s.store := by simp only [keepTrace]
@[simp] theorem keepTrace_lcs (s : State) (p i : Nat) : (keepTrace s p i).lcs = s.lcs := by simp only [keepTrace]
@[simp] theorem keepTrace_house (s : State) (p i : Nat) : (keepTrace s p i).house = s.house := by simp only [keepTrace]
@[simp] theorem keepTrace_safe (s : State) (p i : Nat) : (keepTrace s p i).safe = s.safe := by simp only [keepTrace]
@[simp] theorem keepTrace_mgmt (s : State) (p i : Nat) : (keepTrace s p i).mgmt = s.mgmt := by simp only [keepTrace]
@[simp] theorem keepTrace_pins (s : State) (p i : Nat) : (keepTrace s p i).pins = s.pins := by simp only [keepTrace]
@[simp] theorem keepTrace_boot (s : State) (p i : Nat) : (keepTrace s p i).boot = s.boot := by simp only [keepTrace]
@[simp] theorem keepTrace_recs (s : State) (p i : Nat) : (keepTrace s p i).recs = s.recs := by simp only [keepTrace]
@[simp] theorem keepTrace_foldFresh (s : State) (p i : Nat) : (keepTrace s p i).foldFresh = s.foldFresh := by simp only [keepTrace]
@[simp] theorem keepTrace_foldBy (s : State) (p i : Nat) : (keepTrace s p i).foldBy = s.foldBy := by simp only [keepTrace]
@[simp] theorem keepTrace_clearing (s : State) (p i : Nat) : (keepTrace s p i).clearing = s.clearing := by simp only [keepTrace]
@[simp] theorem keepTrace_freeCtr (s : State) (p i : Nat) : (keepTrace s p i).freeCtr = s.freeCtr := by simp only [keepTrace]
@[simp] theorem keepTrace_out (s : State) (p i : Nat) : (keepTrace s p i).out = s.out := by simp only [keepTrace]
@[simp] theorem keepTrace_pending (s : State) (p i : Nat) : (keepTrace s p i).pending = s.pending := by simp only [keepTrace]

@[simp] theorem setEvt_parLive (s : State) (p i : Nat) : (setEvt s p i).parLive = s.parLive := by rw [setEvt, keepTrace_parLive, hwSetBits_parLive]
@[simp] theorem setEvt_parShadow (s : State) (p i : Nat) : (setEvt s p i).parShadow = s.parShadow := by rw [setEvt, keepTrace_parShadow, hwSetBits_parShadow]
@[simp] theorem setEvt_mbox (s : State) (p i : Nat) : (setEvt s p i).mbox = s.mbox := by rw [setEvt, keepTrace_mbox, hwSetBits_mbox]
@[simp] theorem setEvt_decks (s : State) (p i : Nat) : (setEvt s p i).decks = s.decks := by rw [setEvt, keepTrace_decks, hwSetBits_decks]
@[simp] theorem setEvt_gen (s : State) (p i : Nat) : (setEvt s p i).gen = s.gen := by rw [setEvt, keepTrace_gen, hwSetBits_gen]
@[simp] theorem setEvt_tokenCtr (s : State) (p i : Nat) : (setEvt s p i).tokenCtr = s.tokenCtr := by rw [setEvt, keepTrace_tokenCtr, hwSetBits_tokenCtr]
@[simp] theorem setEvt_activeId (s : State) (p i : Nat) : (setEvt s p i).activeId = s.activeId := by rw [setEvt, keepTrace_activeId, hwSetBits_activeId]
@[simp] theorem setEvt_time (s : State) (p i : Nat) : (setEvt s p i).time = s.time := by rw [setEvt, keepTrace_time, hwSetBits_time]
@[simp] theorem setEvt_tim (s : State) (p i : Nat) : (setEvt s p i).tim = s.tim := by rw [setEvt, keepTrace_tim, hwSetBits_tim]
@[simp] theorem setEvt_talon (s : State) (p i : Nat) : (setEvt s p i).talon = s.talon := by rw [setEvt, keepTrace_talon, hwSetBits_talon]
@[simp] theorem setEvt_dealer (s : State) (p i : Nat) : (setEvt s p i).dealer = s.dealer := by rw [setEvt, keepTrace_dealer, hwSetBits_dealer]
@[simp] theorem setEvt_xacts (s : State) (p i : Nat) : (setEvt s p i).xacts = s.xacts := by rw [setEvt, keepTrace_xacts, hwSetBits_xacts]
@[simp] theorem setEvt_seats (s : State) (p i : Nat) : (setEvt s p i).seats = s.seats := by rw [setEvt, keepTrace_seats, hwSetBits_seats]
@[simp] theorem setEvt_lanes (s : State) (p i : Nat) : (setEvt s p i).lanes = s.lanes := by rw [setEvt, keepTrace_lanes, hwSetBits_lanes]
@[simp] theorem setEvt_lfw (s : State) (p i : Nat) : (setEvt s p i).lfw = s.lfw := by rw [setEvt, keepTrace_lfw, hwSetBits_lfw]
@[simp] theorem setEvt_links (s : State) (p i : Nat) : (setEvt s p i).links = s.links := by rw [setEvt, keepTrace_links, hwSetBits_links]
@[simp] theorem setEvt_phys (s : State) (p i : Nat) : (setEvt s p i).phys = s.phys := by rw [setEvt, keepTrace_phys, hwSetBits_phys]
@[simp] theorem setEvt_fns (s : State) (p i : Nat) : (setEvt s p i).fns = s.fns := by rw [setEvt, keepTrace_fns, hwSetBits_fns]
@[simp] theorem setEvt_queues (s : State) (p i : Nat) : (setEvt s p i).queues = s.queues := by rw [setEvt, keepTrace_queues, hwSetBits_queues]
@[simp] theorem setEvt_cells (s : State) (p i : Nat) : (setEvt s p i).cells = s.cells := by rw [setEvt, keepTrace_cells, hwSetBits_cells]
@[simp] theorem setEvt_intr (s : State) (p i : Nat) : (setEvt s p i).intr = s.intr := by rw [setEvt, keepTrace_intr, hwSetBits_intr]
@[simp] theorem setEvt_xlt (s : State) (p i : Nat) : (setEvt s p i).xlt = s.xlt := by rw [setEvt, keepTrace_xlt, hwSetBits_xlt]
@[simp] theorem setEvt_crp (s : State) (p i : Nat) : (setEvt s p i).crp = s.crp := by rw [setEvt, keepTrace_crp, hwSetBits_crp]
@[simp] theorem setEvt_pwr (s : State) (p i : Nat) : (setEvt s p i).pwr = s.pwr := by rw [setEvt, keepTrace_pwr, hwSetBits_pwr]
@[simp] theorem setEvt_sens (s : State) (p i : Nat) : (setEvt s p i).sens = s.sens := by rw [setEvt, keepTrace_sens, hwSetBits_sens]
@[simp] theorem setEvt_store (s : State) (p i : Nat) : (setEvt s p i).store = s.store := by rw [setEvt, keepTrace_store, hwSetBits_store]
@[simp] theorem setEvt_lcs (s : State) (p i : Nat) : (setEvt s p i).lcs = s.lcs := by rw [setEvt, keepTrace_lcs, hwSetBits_lcs]
@[simp] theorem setEvt_house (s : State) (p i : Nat) : (setEvt s p i).house = s.house := by rw [setEvt, keepTrace_house, hwSetBits_house]
@[simp] theorem setEvt_safe (s : State) (p i : Nat) : (setEvt s p i).safe = s.safe := by rw [setEvt, keepTrace_safe, hwSetBits_safe]
@[simp] theorem setEvt_mgmt (s : State) (p i : Nat) : (setEvt s p i).mgmt = s.mgmt := by rw [setEvt, keepTrace_mgmt, hwSetBits_mgmt]
@[simp] theorem setEvt_pins (s : State) (p i : Nat) : (setEvt s p i).pins = s.pins := by rw [setEvt, keepTrace_pins, hwSetBits_pins]
@[simp] theorem setEvt_boot (s : State) (p i : Nat) : (setEvt s p i).boot = s.boot := by rw [setEvt, keepTrace_boot, hwSetBits_boot]
@[simp] theorem setEvt_recs (s : State) (p i : Nat) : (setEvt s p i).recs = s.recs := by rw [setEvt, keepTrace_recs, hwSetBits_recs]
@[simp] theorem setEvt_foldFresh (s : State) (p i : Nat) : (setEvt s p i).foldFresh = s.foldFresh := by rw [setEvt, keepTrace_foldFresh, hwSetBits_foldFresh]
@[simp] theorem setEvt_foldBy (s : State) (p i : Nat) : (setEvt s p i).foldBy = s.foldBy := by rw [setEvt, keepTrace_foldBy, hwSetBits_foldBy]
@[simp] theorem setEvt_clearing (s : State) (p i : Nat) : (setEvt s p i).clearing = s.clearing := by rw [setEvt, keepTrace_clearing, hwSetBits_clearing]
@[simp] theorem setEvt_freeCtr (s : State) (p i : Nat) : (setEvt s p i).freeCtr = s.freeCtr := by rw [setEvt, keepTrace_freeCtr, hwSetBits_freeCtr]
@[simp] theorem setEvt_out (s : State) (p i : Nat) : (setEvt s p i).out = s.out := by rw [setEvt, keepTrace_out, hwSetBits_out]
@[simp] theorem setEvt_pending (s : State) (p i : Nat) : (setEvt s p i).pending = s.pending := by rw [setEvt, keepTrace_pending, hwSetBits_pending]

@[simp] theorem setErrBit_parLive (s : State) (p i : Nat) : (setErrBit s p i).parLive = s.parLive := by rw [setErrBit, keepTrace_parLive, hwSetBits_parLive]
@[simp] theorem setErrBit_parShadow (s : State) (p i : Nat) : (setErrBit s p i).parShadow = s.parShadow := by rw [setErrBit, keepTrace_parShadow, hwSetBits_parShadow]
@[simp] theorem setErrBit_mbox (s : State) (p i : Nat) : (setErrBit s p i).mbox = s.mbox := by rw [setErrBit, keepTrace_mbox, hwSetBits_mbox]
@[simp] theorem setErrBit_decks (s : State) (p i : Nat) : (setErrBit s p i).decks = s.decks := by rw [setErrBit, keepTrace_decks, hwSetBits_decks]
@[simp] theorem setErrBit_gen (s : State) (p i : Nat) : (setErrBit s p i).gen = s.gen := by rw [setErrBit, keepTrace_gen, hwSetBits_gen]
@[simp] theorem setErrBit_tokenCtr (s : State) (p i : Nat) : (setErrBit s p i).tokenCtr = s.tokenCtr := by rw [setErrBit, keepTrace_tokenCtr, hwSetBits_tokenCtr]
@[simp] theorem setErrBit_activeId (s : State) (p i : Nat) : (setErrBit s p i).activeId = s.activeId := by rw [setErrBit, keepTrace_activeId, hwSetBits_activeId]
@[simp] theorem setErrBit_time (s : State) (p i : Nat) : (setErrBit s p i).time = s.time := by rw [setErrBit, keepTrace_time, hwSetBits_time]
@[simp] theorem setErrBit_tim (s : State) (p i : Nat) : (setErrBit s p i).tim = s.tim := by rw [setErrBit, keepTrace_tim, hwSetBits_tim]
@[simp] theorem setErrBit_talon (s : State) (p i : Nat) : (setErrBit s p i).talon = s.talon := by rw [setErrBit, keepTrace_talon, hwSetBits_talon]
@[simp] theorem setErrBit_dealer (s : State) (p i : Nat) : (setErrBit s p i).dealer = s.dealer := by rw [setErrBit, keepTrace_dealer, hwSetBits_dealer]
@[simp] theorem setErrBit_xacts (s : State) (p i : Nat) : (setErrBit s p i).xacts = s.xacts := by rw [setErrBit, keepTrace_xacts, hwSetBits_xacts]
@[simp] theorem setErrBit_seats (s : State) (p i : Nat) : (setErrBit s p i).seats = s.seats := by rw [setErrBit, keepTrace_seats, hwSetBits_seats]
@[simp] theorem setErrBit_lanes (s : State) (p i : Nat) : (setErrBit s p i).lanes = s.lanes := by rw [setErrBit, keepTrace_lanes, hwSetBits_lanes]
@[simp] theorem setErrBit_lfw (s : State) (p i : Nat) : (setErrBit s p i).lfw = s.lfw := by rw [setErrBit, keepTrace_lfw, hwSetBits_lfw]
@[simp] theorem setErrBit_links (s : State) (p i : Nat) : (setErrBit s p i).links = s.links := by rw [setErrBit, keepTrace_links, hwSetBits_links]
@[simp] theorem setErrBit_phys (s : State) (p i : Nat) : (setErrBit s p i).phys = s.phys := by rw [setErrBit, keepTrace_phys, hwSetBits_phys]
@[simp] theorem setErrBit_fns (s : State) (p i : Nat) : (setErrBit s p i).fns = s.fns := by rw [setErrBit, keepTrace_fns, hwSetBits_fns]
@[simp] theorem setErrBit_queues (s : State) (p i : Nat) : (setErrBit s p i).queues = s.queues := by rw [setErrBit, keepTrace_queues, hwSetBits_queues]
@[simp] theorem setErrBit_cells (s : State) (p i : Nat) : (setErrBit s p i).cells = s.cells := by rw [setErrBit, keepTrace_cells, hwSetBits_cells]
@[simp] theorem setErrBit_intr (s : State) (p i : Nat) : (setErrBit s p i).intr = s.intr := by rw [setErrBit, keepTrace_intr, hwSetBits_intr]
@[simp] theorem setErrBit_xlt (s : State) (p i : Nat) : (setErrBit s p i).xlt = s.xlt := by rw [setErrBit, keepTrace_xlt, hwSetBits_xlt]
@[simp] theorem setErrBit_crp (s : State) (p i : Nat) : (setErrBit s p i).crp = s.crp := by rw [setErrBit, keepTrace_crp, hwSetBits_crp]
@[simp] theorem setErrBit_pwr (s : State) (p i : Nat) : (setErrBit s p i).pwr = s.pwr := by rw [setErrBit, keepTrace_pwr, hwSetBits_pwr]
@[simp] theorem setErrBit_sens (s : State) (p i : Nat) : (setErrBit s p i).sens = s.sens := by rw [setErrBit, keepTrace_sens, hwSetBits_sens]
@[simp] theorem setErrBit_store (s : State) (p i : Nat) : (setErrBit s p i).store = s.store := by rw [setErrBit, keepTrace_store, hwSetBits_store]
@[simp] theorem setErrBit_lcs (s : State) (p i : Nat) : (setErrBit s p i).lcs = s.lcs := by rw [setErrBit, keepTrace_lcs, hwSetBits_lcs]
@[simp] theorem setErrBit_house (s : State) (p i : Nat) : (setErrBit s p i).house = s.house := by rw [setErrBit, keepTrace_house, hwSetBits_house]
@[simp] theorem setErrBit_safe (s : State) (p i : Nat) : (setErrBit s p i).safe = s.safe := by rw [setErrBit, keepTrace_safe, hwSetBits_safe]
@[simp] theorem setErrBit_mgmt (s : State) (p i : Nat) : (setErrBit s p i).mgmt = s.mgmt := by rw [setErrBit, keepTrace_mgmt, hwSetBits_mgmt]
@[simp] theorem setErrBit_pins (s : State) (p i : Nat) : (setErrBit s p i).pins = s.pins := by rw [setErrBit, keepTrace_pins, hwSetBits_pins]
@[simp] theorem setErrBit_boot (s : State) (p i : Nat) : (setErrBit s p i).boot = s.boot := by rw [setErrBit, keepTrace_boot, hwSetBits_boot]
@[simp] theorem setErrBit_recs (s : State) (p i : Nat) : (setErrBit s p i).recs = s.recs := by rw [setErrBit, keepTrace_recs, hwSetBits_recs]
@[simp] theorem setErrBit_foldFresh (s : State) (p i : Nat) : (setErrBit s p i).foldFresh = s.foldFresh := by rw [setErrBit, keepTrace_foldFresh, hwSetBits_foldFresh]
@[simp] theorem setErrBit_foldBy (s : State) (p i : Nat) : (setErrBit s p i).foldBy = s.foldBy := by rw [setErrBit, keepTrace_foldBy, hwSetBits_foldBy]
@[simp] theorem setErrBit_clearing (s : State) (p i : Nat) : (setErrBit s p i).clearing = s.clearing := by rw [setErrBit, keepTrace_clearing, hwSetBits_clearing]
@[simp] theorem setErrBit_freeCtr (s : State) (p i : Nat) : (setErrBit s p i).freeCtr = s.freeCtr := by rw [setErrBit, keepTrace_freeCtr, hwSetBits_freeCtr]
@[simp] theorem setErrBit_out (s : State) (p i : Nat) : (setErrBit s p i).out = s.out := by rw [setErrBit, keepTrace_out, hwSetBits_out]
@[simp] theorem setErrBit_pending (s : State) (p i : Nat) : (setErrBit s p i).pending = s.pending := by rw [setErrBit, keepTrace_pending, hwSetBits_pending]

@[simp] theorem emit_regs (s : State) (e : Emit) : (emit s e).regs = s.regs := rfl
@[simp] theorem emit_hwSet (s : State) (e : Emit) : (emit s e).hwSet = s.hwSet := rfl
@[simp] theorem emit_parLive (s : State) (e : Emit) : (emit s e).parLive = s.parLive := rfl
@[simp] theorem emit_parShadow (s : State) (e : Emit) : (emit s e).parShadow = s.parShadow := rfl
@[simp] theorem emit_mbox (s : State) (e : Emit) : (emit s e).mbox = s.mbox := rfl
@[simp] theorem emit_decks (s : State) (e : Emit) : (emit s e).decks = s.decks := rfl
@[simp] theorem emit_gen (s : State) (e : Emit) : (emit s e).gen = s.gen := rfl
@[simp] theorem emit_tokenCtr (s : State) (e : Emit) : (emit s e).tokenCtr = s.tokenCtr := rfl
@[simp] theorem emit_activeId (s : State) (e : Emit) : (emit s e).activeId = s.activeId := rfl
@[simp] theorem emit_time (s : State) (e : Emit) : (emit s e).time = s.time := rfl
@[simp] theorem emit_tim (s : State) (e : Emit) : (emit s e).tim = s.tim := rfl
@[simp] theorem emit_talon (s : State) (e : Emit) : (emit s e).talon = s.talon := rfl
@[simp] theorem emit_dealer (s : State) (e : Emit) : (emit s e).dealer = s.dealer := rfl
@[simp] theorem emit_xacts (s : State) (e : Emit) : (emit s e).xacts = s.xacts := rfl
@[simp] theorem emit_seats (s : State) (e : Emit) : (emit s e).seats = s.seats := rfl
@[simp] theorem emit_lanes (s : State) (e : Emit) : (emit s e).lanes = s.lanes := rfl
@[simp] theorem emit_lfw (s : State) (e : Emit) : (emit s e).lfw = s.lfw := rfl
@[simp] theorem emit_links (s : State) (e : Emit) : (emit s e).links = s.links := rfl
@[simp] theorem emit_phys (s : State) (e : Emit) : (emit s e).phys = s.phys := rfl
@[simp] theorem emit_fns (s : State) (e : Emit) : (emit s e).fns = s.fns := rfl
@[simp] theorem emit_queues (s : State) (e : Emit) : (emit s e).queues = s.queues := rfl
@[simp] theorem emit_cells (s : State) (e : Emit) : (emit s e).cells = s.cells := rfl
@[simp] theorem emit_intr (s : State) (e : Emit) : (emit s e).intr = s.intr := rfl
@[simp] theorem emit_xlt (s : State) (e : Emit) : (emit s e).xlt = s.xlt := rfl
@[simp] theorem emit_crp (s : State) (e : Emit) : (emit s e).crp = s.crp := rfl
@[simp] theorem emit_pwr (s : State) (e : Emit) : (emit s e).pwr = s.pwr := rfl
@[simp] theorem emit_sens (s : State) (e : Emit) : (emit s e).sens = s.sens := rfl
@[simp] theorem emit_store (s : State) (e : Emit) : (emit s e).store = s.store := rfl
@[simp] theorem emit_lcs (s : State) (e : Emit) : (emit s e).lcs = s.lcs := rfl
@[simp] theorem emit_house (s : State) (e : Emit) : (emit s e).house = s.house := rfl
@[simp] theorem emit_safe (s : State) (e : Emit) : (emit s e).safe = s.safe := rfl
@[simp] theorem emit_mgmt (s : State) (e : Emit) : (emit s e).mgmt = s.mgmt := rfl
@[simp] theorem emit_pins (s : State) (e : Emit) : (emit s e).pins = s.pins := rfl
@[simp] theorem emit_boot (s : State) (e : Emit) : (emit s e).boot = s.boot := rfl
@[simp] theorem emit_trace (s : State) (e : Emit) : (emit s e).trace = s.trace := rfl
@[simp] theorem emit_recs (s : State) (e : Emit) : (emit s e).recs = s.recs := rfl
@[simp] theorem emit_foldFresh (s : State) (e : Emit) : (emit s e).foldFresh = s.foldFresh := rfl
@[simp] theorem emit_foldBy (s : State) (e : Emit) : (emit s e).foldBy = s.foldBy := rfl
@[simp] theorem emit_clearing (s : State) (e : Emit) : (emit s e).clearing = s.clearing := rfl
@[simp] theorem emit_freeCtr (s : State) (e : Emit) : (emit s e).freeCtr = s.freeCtr := rfl
@[simp] theorem emit_pending (s : State) (e : Emit) : (emit s e).pending = s.pending := rfl

@[simp] theorem tally_regs (s : State) (k i n : Nat) : (tally s k i n).regs = s.regs := rfl
@[simp] theorem tally_hwSet (s : State) (k i n : Nat) : (tally s k i n).hwSet = s.hwSet := rfl
@[simp] theorem tally_parLive (s : State) (k i n : Nat) : (tally s k i n).parLive = s.parLive := rfl
@[simp] theorem tally_parShadow (s : State) (k i n : Nat) : (tally s k i n).parShadow = s.parShadow := rfl
@[simp] theorem tally_mbox (s : State) (k i n : Nat) : (tally s k i n).mbox = s.mbox := rfl
@[simp] theorem tally_decks (s : State) (k i n : Nat) : (tally s k i n).decks = s.decks := rfl
@[simp] theorem tally_gen (s : State) (k i n : Nat) : (tally s k i n).gen = s.gen := rfl
@[simp] theorem tally_tokenCtr (s : State) (k i n : Nat) : (tally s k i n).tokenCtr = s.tokenCtr := rfl
@[simp] theorem tally_activeId (s : State) (k i n : Nat) : (tally s k i n).activeId = s.activeId := rfl
@[simp] theorem tally_time (s : State) (k i n : Nat) : (tally s k i n).time = s.time := rfl
@[simp] theorem tally_tim (s : State) (k i n : Nat) : (tally s k i n).tim = s.tim := rfl
@[simp] theorem tally_talon (s : State) (k i n : Nat) : (tally s k i n).talon = s.talon := rfl
@[simp] theorem tally_dealer (s : State) (k i n : Nat) : (tally s k i n).dealer = s.dealer := rfl
@[simp] theorem tally_xacts (s : State) (k i n : Nat) : (tally s k i n).xacts = s.xacts := rfl
@[simp] theorem tally_seats (s : State) (k i n : Nat) : (tally s k i n).seats = s.seats := rfl
@[simp] theorem tally_lanes (s : State) (k i n : Nat) : (tally s k i n).lanes = s.lanes := rfl
@[simp] theorem tally_lfw (s : State) (k i n : Nat) : (tally s k i n).lfw = s.lfw := rfl
@[simp] theorem tally_links (s : State) (k i n : Nat) : (tally s k i n).links = s.links := rfl
@[simp] theorem tally_phys (s : State) (k i n : Nat) : (tally s k i n).phys = s.phys := rfl
@[simp] theorem tally_fns (s : State) (k i n : Nat) : (tally s k i n).fns = s.fns := rfl
@[simp] theorem tally_queues (s : State) (k i n : Nat) : (tally s k i n).queues = s.queues := rfl
@[simp] theorem tally_cells (s : State) (k i n : Nat) : (tally s k i n).cells = s.cells := rfl
@[simp] theorem tally_intr (s : State) (k i n : Nat) : (tally s k i n).intr = s.intr := rfl
@[simp] theorem tally_xlt (s : State) (k i n : Nat) : (tally s k i n).xlt = s.xlt := rfl
@[simp] theorem tally_pwr (s : State) (k i n : Nat) : (tally s k i n).pwr = s.pwr := rfl
@[simp] theorem tally_sens (s : State) (k i n : Nat) : (tally s k i n).sens = s.sens := rfl
@[simp] theorem tally_store (s : State) (k i n : Nat) : (tally s k i n).store = s.store := rfl
@[simp] theorem tally_lcs (s : State) (k i n : Nat) : (tally s k i n).lcs = s.lcs := rfl
@[simp] theorem tally_house (s : State) (k i n : Nat) : (tally s k i n).house = s.house := rfl
@[simp] theorem tally_safe (s : State) (k i n : Nat) : (tally s k i n).safe = s.safe := rfl
@[simp] theorem tally_mgmt (s : State) (k i n : Nat) : (tally s k i n).mgmt = s.mgmt := rfl
@[simp] theorem tally_pins (s : State) (k i n : Nat) : (tally s k i n).pins = s.pins := rfl
@[simp] theorem tally_boot (s : State) (k i n : Nat) : (tally s k i n).boot = s.boot := rfl
@[simp] theorem tally_trace (s : State) (k i n : Nat) : (tally s k i n).trace = s.trace := rfl
@[simp] theorem tally_recs (s : State) (k i n : Nat) : (tally s k i n).recs = s.recs := rfl
@[simp] theorem tally_foldFresh (s : State) (k i n : Nat) : (tally s k i n).foldFresh = s.foldFresh := rfl
@[simp] theorem tally_foldBy (s : State) (k i n : Nat) : (tally s k i n).foldBy = s.foldBy := rfl
@[simp] theorem tally_clearing (s : State) (k i n : Nat) : (tally s k i n).clearing = s.clearing := rfl
@[simp] theorem tally_freeCtr (s : State) (k i n : Nat) : (tally s k i n).freeCtr = s.freeCtr := rfl
@[simp] theorem tally_out (s : State) (k i n : Nat) : (tally s k i n).out = s.out := rfl
@[simp] theorem tally_pending (s : State) (k i n : Nat) : (tally s k i n).pending = s.pending := rfl

@[simp] theorem rxTlp_regs (s : State) (n : Nat) : (rxTlp s n).regs = s.regs := rfl
@[simp] theorem rxTlp_hwSet (s : State) (n : Nat) : (rxTlp s n).hwSet = s.hwSet := rfl
@[simp] theorem rxTlp_parLive (s : State) (n : Nat) : (rxTlp s n).parLive = s.parLive := rfl
@[simp] theorem rxTlp_parShadow (s : State) (n : Nat) : (rxTlp s n).parShadow = s.parShadow := rfl
@[simp] theorem rxTlp_mbox (s : State) (n : Nat) : (rxTlp s n).mbox = s.mbox := rfl
@[simp] theorem rxTlp_decks (s : State) (n : Nat) : (rxTlp s n).decks = s.decks := rfl
@[simp] theorem rxTlp_gen (s : State) (n : Nat) : (rxTlp s n).gen = s.gen := rfl
@[simp] theorem rxTlp_tokenCtr (s : State) (n : Nat) : (rxTlp s n).tokenCtr = s.tokenCtr := rfl
@[simp] theorem rxTlp_activeId (s : State) (n : Nat) : (rxTlp s n).activeId = s.activeId := rfl
@[simp] theorem rxTlp_time (s : State) (n : Nat) : (rxTlp s n).time = s.time := rfl
@[simp] theorem rxTlp_tim (s : State) (n : Nat) : (rxTlp s n).tim = s.tim := rfl
@[simp] theorem rxTlp_talon (s : State) (n : Nat) : (rxTlp s n).talon = s.talon := rfl
@[simp] theorem rxTlp_dealer (s : State) (n : Nat) : (rxTlp s n).dealer = s.dealer := rfl
@[simp] theorem rxTlp_xacts (s : State) (n : Nat) : (rxTlp s n).xacts = s.xacts := rfl
@[simp] theorem rxTlp_seats (s : State) (n : Nat) : (rxTlp s n).seats = s.seats := rfl
@[simp] theorem rxTlp_lanes (s : State) (n : Nat) : (rxTlp s n).lanes = s.lanes := rfl
@[simp] theorem rxTlp_lfw (s : State) (n : Nat) : (rxTlp s n).lfw = s.lfw := rfl
@[simp] theorem rxTlp_links (s : State) (n : Nat) : (rxTlp s n).links = s.links := rfl
@[simp] theorem rxTlp_phys (s : State) (n : Nat) : (rxTlp s n).phys = s.phys := rfl
@[simp] theorem rxTlp_fns (s : State) (n : Nat) : (rxTlp s n).fns = s.fns := rfl
@[simp] theorem rxTlp_queues (s : State) (n : Nat) : (rxTlp s n).queues = s.queues := rfl
@[simp] theorem rxTlp_cells (s : State) (n : Nat) : (rxTlp s n).cells = s.cells := rfl
@[simp] theorem rxTlp_intr (s : State) (n : Nat) : (rxTlp s n).intr = s.intr := rfl
@[simp] theorem rxTlp_xlt (s : State) (n : Nat) : (rxTlp s n).xlt = s.xlt := rfl
@[simp] theorem rxTlp_crp (s : State) (n : Nat) : (rxTlp s n).crp = s.crp := rfl
@[simp] theorem rxTlp_sens (s : State) (n : Nat) : (rxTlp s n).sens = s.sens := rfl
@[simp] theorem rxTlp_store (s : State) (n : Nat) : (rxTlp s n).store = s.store := rfl
@[simp] theorem rxTlp_lcs (s : State) (n : Nat) : (rxTlp s n).lcs = s.lcs := rfl
@[simp] theorem rxTlp_house (s : State) (n : Nat) : (rxTlp s n).house = s.house := rfl
@[simp] theorem rxTlp_safe (s : State) (n : Nat) : (rxTlp s n).safe = s.safe := rfl
@[simp] theorem rxTlp_mgmt (s : State) (n : Nat) : (rxTlp s n).mgmt = s.mgmt := rfl
@[simp] theorem rxTlp_pins (s : State) (n : Nat) : (rxTlp s n).pins = s.pins := rfl
@[simp] theorem rxTlp_boot (s : State) (n : Nat) : (rxTlp s n).boot = s.boot := rfl
@[simp] theorem rxTlp_trace (s : State) (n : Nat) : (rxTlp s n).trace = s.trace := rfl
@[simp] theorem rxTlp_recs (s : State) (n : Nat) : (rxTlp s n).recs = s.recs := rfl
@[simp] theorem rxTlp_foldFresh (s : State) (n : Nat) : (rxTlp s n).foldFresh = s.foldFresh := rfl
@[simp] theorem rxTlp_foldBy (s : State) (n : Nat) : (rxTlp s n).foldBy = s.foldBy := rfl
@[simp] theorem rxTlp_clearing (s : State) (n : Nat) : (rxTlp s n).clearing = s.clearing := rfl
@[simp] theorem rxTlp_freeCtr (s : State) (n : Nat) : (rxTlp s n).freeCtr = s.freeCtr := rfl
@[simp] theorem rxTlp_out (s : State) (n : Nat) : (rxTlp s n).out = s.out := rfl
@[simp] theorem rxTlp_pending (s : State) (n : Nat) : (rxTlp s n).pending = s.pending := rfl

@[simp] theorem seatMod_regs (s : State) (n : Nat) (g : Seat → Seat) : (seatMod s n g).regs = s.regs := rfl
@[simp] theorem seatMod_hwSet (s : State) (n : Nat) (g : Seat → Seat) : (seatMod s n g).hwSet = s.hwSet := rfl
@[simp] theorem seatMod_parLive (s : State) (n : Nat) (g : Seat → Seat) : (seatMod s n g).parLive = s.parLive := rfl
@[simp] theorem seatMod_parShadow (s : State) (n : Nat) (g : Seat → Seat) : (seatMod s n g).parShadow = s.parShadow := rfl
@[simp] theorem seatMod_mbox (s : State) (n : Nat) (g : Seat → Seat) : (seatMod s n g).mbox = s.mbox := rfl
@[simp] theorem seatMod_decks (s : State) (n : Nat) (g : Seat → Seat) : (seatMod s n g).decks = s.decks := rfl
@[simp] theorem seatMod_gen (s : State) (n : Nat) (g : Seat → Seat) : (seatMod s n g).gen = s.gen := rfl
@[simp] theorem seatMod_tokenCtr (s : State) (n : Nat) (g : Seat → Seat) : (seatMod s n g).tokenCtr = s.tokenCtr := rfl
@[simp] theorem seatMod_activeId (s : State) (n : Nat) (g : Seat → Seat) : (seatMod s n g).activeId = s.activeId := rfl
@[simp] theorem seatMod_time (s : State) (n : Nat) (g : Seat → Seat) : (seatMod s n g).time = s.time := rfl
@[simp] theorem seatMod_tim (s : State) (n : Nat) (g : Seat → Seat) : (seatMod s n g).tim = s.tim := rfl
@[simp] theorem seatMod_talon (s : State) (n : Nat) (g : Seat → Seat) : (seatMod s n g).talon = s.talon := rfl
@[simp] theorem seatMod_dealer (s : State) (n : Nat) (g : Seat → Seat) : (seatMod s n g).dealer = s.dealer := rfl
@[simp] theorem seatMod_xacts (s : State) (n : Nat) (g : Seat → Seat) : (seatMod s n g).xacts = s.xacts := rfl
@[simp] theorem seatMod_lanes (s : State) (n : Nat) (g : Seat → Seat) : (seatMod s n g).lanes = s.lanes := rfl
@[simp] theorem seatMod_lfw (s : State) (n : Nat) (g : Seat → Seat) : (seatMod s n g).lfw = s.lfw := rfl
@[simp] theorem seatMod_links (s : State) (n : Nat) (g : Seat → Seat) : (seatMod s n g).links = s.links := rfl
@[simp] theorem seatMod_phys (s : State) (n : Nat) (g : Seat → Seat) : (seatMod s n g).phys = s.phys := rfl
@[simp] theorem seatMod_fns (s : State) (n : Nat) (g : Seat → Seat) : (seatMod s n g).fns = s.fns := rfl
@[simp] theorem seatMod_queues (s : State) (n : Nat) (g : Seat → Seat) : (seatMod s n g).queues = s.queues := rfl
@[simp] theorem seatMod_cells (s : State) (n : Nat) (g : Seat → Seat) : (seatMod s n g).cells = s.cells := rfl
@[simp] theorem seatMod_intr (s : State) (n : Nat) (g : Seat → Seat) : (seatMod s n g).intr = s.intr := rfl
@[simp] theorem seatMod_xlt (s : State) (n : Nat) (g : Seat → Seat) : (seatMod s n g).xlt = s.xlt := rfl
@[simp] theorem seatMod_crp (s : State) (n : Nat) (g : Seat → Seat) : (seatMod s n g).crp = s.crp := rfl
@[simp] theorem seatMod_pwr (s : State) (n : Nat) (g : Seat → Seat) : (seatMod s n g).pwr = s.pwr := rfl
@[simp] theorem seatMod_sens (s : State) (n : Nat) (g : Seat → Seat) : (seatMod s n g).sens = s.sens := rfl
@[simp] theorem seatMod_store (s : State) (n : Nat) (g : Seat → Seat) : (seatMod s n g).store = s.store := rfl
@[simp] theorem seatMod_lcs (s : State) (n : Nat) (g : Seat → Seat) : (seatMod s n g).lcs = s.lcs := rfl
@[simp] theorem seatMod_house (s : State) (n : Nat) (g : Seat → Seat) : (seatMod s n g).house = s.house := rfl
@[simp] theorem seatMod_safe (s : State) (n : Nat) (g : Seat → Seat) : (seatMod s n g).safe = s.safe := rfl
@[simp] theorem seatMod_mgmt (s : State) (n : Nat) (g : Seat → Seat) : (seatMod s n g).mgmt = s.mgmt := rfl
@[simp] theorem seatMod_pins (s : State) (n : Nat) (g : Seat → Seat) : (seatMod s n g).pins = s.pins := rfl
@[simp] theorem seatMod_boot (s : State) (n : Nat) (g : Seat → Seat) : (seatMod s n g).boot = s.boot := rfl
@[simp] theorem seatMod_trace (s : State) (n : Nat) (g : Seat → Seat) : (seatMod s n g).trace = s.trace := rfl
@[simp] theorem seatMod_recs (s : State) (n : Nat) (g : Seat → Seat) : (seatMod s n g).recs = s.recs := rfl
@[simp] theorem seatMod_foldFresh (s : State) (n : Nat) (g : Seat → Seat) : (seatMod s n g).foldFresh = s.foldFresh := rfl
@[simp] theorem seatMod_foldBy (s : State) (n : Nat) (g : Seat → Seat) : (seatMod s n g).foldBy = s.foldBy := rfl
@[simp] theorem seatMod_clearing (s : State) (n : Nat) (g : Seat → Seat) : (seatMod s n g).clearing = s.clearing := rfl
@[simp] theorem seatMod_freeCtr (s : State) (n : Nat) (g : Seat → Seat) : (seatMod s n g).freeCtr = s.freeCtr := rfl
@[simp] theorem seatMod_out (s : State) (n : Nat) (g : Seat → Seat) : (seatMod s n g).out = s.out := rfl
@[simp] theorem seatMod_pending (s : State) (n : Nat) (g : Seat → Seat) : (seatMod s n g).pending = s.pending := rfl

@[simp] theorem linkTxMod_regs (s : State) (n : Nat) (g : LinkTx → LinkTx) : (linkTxMod s n g).regs = s.regs := rfl
@[simp] theorem linkTxMod_hwSet (s : State) (n : Nat) (g : LinkTx → LinkTx) : (linkTxMod s n g).hwSet = s.hwSet := rfl
@[simp] theorem linkTxMod_parLive (s : State) (n : Nat) (g : LinkTx → LinkTx) : (linkTxMod s n g).parLive = s.parLive := rfl
@[simp] theorem linkTxMod_parShadow (s : State) (n : Nat) (g : LinkTx → LinkTx) : (linkTxMod s n g).parShadow = s.parShadow := rfl
@[simp] theorem linkTxMod_mbox (s : State) (n : Nat) (g : LinkTx → LinkTx) : (linkTxMod s n g).mbox = s.mbox := rfl
@[simp] theorem linkTxMod_decks (s : State) (n : Nat) (g : LinkTx → LinkTx) : (linkTxMod s n g).decks = s.decks := rfl
@[simp] theorem linkTxMod_gen (s : State) (n : Nat) (g : LinkTx → LinkTx) : (linkTxMod s n g).gen = s.gen := rfl
@[simp] theorem linkTxMod_tokenCtr (s : State) (n : Nat) (g : LinkTx → LinkTx) : (linkTxMod s n g).tokenCtr = s.tokenCtr := rfl
@[simp] theorem linkTxMod_activeId (s : State) (n : Nat) (g : LinkTx → LinkTx) : (linkTxMod s n g).activeId = s.activeId := rfl
@[simp] theorem linkTxMod_time (s : State) (n : Nat) (g : LinkTx → LinkTx) : (linkTxMod s n g).time = s.time := rfl
@[simp] theorem linkTxMod_tim (s : State) (n : Nat) (g : LinkTx → LinkTx) : (linkTxMod s n g).tim = s.tim := rfl
@[simp] theorem linkTxMod_talon (s : State) (n : Nat) (g : LinkTx → LinkTx) : (linkTxMod s n g).talon = s.talon := rfl
@[simp] theorem linkTxMod_dealer (s : State) (n : Nat) (g : LinkTx → LinkTx) : (linkTxMod s n g).dealer = s.dealer := rfl
@[simp] theorem linkTxMod_xacts (s : State) (n : Nat) (g : LinkTx → LinkTx) : (linkTxMod s n g).xacts = s.xacts := rfl
@[simp] theorem linkTxMod_seats (s : State) (n : Nat) (g : LinkTx → LinkTx) : (linkTxMod s n g).seats = s.seats := rfl
@[simp] theorem linkTxMod_lanes (s : State) (n : Nat) (g : LinkTx → LinkTx) : (linkTxMod s n g).lanes = s.lanes := rfl
@[simp] theorem linkTxMod_lfw (s : State) (n : Nat) (g : LinkTx → LinkTx) : (linkTxMod s n g).lfw = s.lfw := rfl
@[simp] theorem linkTxMod_phys (s : State) (n : Nat) (g : LinkTx → LinkTx) : (linkTxMod s n g).phys = s.phys := rfl
@[simp] theorem linkTxMod_fns (s : State) (n : Nat) (g : LinkTx → LinkTx) : (linkTxMod s n g).fns = s.fns := rfl
@[simp] theorem linkTxMod_queues (s : State) (n : Nat) (g : LinkTx → LinkTx) : (linkTxMod s n g).queues = s.queues := rfl
@[simp] theorem linkTxMod_cells (s : State) (n : Nat) (g : LinkTx → LinkTx) : (linkTxMod s n g).cells = s.cells := rfl
@[simp] theorem linkTxMod_intr (s : State) (n : Nat) (g : LinkTx → LinkTx) : (linkTxMod s n g).intr = s.intr := rfl
@[simp] theorem linkTxMod_xlt (s : State) (n : Nat) (g : LinkTx → LinkTx) : (linkTxMod s n g).xlt = s.xlt := rfl
@[simp] theorem linkTxMod_crp (s : State) (n : Nat) (g : LinkTx → LinkTx) : (linkTxMod s n g).crp = s.crp := rfl
@[simp] theorem linkTxMod_pwr (s : State) (n : Nat) (g : LinkTx → LinkTx) : (linkTxMod s n g).pwr = s.pwr := rfl
@[simp] theorem linkTxMod_sens (s : State) (n : Nat) (g : LinkTx → LinkTx) : (linkTxMod s n g).sens = s.sens := rfl
@[simp] theorem linkTxMod_store (s : State) (n : Nat) (g : LinkTx → LinkTx) : (linkTxMod s n g).store = s.store := rfl
@[simp] theorem linkTxMod_lcs (s : State) (n : Nat) (g : LinkTx → LinkTx) : (linkTxMod s n g).lcs = s.lcs := rfl
@[simp] theorem linkTxMod_house (s : State) (n : Nat) (g : LinkTx → LinkTx) : (linkTxMod s n g).house = s.house := rfl
@[simp] theorem linkTxMod_safe (s : State) (n : Nat) (g : LinkTx → LinkTx) : (linkTxMod s n g).safe = s.safe := rfl
@[simp] theorem linkTxMod_mgmt (s : State) (n : Nat) (g : LinkTx → LinkTx) : (linkTxMod s n g).mgmt = s.mgmt := rfl
@[simp] theorem linkTxMod_pins (s : State) (n : Nat) (g : LinkTx → LinkTx) : (linkTxMod s n g).pins = s.pins := rfl
@[simp] theorem linkTxMod_boot (s : State) (n : Nat) (g : LinkTx → LinkTx) : (linkTxMod s n g).boot = s.boot := rfl
@[simp] theorem linkTxMod_trace (s : State) (n : Nat) (g : LinkTx → LinkTx) : (linkTxMod s n g).trace = s.trace := rfl
@[simp] theorem linkTxMod_recs (s : State) (n : Nat) (g : LinkTx → LinkTx) : (linkTxMod s n g).recs = s.recs := rfl
@[simp] theorem linkTxMod_foldFresh (s : State) (n : Nat) (g : LinkTx → LinkTx) : (linkTxMod s n g).foldFresh = s.foldFresh := rfl
@[simp] theorem linkTxMod_foldBy (s : State) (n : Nat) (g : LinkTx → LinkTx) : (linkTxMod s n g).foldBy = s.foldBy := rfl
@[simp] theorem linkTxMod_clearing (s : State) (n : Nat) (g : LinkTx → LinkTx) : (linkTxMod s n g).clearing = s.clearing := rfl
@[simp] theorem linkTxMod_freeCtr (s : State) (n : Nat) (g : LinkTx → LinkTx) : (linkTxMod s n g).freeCtr = s.freeCtr := rfl
@[simp] theorem linkTxMod_out (s : State) (n : Nat) (g : LinkTx → LinkTx) : (linkTxMod s n g).out = s.out := rfl
@[simp] theorem linkTxMod_pending (s : State) (n : Nat) (g : LinkTx → LinkTx) : (linkTxMod s n g).pending = s.pending := rfl

@[simp] theorem fnMod_regs (s : State) (n : Nat) (g : Fn → Fn) : (fnMod s n g).regs = s.regs := rfl
@[simp] theorem fnMod_hwSet (s : State) (n : Nat) (g : Fn → Fn) : (fnMod s n g).hwSet = s.hwSet := rfl
@[simp] theorem fnMod_parLive (s : State) (n : Nat) (g : Fn → Fn) : (fnMod s n g).parLive = s.parLive := rfl
@[simp] theorem fnMod_parShadow (s : State) (n : Nat) (g : Fn → Fn) : (fnMod s n g).parShadow = s.parShadow := rfl
@[simp] theorem fnMod_mbox (s : State) (n : Nat) (g : Fn → Fn) : (fnMod s n g).mbox = s.mbox := rfl
@[simp] theorem fnMod_decks (s : State) (n : Nat) (g : Fn → Fn) : (fnMod s n g).decks = s.decks := rfl
@[simp] theorem fnMod_gen (s : State) (n : Nat) (g : Fn → Fn) : (fnMod s n g).gen = s.gen := rfl
@[simp] theorem fnMod_tokenCtr (s : State) (n : Nat) (g : Fn → Fn) : (fnMod s n g).tokenCtr = s.tokenCtr := rfl
@[simp] theorem fnMod_activeId (s : State) (n : Nat) (g : Fn → Fn) : (fnMod s n g).activeId = s.activeId := rfl
@[simp] theorem fnMod_time (s : State) (n : Nat) (g : Fn → Fn) : (fnMod s n g).time = s.time := rfl
@[simp] theorem fnMod_tim (s : State) (n : Nat) (g : Fn → Fn) : (fnMod s n g).tim = s.tim := rfl
@[simp] theorem fnMod_talon (s : State) (n : Nat) (g : Fn → Fn) : (fnMod s n g).talon = s.talon := rfl
@[simp] theorem fnMod_dealer (s : State) (n : Nat) (g : Fn → Fn) : (fnMod s n g).dealer = s.dealer := rfl
@[simp] theorem fnMod_xacts (s : State) (n : Nat) (g : Fn → Fn) : (fnMod s n g).xacts = s.xacts := rfl
@[simp] theorem fnMod_seats (s : State) (n : Nat) (g : Fn → Fn) : (fnMod s n g).seats = s.seats := rfl
@[simp] theorem fnMod_lanes (s : State) (n : Nat) (g : Fn → Fn) : (fnMod s n g).lanes = s.lanes := rfl
@[simp] theorem fnMod_lfw (s : State) (n : Nat) (g : Fn → Fn) : (fnMod s n g).lfw = s.lfw := rfl
@[simp] theorem fnMod_links (s : State) (n : Nat) (g : Fn → Fn) : (fnMod s n g).links = s.links := rfl
@[simp] theorem fnMod_phys (s : State) (n : Nat) (g : Fn → Fn) : (fnMod s n g).phys = s.phys := rfl
@[simp] theorem fnMod_queues (s : State) (n : Nat) (g : Fn → Fn) : (fnMod s n g).queues = s.queues := rfl
@[simp] theorem fnMod_cells (s : State) (n : Nat) (g : Fn → Fn) : (fnMod s n g).cells = s.cells := rfl
@[simp] theorem fnMod_intr (s : State) (n : Nat) (g : Fn → Fn) : (fnMod s n g).intr = s.intr := rfl
@[simp] theorem fnMod_xlt (s : State) (n : Nat) (g : Fn → Fn) : (fnMod s n g).xlt = s.xlt := rfl
@[simp] theorem fnMod_crp (s : State) (n : Nat) (g : Fn → Fn) : (fnMod s n g).crp = s.crp := rfl
@[simp] theorem fnMod_pwr (s : State) (n : Nat) (g : Fn → Fn) : (fnMod s n g).pwr = s.pwr := rfl
@[simp] theorem fnMod_sens (s : State) (n : Nat) (g : Fn → Fn) : (fnMod s n g).sens = s.sens := rfl
@[simp] theorem fnMod_store (s : State) (n : Nat) (g : Fn → Fn) : (fnMod s n g).store = s.store := rfl
@[simp] theorem fnMod_lcs (s : State) (n : Nat) (g : Fn → Fn) : (fnMod s n g).lcs = s.lcs := rfl
@[simp] theorem fnMod_house (s : State) (n : Nat) (g : Fn → Fn) : (fnMod s n g).house = s.house := rfl
@[simp] theorem fnMod_safe (s : State) (n : Nat) (g : Fn → Fn) : (fnMod s n g).safe = s.safe := rfl
@[simp] theorem fnMod_mgmt (s : State) (n : Nat) (g : Fn → Fn) : (fnMod s n g).mgmt = s.mgmt := rfl
@[simp] theorem fnMod_pins (s : State) (n : Nat) (g : Fn → Fn) : (fnMod s n g).pins = s.pins := rfl
@[simp] theorem fnMod_boot (s : State) (n : Nat) (g : Fn → Fn) : (fnMod s n g).boot = s.boot := rfl
@[simp] theorem fnMod_trace (s : State) (n : Nat) (g : Fn → Fn) : (fnMod s n g).trace = s.trace := rfl
@[simp] theorem fnMod_recs (s : State) (n : Nat) (g : Fn → Fn) : (fnMod s n g).recs = s.recs := rfl
@[simp] theorem fnMod_foldFresh (s : State) (n : Nat) (g : Fn → Fn) : (fnMod s n g).foldFresh = s.foldFresh := rfl
@[simp] theorem fnMod_foldBy (s : State) (n : Nat) (g : Fn → Fn) : (fnMod s n g).foldBy = s.foldBy := rfl
@[simp] theorem fnMod_clearing (s : State) (n : Nat) (g : Fn → Fn) : (fnMod s n g).clearing = s.clearing := rfl
@[simp] theorem fnMod_freeCtr (s : State) (n : Nat) (g : Fn → Fn) : (fnMod s n g).freeCtr = s.freeCtr := rfl
@[simp] theorem fnMod_out (s : State) (n : Nat) (g : Fn → Fn) : (fnMod s n g).out = s.out := rfl
@[simp] theorem fnMod_pending (s : State) (n : Nat) (g : Fn → Fn) : (fnMod s n g).pending = s.pending := rfl

@[simp] theorem queueMod_regs (s : State) (n : Nat) (g : Queue → Queue) : (queueMod s n g).regs = s.regs := rfl
@[simp] theorem queueMod_hwSet (s : State) (n : Nat) (g : Queue → Queue) : (queueMod s n g).hwSet = s.hwSet := rfl
@[simp] theorem queueMod_parLive (s : State) (n : Nat) (g : Queue → Queue) : (queueMod s n g).parLive = s.parLive := rfl
@[simp] theorem queueMod_parShadow (s : State) (n : Nat) (g : Queue → Queue) : (queueMod s n g).parShadow = s.parShadow := rfl
@[simp] theorem queueMod_mbox (s : State) (n : Nat) (g : Queue → Queue) : (queueMod s n g).mbox = s.mbox := rfl
@[simp] theorem queueMod_decks (s : State) (n : Nat) (g : Queue → Queue) : (queueMod s n g).decks = s.decks := rfl
@[simp] theorem queueMod_gen (s : State) (n : Nat) (g : Queue → Queue) : (queueMod s n g).gen = s.gen := rfl
@[simp] theorem queueMod_tokenCtr (s : State) (n : Nat) (g : Queue → Queue) : (queueMod s n g).tokenCtr = s.tokenCtr := rfl
@[simp] theorem queueMod_activeId (s : State) (n : Nat) (g : Queue → Queue) : (queueMod s n g).activeId = s.activeId := rfl
@[simp] theorem queueMod_time (s : State) (n : Nat) (g : Queue → Queue) : (queueMod s n g).time = s.time := rfl
@[simp] theorem queueMod_tim (s : State) (n : Nat) (g : Queue → Queue) : (queueMod s n g).tim = s.tim := rfl
@[simp] theorem queueMod_talon (s : State) (n : Nat) (g : Queue → Queue) : (queueMod s n g).talon = s.talon := rfl
@[simp] theorem queueMod_dealer (s : State) (n : Nat) (g : Queue → Queue) : (queueMod s n g).dealer = s.dealer := rfl
@[simp] theorem queueMod_xacts (s : State) (n : Nat) (g : Queue → Queue) : (queueMod s n g).xacts = s.xacts := rfl
@[simp] theorem queueMod_seats (s : State) (n : Nat) (g : Queue → Queue) : (queueMod s n g).seats = s.seats := rfl
@[simp] theorem queueMod_lanes (s : State) (n : Nat) (g : Queue → Queue) : (queueMod s n g).lanes = s.lanes := rfl
@[simp] theorem queueMod_lfw (s : State) (n : Nat) (g : Queue → Queue) : (queueMod s n g).lfw = s.lfw := rfl
@[simp] theorem queueMod_links (s : State) (n : Nat) (g : Queue → Queue) : (queueMod s n g).links = s.links := rfl
@[simp] theorem queueMod_phys (s : State) (n : Nat) (g : Queue → Queue) : (queueMod s n g).phys = s.phys := rfl
@[simp] theorem queueMod_fns (s : State) (n : Nat) (g : Queue → Queue) : (queueMod s n g).fns = s.fns := rfl
@[simp] theorem queueMod_cells (s : State) (n : Nat) (g : Queue → Queue) : (queueMod s n g).cells = s.cells := rfl
@[simp] theorem queueMod_intr (s : State) (n : Nat) (g : Queue → Queue) : (queueMod s n g).intr = s.intr := rfl
@[simp] theorem queueMod_xlt (s : State) (n : Nat) (g : Queue → Queue) : (queueMod s n g).xlt = s.xlt := rfl
@[simp] theorem queueMod_crp (s : State) (n : Nat) (g : Queue → Queue) : (queueMod s n g).crp = s.crp := rfl
@[simp] theorem queueMod_pwr (s : State) (n : Nat) (g : Queue → Queue) : (queueMod s n g).pwr = s.pwr := rfl
@[simp] theorem queueMod_sens (s : State) (n : Nat) (g : Queue → Queue) : (queueMod s n g).sens = s.sens := rfl
@[simp] theorem queueMod_store (s : State) (n : Nat) (g : Queue → Queue) : (queueMod s n g).store = s.store := rfl
@[simp] theorem queueMod_lcs (s : State) (n : Nat) (g : Queue → Queue) : (queueMod s n g).lcs = s.lcs := rfl
@[simp] theorem queueMod_house (s : State) (n : Nat) (g : Queue → Queue) : (queueMod s n g).house = s.house := rfl
@[simp] theorem queueMod_safe (s : State) (n : Nat) (g : Queue → Queue) : (queueMod s n g).safe = s.safe := rfl
@[simp] theorem queueMod_mgmt (s : State) (n : Nat) (g : Queue → Queue) : (queueMod s n g).mgmt = s.mgmt := rfl
@[simp] theorem queueMod_pins (s : State) (n : Nat) (g : Queue → Queue) : (queueMod s n g).pins = s.pins := rfl
@[simp] theorem queueMod_boot (s : State) (n : Nat) (g : Queue → Queue) : (queueMod s n g).boot = s.boot := rfl
@[simp] theorem queueMod_trace (s : State) (n : Nat) (g : Queue → Queue) : (queueMod s n g).trace = s.trace := rfl
@[simp] theorem queueMod_recs (s : State) (n : Nat) (g : Queue → Queue) : (queueMod s n g).recs = s.recs := rfl
@[simp] theorem queueMod_foldFresh (s : State) (n : Nat) (g : Queue → Queue) : (queueMod s n g).foldFresh = s.foldFresh := rfl
@[simp] theorem queueMod_foldBy (s : State) (n : Nat) (g : Queue → Queue) : (queueMod s n g).foldBy = s.foldBy := rfl
@[simp] theorem queueMod_clearing (s : State) (n : Nat) (g : Queue → Queue) : (queueMod s n g).clearing = s.clearing := rfl
@[simp] theorem queueMod_freeCtr (s : State) (n : Nat) (g : Queue → Queue) : (queueMod s n g).freeCtr = s.freeCtr := rfl
@[simp] theorem queueMod_out (s : State) (n : Nat) (g : Queue → Queue) : (queueMod s n g).out = s.out := rfl
@[simp] theorem queueMod_pending (s : State) (n : Nat) (g : Queue → Queue) : (queueMod s n g).pending = s.pending := rfl

@[simp] theorem talonMod_regs (s : State) (g : Talon → Talon) : (talonMod s g).regs = s.regs := rfl
@[simp] theorem talonMod_hwSet (s : State) (g : Talon → Talon) : (talonMod s g).hwSet = s.hwSet := rfl
@[simp] theorem talonMod_parLive (s : State) (g : Talon → Talon) : (talonMod s g).parLive = s.parLive := rfl
@[simp] theorem talonMod_parShadow (s : State) (g : Talon → Talon) : (talonMod s g).parShadow = s.parShadow := rfl
@[simp] theorem talonMod_mbox (s : State) (g : Talon → Talon) : (talonMod s g).mbox = s.mbox := rfl
@[simp] theorem talonMod_decks (s : State) (g : Talon → Talon) : (talonMod s g).decks = s.decks := rfl
@[simp] theorem talonMod_gen (s : State) (g : Talon → Talon) : (talonMod s g).gen = s.gen := rfl
@[simp] theorem talonMod_tokenCtr (s : State) (g : Talon → Talon) : (talonMod s g).tokenCtr = s.tokenCtr := rfl
@[simp] theorem talonMod_activeId (s : State) (g : Talon → Talon) : (talonMod s g).activeId = s.activeId := rfl
@[simp] theorem talonMod_time (s : State) (g : Talon → Talon) : (talonMod s g).time = s.time := rfl
@[simp] theorem talonMod_tim (s : State) (g : Talon → Talon) : (talonMod s g).tim = s.tim := rfl
@[simp] theorem talonMod_dealer (s : State) (g : Talon → Talon) : (talonMod s g).dealer = s.dealer := rfl
@[simp] theorem talonMod_xacts (s : State) (g : Talon → Talon) : (talonMod s g).xacts = s.xacts := rfl
@[simp] theorem talonMod_seats (s : State) (g : Talon → Talon) : (talonMod s g).seats = s.seats := rfl
@[simp] theorem talonMod_lanes (s : State) (g : Talon → Talon) : (talonMod s g).lanes = s.lanes := rfl
@[simp] theorem talonMod_lfw (s : State) (g : Talon → Talon) : (talonMod s g).lfw = s.lfw := rfl
@[simp] theorem talonMod_links (s : State) (g : Talon → Talon) : (talonMod s g).links = s.links := rfl
@[simp] theorem talonMod_phys (s : State) (g : Talon → Talon) : (talonMod s g).phys = s.phys := rfl
@[simp] theorem talonMod_fns (s : State) (g : Talon → Talon) : (talonMod s g).fns = s.fns := rfl
@[simp] theorem talonMod_queues (s : State) (g : Talon → Talon) : (talonMod s g).queues = s.queues := rfl
@[simp] theorem talonMod_cells (s : State) (g : Talon → Talon) : (talonMod s g).cells = s.cells := rfl
@[simp] theorem talonMod_intr (s : State) (g : Talon → Talon) : (talonMod s g).intr = s.intr := rfl
@[simp] theorem talonMod_xlt (s : State) (g : Talon → Talon) : (talonMod s g).xlt = s.xlt := rfl
@[simp] theorem talonMod_crp (s : State) (g : Talon → Talon) : (talonMod s g).crp = s.crp := rfl
@[simp] theorem talonMod_pwr (s : State) (g : Talon → Talon) : (talonMod s g).pwr = s.pwr := rfl
@[simp] theorem talonMod_sens (s : State) (g : Talon → Talon) : (talonMod s g).sens = s.sens := rfl
@[simp] theorem talonMod_store (s : State) (g : Talon → Talon) : (talonMod s g).store = s.store := rfl
@[simp] theorem talonMod_lcs (s : State) (g : Talon → Talon) : (talonMod s g).lcs = s.lcs := rfl
@[simp] theorem talonMod_house (s : State) (g : Talon → Talon) : (talonMod s g).house = s.house := rfl
@[simp] theorem talonMod_safe (s : State) (g : Talon → Talon) : (talonMod s g).safe = s.safe := rfl
@[simp] theorem talonMod_mgmt (s : State) (g : Talon → Talon) : (talonMod s g).mgmt = s.mgmt := rfl
@[simp] theorem talonMod_pins (s : State) (g : Talon → Talon) : (talonMod s g).pins = s.pins := rfl
@[simp] theorem talonMod_boot (s : State) (g : Talon → Talon) : (talonMod s g).boot = s.boot := rfl
@[simp] theorem talonMod_trace (s : State) (g : Talon → Talon) : (talonMod s g).trace = s.trace := rfl
@[simp] theorem talonMod_recs (s : State) (g : Talon → Talon) : (talonMod s g).recs = s.recs := rfl
@[simp] theorem talonMod_foldFresh (s : State) (g : Talon → Talon) : (talonMod s g).foldFresh = s.foldFresh := rfl
@[simp] theorem talonMod_foldBy (s : State) (g : Talon → Talon) : (talonMod s g).foldBy = s.foldBy := rfl
@[simp] theorem talonMod_clearing (s : State) (g : Talon → Talon) : (talonMod s g).clearing = s.clearing := rfl
@[simp] theorem talonMod_freeCtr (s : State) (g : Talon → Talon) : (talonMod s g).freeCtr = s.freeCtr := rfl
@[simp] theorem talonMod_out (s : State) (g : Talon → Talon) : (talonMod s g).out = s.out := rfl
@[simp] theorem talonMod_pending (s : State) (g : Talon → Talon) : (talonMod s g).pending = s.pending := rfl

@[simp] theorem deckMod_regs (s : State) (n : Nat) (g : Deck → Deck) : (deckMod s n g).regs = s.regs := rfl
@[simp] theorem deckMod_hwSet (s : State) (n : Nat) (g : Deck → Deck) : (deckMod s n g).hwSet = s.hwSet := rfl
@[simp] theorem deckMod_parLive (s : State) (n : Nat) (g : Deck → Deck) : (deckMod s n g).parLive = s.parLive := rfl
@[simp] theorem deckMod_parShadow (s : State) (n : Nat) (g : Deck → Deck) : (deckMod s n g).parShadow = s.parShadow := rfl
@[simp] theorem deckMod_mbox (s : State) (n : Nat) (g : Deck → Deck) : (deckMod s n g).mbox = s.mbox := rfl
@[simp] theorem deckMod_gen (s : State) (n : Nat) (g : Deck → Deck) : (deckMod s n g).gen = s.gen := rfl
@[simp] theorem deckMod_tokenCtr (s : State) (n : Nat) (g : Deck → Deck) : (deckMod s n g).tokenCtr = s.tokenCtr := rfl
@[simp] theorem deckMod_activeId (s : State) (n : Nat) (g : Deck → Deck) : (deckMod s n g).activeId = s.activeId := rfl
@[simp] theorem deckMod_time (s : State) (n : Nat) (g : Deck → Deck) : (deckMod s n g).time = s.time := rfl
@[simp] theorem deckMod_tim (s : State) (n : Nat) (g : Deck → Deck) : (deckMod s n g).tim = s.tim := rfl
@[simp] theorem deckMod_talon (s : State) (n : Nat) (g : Deck → Deck) : (deckMod s n g).talon = s.talon := rfl
@[simp] theorem deckMod_dealer (s : State) (n : Nat) (g : Deck → Deck) : (deckMod s n g).dealer = s.dealer := rfl
@[simp] theorem deckMod_xacts (s : State) (n : Nat) (g : Deck → Deck) : (deckMod s n g).xacts = s.xacts := rfl
@[simp] theorem deckMod_seats (s : State) (n : Nat) (g : Deck → Deck) : (deckMod s n g).seats = s.seats := rfl
@[simp] theorem deckMod_lanes (s : State) (n : Nat) (g : Deck → Deck) : (deckMod s n g).lanes = s.lanes := rfl
@[simp] theorem deckMod_lfw (s : State) (n : Nat) (g : Deck → Deck) : (deckMod s n g).lfw = s.lfw := rfl
@[simp] theorem deckMod_links (s : State) (n : Nat) (g : Deck → Deck) : (deckMod s n g).links = s.links := rfl
@[simp] theorem deckMod_phys (s : State) (n : Nat) (g : Deck → Deck) : (deckMod s n g).phys = s.phys := rfl
@[simp] theorem deckMod_fns (s : State) (n : Nat) (g : Deck → Deck) : (deckMod s n g).fns = s.fns := rfl
@[simp] theorem deckMod_queues (s : State) (n : Nat) (g : Deck → Deck) : (deckMod s n g).queues = s.queues := rfl
@[simp] theorem deckMod_cells (s : State) (n : Nat) (g : Deck → Deck) : (deckMod s n g).cells = s.cells := rfl
@[simp] theorem deckMod_intr (s : State) (n : Nat) (g : Deck → Deck) : (deckMod s n g).intr = s.intr := rfl
@[simp] theorem deckMod_xlt (s : State) (n : Nat) (g : Deck → Deck) : (deckMod s n g).xlt = s.xlt := rfl
@[simp] theorem deckMod_crp (s : State) (n : Nat) (g : Deck → Deck) : (deckMod s n g).crp = s.crp := rfl
@[simp] theorem deckMod_pwr (s : State) (n : Nat) (g : Deck → Deck) : (deckMod s n g).pwr = s.pwr := rfl
@[simp] theorem deckMod_sens (s : State) (n : Nat) (g : Deck → Deck) : (deckMod s n g).sens = s.sens := rfl
@[simp] theorem deckMod_store (s : State) (n : Nat) (g : Deck → Deck) : (deckMod s n g).store = s.store := rfl
@[simp] theorem deckMod_lcs (s : State) (n : Nat) (g : Deck → Deck) : (deckMod s n g).lcs = s.lcs := rfl
@[simp] theorem deckMod_house (s : State) (n : Nat) (g : Deck → Deck) : (deckMod s n g).house = s.house := rfl
@[simp] theorem deckMod_safe (s : State) (n : Nat) (g : Deck → Deck) : (deckMod s n g).safe = s.safe := rfl
@[simp] theorem deckMod_mgmt (s : State) (n : Nat) (g : Deck → Deck) : (deckMod s n g).mgmt = s.mgmt := rfl
@[simp] theorem deckMod_pins (s : State) (n : Nat) (g : Deck → Deck) : (deckMod s n g).pins = s.pins := rfl
@[simp] theorem deckMod_boot (s : State) (n : Nat) (g : Deck → Deck) : (deckMod s n g).boot = s.boot := rfl
@[simp] theorem deckMod_trace (s : State) (n : Nat) (g : Deck → Deck) : (deckMod s n g).trace = s.trace := rfl
@[simp] theorem deckMod_recs (s : State) (n : Nat) (g : Deck → Deck) : (deckMod s n g).recs = s.recs := rfl
@[simp] theorem deckMod_foldFresh (s : State) (n : Nat) (g : Deck → Deck) : (deckMod s n g).foldFresh = s.foldFresh := rfl
@[simp] theorem deckMod_foldBy (s : State) (n : Nat) (g : Deck → Deck) : (deckMod s n g).foldBy = s.foldBy := rfl
@[simp] theorem deckMod_clearing (s : State) (n : Nat) (g : Deck → Deck) : (deckMod s n g).clearing = s.clearing := rfl
@[simp] theorem deckMod_freeCtr (s : State) (n : Nat) (g : Deck → Deck) : (deckMod s n g).freeCtr = s.freeCtr := rfl
@[simp] theorem deckMod_out (s : State) (n : Nat) (g : Deck → Deck) : (deckMod s n g).out = s.out := rfl
@[simp] theorem deckMod_pending (s : State) (n : Nat) (g : Deck → Deck) : (deckMod s n g).pending = s.pending := rfl

@[simp] theorem xltMod_regs (s : State) (g : Xlt → Xlt) : (xltMod s g).regs = s.regs := rfl
@[simp] theorem xltMod_hwSet (s : State) (g : Xlt → Xlt) : (xltMod s g).hwSet = s.hwSet := rfl
@[simp] theorem xltMod_parLive (s : State) (g : Xlt → Xlt) : (xltMod s g).parLive = s.parLive := rfl
@[simp] theorem xltMod_parShadow (s : State) (g : Xlt → Xlt) : (xltMod s g).parShadow = s.parShadow := rfl
@[simp] theorem xltMod_mbox (s : State) (g : Xlt → Xlt) : (xltMod s g).mbox = s.mbox := rfl
@[simp] theorem xltMod_decks (s : State) (g : Xlt → Xlt) : (xltMod s g).decks = s.decks := rfl
@[simp] theorem xltMod_gen (s : State) (g : Xlt → Xlt) : (xltMod s g).gen = s.gen := rfl
@[simp] theorem xltMod_tokenCtr (s : State) (g : Xlt → Xlt) : (xltMod s g).tokenCtr = s.tokenCtr := rfl
@[simp] theorem xltMod_activeId (s : State) (g : Xlt → Xlt) : (xltMod s g).activeId = s.activeId := rfl
@[simp] theorem xltMod_time (s : State) (g : Xlt → Xlt) : (xltMod s g).time = s.time := rfl
@[simp] theorem xltMod_tim (s : State) (g : Xlt → Xlt) : (xltMod s g).tim = s.tim := rfl
@[simp] theorem xltMod_talon (s : State) (g : Xlt → Xlt) : (xltMod s g).talon = s.talon := rfl
@[simp] theorem xltMod_dealer (s : State) (g : Xlt → Xlt) : (xltMod s g).dealer = s.dealer := rfl
@[simp] theorem xltMod_xacts (s : State) (g : Xlt → Xlt) : (xltMod s g).xacts = s.xacts := rfl
@[simp] theorem xltMod_seats (s : State) (g : Xlt → Xlt) : (xltMod s g).seats = s.seats := rfl
@[simp] theorem xltMod_lanes (s : State) (g : Xlt → Xlt) : (xltMod s g).lanes = s.lanes := rfl
@[simp] theorem xltMod_lfw (s : State) (g : Xlt → Xlt) : (xltMod s g).lfw = s.lfw := rfl
@[simp] theorem xltMod_links (s : State) (g : Xlt → Xlt) : (xltMod s g).links = s.links := rfl
@[simp] theorem xltMod_phys (s : State) (g : Xlt → Xlt) : (xltMod s g).phys = s.phys := rfl
@[simp] theorem xltMod_fns (s : State) (g : Xlt → Xlt) : (xltMod s g).fns = s.fns := rfl
@[simp] theorem xltMod_queues (s : State) (g : Xlt → Xlt) : (xltMod s g).queues = s.queues := rfl
@[simp] theorem xltMod_cells (s : State) (g : Xlt → Xlt) : (xltMod s g).cells = s.cells := rfl
@[simp] theorem xltMod_intr (s : State) (g : Xlt → Xlt) : (xltMod s g).intr = s.intr := rfl
@[simp] theorem xltMod_crp (s : State) (g : Xlt → Xlt) : (xltMod s g).crp = s.crp := rfl
@[simp] theorem xltMod_pwr (s : State) (g : Xlt → Xlt) : (xltMod s g).pwr = s.pwr := rfl
@[simp] theorem xltMod_sens (s : State) (g : Xlt → Xlt) : (xltMod s g).sens = s.sens := rfl
@[simp] theorem xltMod_store (s : State) (g : Xlt → Xlt) : (xltMod s g).store = s.store := rfl
@[simp] theorem xltMod_lcs (s : State) (g : Xlt → Xlt) : (xltMod s g).lcs = s.lcs := rfl
@[simp] theorem xltMod_house (s : State) (g : Xlt → Xlt) : (xltMod s g).house = s.house := rfl
@[simp] theorem xltMod_safe (s : State) (g : Xlt → Xlt) : (xltMod s g).safe = s.safe := rfl
@[simp] theorem xltMod_mgmt (s : State) (g : Xlt → Xlt) : (xltMod s g).mgmt = s.mgmt := rfl
@[simp] theorem xltMod_pins (s : State) (g : Xlt → Xlt) : (xltMod s g).pins = s.pins := rfl
@[simp] theorem xltMod_boot (s : State) (g : Xlt → Xlt) : (xltMod s g).boot = s.boot := rfl
@[simp] theorem xltMod_trace (s : State) (g : Xlt → Xlt) : (xltMod s g).trace = s.trace := rfl
@[simp] theorem xltMod_recs (s : State) (g : Xlt → Xlt) : (xltMod s g).recs = s.recs := rfl
@[simp] theorem xltMod_foldFresh (s : State) (g : Xlt → Xlt) : (xltMod s g).foldFresh = s.foldFresh := rfl
@[simp] theorem xltMod_foldBy (s : State) (g : Xlt → Xlt) : (xltMod s g).foldBy = s.foldBy := rfl
@[simp] theorem xltMod_clearing (s : State) (g : Xlt → Xlt) : (xltMod s g).clearing = s.clearing := rfl
@[simp] theorem xltMod_freeCtr (s : State) (g : Xlt → Xlt) : (xltMod s g).freeCtr = s.freeCtr := rfl
@[simp] theorem xltMod_out (s : State) (g : Xlt → Xlt) : (xltMod s g).out = s.out := rfl
@[simp] theorem xltMod_pending (s : State) (g : Xlt → Xlt) : (xltMod s g).pending = s.pending := rfl

@[simp] theorem intrMod_regs (s : State) (g : Intr → Intr) : (intrMod s g).regs = s.regs := rfl
@[simp] theorem intrMod_hwSet (s : State) (g : Intr → Intr) : (intrMod s g).hwSet = s.hwSet := rfl
@[simp] theorem intrMod_parLive (s : State) (g : Intr → Intr) : (intrMod s g).parLive = s.parLive := rfl
@[simp] theorem intrMod_parShadow (s : State) (g : Intr → Intr) : (intrMod s g).parShadow = s.parShadow := rfl
@[simp] theorem intrMod_mbox (s : State) (g : Intr → Intr) : (intrMod s g).mbox = s.mbox := rfl
@[simp] theorem intrMod_decks (s : State) (g : Intr → Intr) : (intrMod s g).decks = s.decks := rfl
@[simp] theorem intrMod_gen (s : State) (g : Intr → Intr) : (intrMod s g).gen = s.gen := rfl
@[simp] theorem intrMod_tokenCtr (s : State) (g : Intr → Intr) : (intrMod s g).tokenCtr = s.tokenCtr := rfl
@[simp] theorem intrMod_activeId (s : State) (g : Intr → Intr) : (intrMod s g).activeId = s.activeId := rfl
@[simp] theorem intrMod_time (s : State) (g : Intr → Intr) : (intrMod s g).time = s.time := rfl
@[simp] theorem intrMod_tim (s : State) (g : Intr → Intr) : (intrMod s g).tim = s.tim := rfl
@[simp] theorem intrMod_talon (s : State) (g : Intr → Intr) : (intrMod s g).talon = s.talon := rfl
@[simp] theorem intrMod_dealer (s : State) (g : Intr → Intr) : (intrMod s g).dealer = s.dealer := rfl
@[simp] theorem intrMod_xacts (s : State) (g : Intr → Intr) : (intrMod s g).xacts = s.xacts := rfl
@[simp] theorem intrMod_seats (s : State) (g : Intr → Intr) : (intrMod s g).seats = s.seats := rfl
@[simp] theorem intrMod_lanes (s : State) (g : Intr → Intr) : (intrMod s g).lanes = s.lanes := rfl
@[simp] theorem intrMod_lfw (s : State) (g : Intr → Intr) : (intrMod s g).lfw = s.lfw := rfl
@[simp] theorem intrMod_links (s : State) (g : Intr → Intr) : (intrMod s g).links = s.links := rfl
@[simp] theorem intrMod_phys (s : State) (g : Intr → Intr) : (intrMod s g).phys = s.phys := rfl
@[simp] theorem intrMod_fns (s : State) (g : Intr → Intr) : (intrMod s g).fns = s.fns := rfl
@[simp] theorem intrMod_queues (s : State) (g : Intr → Intr) : (intrMod s g).queues = s.queues := rfl
@[simp] theorem intrMod_cells (s : State) (g : Intr → Intr) : (intrMod s g).cells = s.cells := rfl
@[simp] theorem intrMod_xlt (s : State) (g : Intr → Intr) : (intrMod s g).xlt = s.xlt := rfl
@[simp] theorem intrMod_crp (s : State) (g : Intr → Intr) : (intrMod s g).crp = s.crp := rfl
@[simp] theorem intrMod_pwr (s : State) (g : Intr → Intr) : (intrMod s g).pwr = s.pwr := rfl
@[simp] theorem intrMod_sens (s : State) (g : Intr → Intr) : (intrMod s g).sens = s.sens := rfl
@[simp] theorem intrMod_store (s : State) (g : Intr → Intr) : (intrMod s g).store = s.store := rfl
@[simp] theorem intrMod_lcs (s : State) (g : Intr → Intr) : (intrMod s g).lcs = s.lcs := rfl
@[simp] theorem intrMod_house (s : State) (g : Intr → Intr) : (intrMod s g).house = s.house := rfl
@[simp] theorem intrMod_safe (s : State) (g : Intr → Intr) : (intrMod s g).safe = s.safe := rfl
@[simp] theorem intrMod_mgmt (s : State) (g : Intr → Intr) : (intrMod s g).mgmt = s.mgmt := rfl
@[simp] theorem intrMod_pins (s : State) (g : Intr → Intr) : (intrMod s g).pins = s.pins := rfl
@[simp] theorem intrMod_boot (s : State) (g : Intr → Intr) : (intrMod s g).boot = s.boot := rfl
@[simp] theorem intrMod_trace (s : State) (g : Intr → Intr) : (intrMod s g).trace = s.trace := rfl
@[simp] theorem intrMod_recs (s : State) (g : Intr → Intr) : (intrMod s g).recs = s.recs := rfl
@[simp] theorem intrMod_foldFresh (s : State) (g : Intr → Intr) : (intrMod s g).foldFresh = s.foldFresh := rfl
@[simp] theorem intrMod_foldBy (s : State) (g : Intr → Intr) : (intrMod s g).foldBy = s.foldBy := rfl
@[simp] theorem intrMod_clearing (s : State) (g : Intr → Intr) : (intrMod s g).clearing = s.clearing := rfl
@[simp] theorem intrMod_freeCtr (s : State) (g : Intr → Intr) : (intrMod s g).freeCtr = s.freeCtr := rfl
@[simp] theorem intrMod_out (s : State) (g : Intr → Intr) : (intrMod s g).out = s.out := rfl
@[simp] theorem intrMod_pending (s : State) (g : Intr → Intr) : (intrMod s g).pending = s.pending := rfl

@[simp] theorem laneMod_regs (s : State) (p i : Nat) (g : Lane → Lane) : (laneMod s p i g).regs = s.regs := by rw [laneMod]; cases laneCell s p i <;> rfl
@[simp] theorem laneMod_hwSet (s : State) (p i : Nat) (g : Lane → Lane) : (laneMod s p i g).hwSet = s.hwSet := by rw [laneMod]; cases laneCell s p i <;> rfl
@[simp] theorem laneMod_parLive (s : State) (p i : Nat) (g : Lane → Lane) : (laneMod s p i g).parLive = s.parLive := by rw [laneMod]; cases laneCell s p i <;> rfl
@[simp] theorem laneMod_parShadow (s : State) (p i : Nat) (g : Lane → Lane) : (laneMod s p i g).parShadow = s.parShadow := by rw [laneMod]; cases laneCell s p i <;> rfl
@[simp] theorem laneMod_mbox (s : State) (p i : Nat) (g : Lane → Lane) : (laneMod s p i g).mbox = s.mbox := by rw [laneMod]; cases laneCell s p i <;> rfl
@[simp] theorem laneMod_decks (s : State) (p i : Nat) (g : Lane → Lane) : (laneMod s p i g).decks = s.decks := by rw [laneMod]; cases laneCell s p i <;> rfl
@[simp] theorem laneMod_gen (s : State) (p i : Nat) (g : Lane → Lane) : (laneMod s p i g).gen = s.gen := by rw [laneMod]; cases laneCell s p i <;> rfl
@[simp] theorem laneMod_tokenCtr (s : State) (p i : Nat) (g : Lane → Lane) : (laneMod s p i g).tokenCtr = s.tokenCtr := by rw [laneMod]; cases laneCell s p i <;> rfl
@[simp] theorem laneMod_activeId (s : State) (p i : Nat) (g : Lane → Lane) : (laneMod s p i g).activeId = s.activeId := by rw [laneMod]; cases laneCell s p i <;> rfl
@[simp] theorem laneMod_time (s : State) (p i : Nat) (g : Lane → Lane) : (laneMod s p i g).time = s.time := by rw [laneMod]; cases laneCell s p i <;> rfl
@[simp] theorem laneMod_tim (s : State) (p i : Nat) (g : Lane → Lane) : (laneMod s p i g).tim = s.tim := by rw [laneMod]; cases laneCell s p i <;> rfl
@[simp] theorem laneMod_talon (s : State) (p i : Nat) (g : Lane → Lane) : (laneMod s p i g).talon = s.talon := by rw [laneMod]; cases laneCell s p i <;> rfl
@[simp] theorem laneMod_dealer (s : State) (p i : Nat) (g : Lane → Lane) : (laneMod s p i g).dealer = s.dealer := by rw [laneMod]; cases laneCell s p i <;> rfl
@[simp] theorem laneMod_xacts (s : State) (p i : Nat) (g : Lane → Lane) : (laneMod s p i g).xacts = s.xacts := by rw [laneMod]; cases laneCell s p i <;> rfl
@[simp] theorem laneMod_seats (s : State) (p i : Nat) (g : Lane → Lane) : (laneMod s p i g).seats = s.seats := by rw [laneMod]; cases laneCell s p i <;> rfl
@[simp] theorem laneMod_lfw (s : State) (p i : Nat) (g : Lane → Lane) : (laneMod s p i g).lfw = s.lfw := by rw [laneMod]; cases laneCell s p i <;> rfl
@[simp] theorem laneMod_links (s : State) (p i : Nat) (g : Lane → Lane) : (laneMod s p i g).links = s.links := by rw [laneMod]; cases laneCell s p i <;> rfl
@[simp] theorem laneMod_phys (s : State) (p i : Nat) (g : Lane → Lane) : (laneMod s p i g).phys = s.phys := by rw [laneMod]; cases laneCell s p i <;> rfl
@[simp] theorem laneMod_fns (s : State) (p i : Nat) (g : Lane → Lane) : (laneMod s p i g).fns = s.fns := by rw [laneMod]; cases laneCell s p i <;> rfl
@[simp] theorem laneMod_queues (s : State) (p i : Nat) (g : Lane → Lane) : (laneMod s p i g).queues = s.queues := by rw [laneMod]; cases laneCell s p i <;> rfl
@[simp] theorem laneMod_cells (s : State) (p i : Nat) (g : Lane → Lane) : (laneMod s p i g).cells = s.cells := by rw [laneMod]; cases laneCell s p i <;> rfl
@[simp] theorem laneMod_intr (s : State) (p i : Nat) (g : Lane → Lane) : (laneMod s p i g).intr = s.intr := by rw [laneMod]; cases laneCell s p i <;> rfl
@[simp] theorem laneMod_xlt (s : State) (p i : Nat) (g : Lane → Lane) : (laneMod s p i g).xlt = s.xlt := by rw [laneMod]; cases laneCell s p i <;> rfl
@[simp] theorem laneMod_crp (s : State) (p i : Nat) (g : Lane → Lane) : (laneMod s p i g).crp = s.crp := by rw [laneMod]; cases laneCell s p i <;> rfl
@[simp] theorem laneMod_pwr (s : State) (p i : Nat) (g : Lane → Lane) : (laneMod s p i g).pwr = s.pwr := by rw [laneMod]; cases laneCell s p i <;> rfl
@[simp] theorem laneMod_sens (s : State) (p i : Nat) (g : Lane → Lane) : (laneMod s p i g).sens = s.sens := by rw [laneMod]; cases laneCell s p i <;> rfl
@[simp] theorem laneMod_store (s : State) (p i : Nat) (g : Lane → Lane) : (laneMod s p i g).store = s.store := by rw [laneMod]; cases laneCell s p i <;> rfl
@[simp] theorem laneMod_lcs (s : State) (p i : Nat) (g : Lane → Lane) : (laneMod s p i g).lcs = s.lcs := by rw [laneMod]; cases laneCell s p i <;> rfl
@[simp] theorem laneMod_house (s : State) (p i : Nat) (g : Lane → Lane) : (laneMod s p i g).house = s.house := by rw [laneMod]; cases laneCell s p i <;> rfl
@[simp] theorem laneMod_safe (s : State) (p i : Nat) (g : Lane → Lane) : (laneMod s p i g).safe = s.safe := by rw [laneMod]; cases laneCell s p i <;> rfl
@[simp] theorem laneMod_mgmt (s : State) (p i : Nat) (g : Lane → Lane) : (laneMod s p i g).mgmt = s.mgmt := by rw [laneMod]; cases laneCell s p i <;> rfl
@[simp] theorem laneMod_pins (s : State) (p i : Nat) (g : Lane → Lane) : (laneMod s p i g).pins = s.pins := by rw [laneMod]; cases laneCell s p i <;> rfl
@[simp] theorem laneMod_boot (s : State) (p i : Nat) (g : Lane → Lane) : (laneMod s p i g).boot = s.boot := by rw [laneMod]; cases laneCell s p i <;> rfl
@[simp] theorem laneMod_trace (s : State) (p i : Nat) (g : Lane → Lane) : (laneMod s p i g).trace = s.trace := by rw [laneMod]; cases laneCell s p i <;> rfl
@[simp] theorem laneMod_recs (s : State) (p i : Nat) (g : Lane → Lane) : (laneMod s p i g).recs = s.recs := by rw [laneMod]; cases laneCell s p i <;> rfl
@[simp] theorem laneMod_foldFresh (s : State) (p i : Nat) (g : Lane → Lane) : (laneMod s p i g).foldFresh = s.foldFresh := by rw [laneMod]; cases laneCell s p i <;> rfl
@[simp] theorem laneMod_foldBy (s : State) (p i : Nat) (g : Lane → Lane) : (laneMod s p i g).foldBy = s.foldBy := by rw [laneMod]; cases laneCell s p i <;> rfl
@[simp] theorem laneMod_clearing (s : State) (p i : Nat) (g : Lane → Lane) : (laneMod s p i g).clearing = s.clearing := by rw [laneMod]; cases laneCell s p i <;> rfl
@[simp] theorem laneMod_freeCtr (s : State) (p i : Nat) (g : Lane → Lane) : (laneMod s p i g).freeCtr = s.freeCtr := by rw [laneMod]; cases laneCell s p i <;> rfl
@[simp] theorem laneMod_out (s : State) (p i : Nat) (g : Lane → Lane) : (laneMod s p i g).out = s.out := by rw [laneMod]; cases laneCell s p i <;> rfl
@[simp] theorem laneMod_pending (s : State) (p i : Nat) (g : Lane → Lane) : (laneMod s p i g).pending = s.pending := by rw [laneMod]; cases laneCell s p i <;> rfl

@[simp] theorem physMod_regs (s : State) (n : Nat) (g : LinkPhy → LinkPhy) : (physMod s n g).regs = s.regs := rfl
@[simp] theorem physMod_hwSet (s : State) (n : Nat) (g : LinkPhy → LinkPhy) : (physMod s n g).hwSet = s.hwSet := rfl
@[simp] theorem physMod_parLive (s : State) (n : Nat) (g : LinkPhy → LinkPhy) : (physMod s n g).parLive = s.parLive := rfl
@[simp] theorem physMod_parShadow (s : State) (n : Nat) (g : LinkPhy → LinkPhy) : (physMod s n g).parShadow = s.parShadow := rfl
@[simp] theorem physMod_mbox (s : State) (n : Nat) (g : LinkPhy → LinkPhy) : (physMod s n g).mbox = s.mbox := rfl
@[simp] theorem physMod_decks (s : State) (n : Nat) (g : LinkPhy → LinkPhy) : (physMod s n g).decks = s.decks := rfl
@[simp] theorem physMod_gen (s : State) (n : Nat) (g : LinkPhy → LinkPhy) : (physMod s n g).gen = s.gen := rfl
@[simp] theorem physMod_tokenCtr (s : State) (n : Nat) (g : LinkPhy → LinkPhy) : (physMod s n g).tokenCtr = s.tokenCtr := rfl
@[simp] theorem physMod_activeId (s : State) (n : Nat) (g : LinkPhy → LinkPhy) : (physMod s n g).activeId = s.activeId := rfl
@[simp] theorem physMod_time (s : State) (n : Nat) (g : LinkPhy → LinkPhy) : (physMod s n g).time = s.time := rfl
@[simp] theorem physMod_tim (s : State) (n : Nat) (g : LinkPhy → LinkPhy) : (physMod s n g).tim = s.tim := rfl
@[simp] theorem physMod_talon (s : State) (n : Nat) (g : LinkPhy → LinkPhy) : (physMod s n g).talon = s.talon := rfl
@[simp] theorem physMod_dealer (s : State) (n : Nat) (g : LinkPhy → LinkPhy) : (physMod s n g).dealer = s.dealer := rfl
@[simp] theorem physMod_xacts (s : State) (n : Nat) (g : LinkPhy → LinkPhy) : (physMod s n g).xacts = s.xacts := rfl
@[simp] theorem physMod_seats (s : State) (n : Nat) (g : LinkPhy → LinkPhy) : (physMod s n g).seats = s.seats := rfl
@[simp] theorem physMod_lanes (s : State) (n : Nat) (g : LinkPhy → LinkPhy) : (physMod s n g).lanes = s.lanes := rfl
@[simp] theorem physMod_lfw (s : State) (n : Nat) (g : LinkPhy → LinkPhy) : (physMod s n g).lfw = s.lfw := rfl
@[simp] theorem physMod_links (s : State) (n : Nat) (g : LinkPhy → LinkPhy) : (physMod s n g).links = s.links := rfl
@[simp] theorem physMod_fns (s : State) (n : Nat) (g : LinkPhy → LinkPhy) : (physMod s n g).fns = s.fns := rfl
@[simp] theorem physMod_queues (s : State) (n : Nat) (g : LinkPhy → LinkPhy) : (physMod s n g).queues = s.queues := rfl
@[simp] theorem physMod_cells (s : State) (n : Nat) (g : LinkPhy → LinkPhy) : (physMod s n g).cells = s.cells := rfl
@[simp] theorem physMod_intr (s : State) (n : Nat) (g : LinkPhy → LinkPhy) : (physMod s n g).intr = s.intr := rfl
@[simp] theorem physMod_xlt (s : State) (n : Nat) (g : LinkPhy → LinkPhy) : (physMod s n g).xlt = s.xlt := rfl
@[simp] theorem physMod_crp (s : State) (n : Nat) (g : LinkPhy → LinkPhy) : (physMod s n g).crp = s.crp := rfl
@[simp] theorem physMod_pwr (s : State) (n : Nat) (g : LinkPhy → LinkPhy) : (physMod s n g).pwr = s.pwr := rfl
@[simp] theorem physMod_sens (s : State) (n : Nat) (g : LinkPhy → LinkPhy) : (physMod s n g).sens = s.sens := rfl
@[simp] theorem physMod_store (s : State) (n : Nat) (g : LinkPhy → LinkPhy) : (physMod s n g).store = s.store := rfl
@[simp] theorem physMod_lcs (s : State) (n : Nat) (g : LinkPhy → LinkPhy) : (physMod s n g).lcs = s.lcs := rfl
@[simp] theorem physMod_house (s : State) (n : Nat) (g : LinkPhy → LinkPhy) : (physMod s n g).house = s.house := rfl
@[simp] theorem physMod_safe (s : State) (n : Nat) (g : LinkPhy → LinkPhy) : (physMod s n g).safe = s.safe := rfl
@[simp] theorem physMod_mgmt (s : State) (n : Nat) (g : LinkPhy → LinkPhy) : (physMod s n g).mgmt = s.mgmt := rfl
@[simp] theorem physMod_pins (s : State) (n : Nat) (g : LinkPhy → LinkPhy) : (physMod s n g).pins = s.pins := rfl
@[simp] theorem physMod_boot (s : State) (n : Nat) (g : LinkPhy → LinkPhy) : (physMod s n g).boot = s.boot := rfl
@[simp] theorem physMod_trace (s : State) (n : Nat) (g : LinkPhy → LinkPhy) : (physMod s n g).trace = s.trace := rfl
@[simp] theorem physMod_recs (s : State) (n : Nat) (g : LinkPhy → LinkPhy) : (physMod s n g).recs = s.recs := rfl
@[simp] theorem physMod_foldFresh (s : State) (n : Nat) (g : LinkPhy → LinkPhy) : (physMod s n g).foldFresh = s.foldFresh := rfl
@[simp] theorem physMod_foldBy (s : State) (n : Nat) (g : LinkPhy → LinkPhy) : (physMod s n g).foldBy = s.foldBy := rfl
@[simp] theorem physMod_clearing (s : State) (n : Nat) (g : LinkPhy → LinkPhy) : (physMod s n g).clearing = s.clearing := rfl
@[simp] theorem physMod_freeCtr (s : State) (n : Nat) (g : LinkPhy → LinkPhy) : (physMod s n g).freeCtr = s.freeCtr := rfl
@[simp] theorem physMod_out (s : State) (n : Nat) (g : LinkPhy → LinkPhy) : (physMod s n g).out = s.out := rfl
@[simp] theorem physMod_pending (s : State) (n : Nat) (g : LinkPhy → LinkPhy) : (physMod s n g).pending = s.pending := rfl

@[simp] theorem dealerMod_regs (s : State) (g : Dealer → Dealer) : (dealerMod s g).regs = s.regs := rfl
@[simp] theorem dealerMod_hwSet (s : State) (g : Dealer → Dealer) : (dealerMod s g).hwSet = s.hwSet := rfl
@[simp] theorem dealerMod_parLive (s : State) (g : Dealer → Dealer) : (dealerMod s g).parLive = s.parLive := rfl
@[simp] theorem dealerMod_parShadow (s : State) (g : Dealer → Dealer) : (dealerMod s g).parShadow = s.parShadow := rfl
@[simp] theorem dealerMod_mbox (s : State) (g : Dealer → Dealer) : (dealerMod s g).mbox = s.mbox := rfl
@[simp] theorem dealerMod_decks (s : State) (g : Dealer → Dealer) : (dealerMod s g).decks = s.decks := rfl
@[simp] theorem dealerMod_gen (s : State) (g : Dealer → Dealer) : (dealerMod s g).gen = s.gen := rfl
@[simp] theorem dealerMod_tokenCtr (s : State) (g : Dealer → Dealer) : (dealerMod s g).tokenCtr = s.tokenCtr := rfl
@[simp] theorem dealerMod_activeId (s : State) (g : Dealer → Dealer) : (dealerMod s g).activeId = s.activeId := rfl
@[simp] theorem dealerMod_time (s : State) (g : Dealer → Dealer) : (dealerMod s g).time = s.time := rfl
@[simp] theorem dealerMod_tim (s : State) (g : Dealer → Dealer) : (dealerMod s g).tim = s.tim := rfl
@[simp] theorem dealerMod_talon (s : State) (g : Dealer → Dealer) : (dealerMod s g).talon = s.talon := rfl
@[simp] theorem dealerMod_xacts (s : State) (g : Dealer → Dealer) : (dealerMod s g).xacts = s.xacts := rfl
@[simp] theorem dealerMod_seats (s : State) (g : Dealer → Dealer) : (dealerMod s g).seats = s.seats := rfl
@[simp] theorem dealerMod_lanes (s : State) (g : Dealer → Dealer) : (dealerMod s g).lanes = s.lanes := rfl
@[simp] theorem dealerMod_lfw (s : State) (g : Dealer → Dealer) : (dealerMod s g).lfw = s.lfw := rfl
@[simp] theorem dealerMod_links (s : State) (g : Dealer → Dealer) : (dealerMod s g).links = s.links := rfl
@[simp] theorem dealerMod_phys (s : State) (g : Dealer → Dealer) : (dealerMod s g).phys = s.phys := rfl
@[simp] theorem dealerMod_fns (s : State) (g : Dealer → Dealer) : (dealerMod s g).fns = s.fns := rfl
@[simp] theorem dealerMod_queues (s : State) (g : Dealer → Dealer) : (dealerMod s g).queues = s.queues := rfl
@[simp] theorem dealerMod_cells (s : State) (g : Dealer → Dealer) : (dealerMod s g).cells = s.cells := rfl
@[simp] theorem dealerMod_intr (s : State) (g : Dealer → Dealer) : (dealerMod s g).intr = s.intr := rfl
@[simp] theorem dealerMod_xlt (s : State) (g : Dealer → Dealer) : (dealerMod s g).xlt = s.xlt := rfl
@[simp] theorem dealerMod_crp (s : State) (g : Dealer → Dealer) : (dealerMod s g).crp = s.crp := rfl
@[simp] theorem dealerMod_pwr (s : State) (g : Dealer → Dealer) : (dealerMod s g).pwr = s.pwr := rfl
@[simp] theorem dealerMod_sens (s : State) (g : Dealer → Dealer) : (dealerMod s g).sens = s.sens := rfl
@[simp] theorem dealerMod_store (s : State) (g : Dealer → Dealer) : (dealerMod s g).store = s.store := rfl
@[simp] theorem dealerMod_lcs (s : State) (g : Dealer → Dealer) : (dealerMod s g).lcs = s.lcs := rfl
@[simp] theorem dealerMod_house (s : State) (g : Dealer → Dealer) : (dealerMod s g).house = s.house := rfl
@[simp] theorem dealerMod_safe (s : State) (g : Dealer → Dealer) : (dealerMod s g).safe = s.safe := rfl
@[simp] theorem dealerMod_mgmt (s : State) (g : Dealer → Dealer) : (dealerMod s g).mgmt = s.mgmt := rfl
@[simp] theorem dealerMod_pins (s : State) (g : Dealer → Dealer) : (dealerMod s g).pins = s.pins := rfl
@[simp] theorem dealerMod_boot (s : State) (g : Dealer → Dealer) : (dealerMod s g).boot = s.boot := rfl
@[simp] theorem dealerMod_trace (s : State) (g : Dealer → Dealer) : (dealerMod s g).trace = s.trace := rfl
@[simp] theorem dealerMod_recs (s : State) (g : Dealer → Dealer) : (dealerMod s g).recs = s.recs := rfl
@[simp] theorem dealerMod_foldFresh (s : State) (g : Dealer → Dealer) : (dealerMod s g).foldFresh = s.foldFresh := rfl
@[simp] theorem dealerMod_foldBy (s : State) (g : Dealer → Dealer) : (dealerMod s g).foldBy = s.foldBy := rfl
@[simp] theorem dealerMod_clearing (s : State) (g : Dealer → Dealer) : (dealerMod s g).clearing = s.clearing := rfl
@[simp] theorem dealerMod_freeCtr (s : State) (g : Dealer → Dealer) : (dealerMod s g).freeCtr = s.freeCtr := rfl
@[simp] theorem dealerMod_out (s : State) (g : Dealer → Dealer) : (dealerMod s g).out = s.out := rfl
@[simp] theorem dealerMod_pending (s : State) (g : Dealer → Dealer) : (dealerMod s g).pending = s.pending := rfl

@[simp] theorem timMod_regs (s : State) (g : TimeUnit → TimeUnit) : (timMod s g).regs = s.regs := rfl
@[simp] theorem timMod_hwSet (s : State) (g : TimeUnit → TimeUnit) : (timMod s g).hwSet = s.hwSet := rfl
@[simp] theorem timMod_parLive (s : State) (g : TimeUnit → TimeUnit) : (timMod s g).parLive = s.parLive := rfl
@[simp] theorem timMod_parShadow (s : State) (g : TimeUnit → TimeUnit) : (timMod s g).parShadow = s.parShadow := rfl
@[simp] theorem timMod_mbox (s : State) (g : TimeUnit → TimeUnit) : (timMod s g).mbox = s.mbox := rfl
@[simp] theorem timMod_decks (s : State) (g : TimeUnit → TimeUnit) : (timMod s g).decks = s.decks := rfl
@[simp] theorem timMod_gen (s : State) (g : TimeUnit → TimeUnit) : (timMod s g).gen = s.gen := rfl
@[simp] theorem timMod_tokenCtr (s : State) (g : TimeUnit → TimeUnit) : (timMod s g).tokenCtr = s.tokenCtr := rfl
@[simp] theorem timMod_activeId (s : State) (g : TimeUnit → TimeUnit) : (timMod s g).activeId = s.activeId := rfl
@[simp] theorem timMod_time (s : State) (g : TimeUnit → TimeUnit) : (timMod s g).time = s.time := rfl
@[simp] theorem timMod_talon (s : State) (g : TimeUnit → TimeUnit) : (timMod s g).talon = s.talon := rfl
@[simp] theorem timMod_dealer (s : State) (g : TimeUnit → TimeUnit) : (timMod s g).dealer = s.dealer := rfl
@[simp] theorem timMod_xacts (s : State) (g : TimeUnit → TimeUnit) : (timMod s g).xacts = s.xacts := rfl
@[simp] theorem timMod_seats (s : State) (g : TimeUnit → TimeUnit) : (timMod s g).seats = s.seats := rfl
@[simp] theorem timMod_lanes (s : State) (g : TimeUnit → TimeUnit) : (timMod s g).lanes = s.lanes := rfl
@[simp] theorem timMod_lfw (s : State) (g : TimeUnit → TimeUnit) : (timMod s g).lfw = s.lfw := rfl
@[simp] theorem timMod_links (s : State) (g : TimeUnit → TimeUnit) : (timMod s g).links = s.links := rfl
@[simp] theorem timMod_phys (s : State) (g : TimeUnit → TimeUnit) : (timMod s g).phys = s.phys := rfl
@[simp] theorem timMod_fns (s : State) (g : TimeUnit → TimeUnit) : (timMod s g).fns = s.fns := rfl
@[simp] theorem timMod_queues (s : State) (g : TimeUnit → TimeUnit) : (timMod s g).queues = s.queues := rfl
@[simp] theorem timMod_cells (s : State) (g : TimeUnit → TimeUnit) : (timMod s g).cells = s.cells := rfl
@[simp] theorem timMod_intr (s : State) (g : TimeUnit → TimeUnit) : (timMod s g).intr = s.intr := rfl
@[simp] theorem timMod_xlt (s : State) (g : TimeUnit → TimeUnit) : (timMod s g).xlt = s.xlt := rfl
@[simp] theorem timMod_crp (s : State) (g : TimeUnit → TimeUnit) : (timMod s g).crp = s.crp := rfl
@[simp] theorem timMod_pwr (s : State) (g : TimeUnit → TimeUnit) : (timMod s g).pwr = s.pwr := rfl
@[simp] theorem timMod_sens (s : State) (g : TimeUnit → TimeUnit) : (timMod s g).sens = s.sens := rfl
@[simp] theorem timMod_store (s : State) (g : TimeUnit → TimeUnit) : (timMod s g).store = s.store := rfl
@[simp] theorem timMod_lcs (s : State) (g : TimeUnit → TimeUnit) : (timMod s g).lcs = s.lcs := rfl
@[simp] theorem timMod_house (s : State) (g : TimeUnit → TimeUnit) : (timMod s g).house = s.house := rfl
@[simp] theorem timMod_safe (s : State) (g : TimeUnit → TimeUnit) : (timMod s g).safe = s.safe := rfl
@[simp] theorem timMod_mgmt (s : State) (g : TimeUnit → TimeUnit) : (timMod s g).mgmt = s.mgmt := rfl
@[simp] theorem timMod_pins (s : State) (g : TimeUnit → TimeUnit) : (timMod s g).pins = s.pins := rfl
@[simp] theorem timMod_boot (s : State) (g : TimeUnit → TimeUnit) : (timMod s g).boot = s.boot := rfl
@[simp] theorem timMod_trace (s : State) (g : TimeUnit → TimeUnit) : (timMod s g).trace = s.trace := rfl
@[simp] theorem timMod_recs (s : State) (g : TimeUnit → TimeUnit) : (timMod s g).recs = s.recs := rfl
@[simp] theorem timMod_foldFresh (s : State) (g : TimeUnit → TimeUnit) : (timMod s g).foldFresh = s.foldFresh := rfl
@[simp] theorem timMod_foldBy (s : State) (g : TimeUnit → TimeUnit) : (timMod s g).foldBy = s.foldBy := rfl
@[simp] theorem timMod_clearing (s : State) (g : TimeUnit → TimeUnit) : (timMod s g).clearing = s.clearing := rfl
@[simp] theorem timMod_freeCtr (s : State) (g : TimeUnit → TimeUnit) : (timMod s g).freeCtr = s.freeCtr := rfl
@[simp] theorem timMod_out (s : State) (g : TimeUnit → TimeUnit) : (timMod s g).out = s.out := rfl
@[simp] theorem timMod_pending (s : State) (g : TimeUnit → TimeUnit) : (timMod s g).pending = s.pending := rfl

@[simp] theorem storeMod_regs (s : State) (g : Store → Store) : (storeMod s g).regs = s.regs := rfl
@[simp] theorem storeMod_hwSet (s : State) (g : Store → Store) : (storeMod s g).hwSet = s.hwSet := rfl
@[simp] theorem storeMod_parLive (s : State) (g : Store → Store) : (storeMod s g).parLive = s.parLive := rfl
@[simp] theorem storeMod_parShadow (s : State) (g : Store → Store) : (storeMod s g).parShadow = s.parShadow := rfl
@[simp] theorem storeMod_mbox (s : State) (g : Store → Store) : (storeMod s g).mbox = s.mbox := rfl
@[simp] theorem storeMod_decks (s : State) (g : Store → Store) : (storeMod s g).decks = s.decks := rfl
@[simp] theorem storeMod_gen (s : State) (g : Store → Store) : (storeMod s g).gen = s.gen := rfl
@[simp] theorem storeMod_tokenCtr (s : State) (g : Store → Store) : (storeMod s g).tokenCtr = s.tokenCtr := rfl
@[simp] theorem storeMod_activeId (s : State) (g : Store → Store) : (storeMod s g).activeId = s.activeId := rfl
@[simp] theorem storeMod_time (s : State) (g : Store → Store) : (storeMod s g).time = s.time := rfl
@[simp] theorem storeMod_tim (s : State) (g : Store → Store) : (storeMod s g).tim = s.tim := rfl
@[simp] theorem storeMod_talon (s : State) (g : Store → Store) : (storeMod s g).talon = s.talon := rfl
@[simp] theorem storeMod_dealer (s : State) (g : Store → Store) : (storeMod s g).dealer = s.dealer := rfl
@[simp] theorem storeMod_xacts (s : State) (g : Store → Store) : (storeMod s g).xacts = s.xacts := rfl
@[simp] theorem storeMod_seats (s : State) (g : Store → Store) : (storeMod s g).seats = s.seats := rfl
@[simp] theorem storeMod_lanes (s : State) (g : Store → Store) : (storeMod s g).lanes = s.lanes := rfl
@[simp] theorem storeMod_lfw (s : State) (g : Store → Store) : (storeMod s g).lfw = s.lfw := rfl
@[simp] theorem storeMod_links (s : State) (g : Store → Store) : (storeMod s g).links = s.links := rfl
@[simp] theorem storeMod_phys (s : State) (g : Store → Store) : (storeMod s g).phys = s.phys := rfl
@[simp] theorem storeMod_fns (s : State) (g : Store → Store) : (storeMod s g).fns = s.fns := rfl
@[simp] theorem storeMod_queues (s : State) (g : Store → Store) : (storeMod s g).queues = s.queues := rfl
@[simp] theorem storeMod_cells (s : State) (g : Store → Store) : (storeMod s g).cells = s.cells := rfl
@[simp] theorem storeMod_intr (s : State) (g : Store → Store) : (storeMod s g).intr = s.intr := rfl
@[simp] theorem storeMod_xlt (s : State) (g : Store → Store) : (storeMod s g).xlt = s.xlt := rfl
@[simp] theorem storeMod_crp (s : State) (g : Store → Store) : (storeMod s g).crp = s.crp := rfl
@[simp] theorem storeMod_pwr (s : State) (g : Store → Store) : (storeMod s g).pwr = s.pwr := rfl
@[simp] theorem storeMod_sens (s : State) (g : Store → Store) : (storeMod s g).sens = s.sens := rfl
@[simp] theorem storeMod_lcs (s : State) (g : Store → Store) : (storeMod s g).lcs = s.lcs := rfl
@[simp] theorem storeMod_house (s : State) (g : Store → Store) : (storeMod s g).house = s.house := rfl
@[simp] theorem storeMod_safe (s : State) (g : Store → Store) : (storeMod s g).safe = s.safe := rfl
@[simp] theorem storeMod_mgmt (s : State) (g : Store → Store) : (storeMod s g).mgmt = s.mgmt := rfl
@[simp] theorem storeMod_pins (s : State) (g : Store → Store) : (storeMod s g).pins = s.pins := rfl
@[simp] theorem storeMod_boot (s : State) (g : Store → Store) : (storeMod s g).boot = s.boot := rfl
@[simp] theorem storeMod_trace (s : State) (g : Store → Store) : (storeMod s g).trace = s.trace := rfl
@[simp] theorem storeMod_recs (s : State) (g : Store → Store) : (storeMod s g).recs = s.recs := rfl
@[simp] theorem storeMod_foldFresh (s : State) (g : Store → Store) : (storeMod s g).foldFresh = s.foldFresh := rfl
@[simp] theorem storeMod_foldBy (s : State) (g : Store → Store) : (storeMod s g).foldBy = s.foldBy := rfl
@[simp] theorem storeMod_clearing (s : State) (g : Store → Store) : (storeMod s g).clearing = s.clearing := rfl
@[simp] theorem storeMod_freeCtr (s : State) (g : Store → Store) : (storeMod s g).freeCtr = s.freeCtr := rfl
@[simp] theorem storeMod_out (s : State) (g : Store → Store) : (storeMod s g).out = s.out := rfl
@[simp] theorem storeMod_pending (s : State) (g : Store → Store) : (storeMod s g).pending = s.pending := rfl

@[simp] theorem crpMod_regs (s : State) (g : Croupier → Croupier) : (crpMod s g).regs = s.regs := rfl
@[simp] theorem crpMod_hwSet (s : State) (g : Croupier → Croupier) : (crpMod s g).hwSet = s.hwSet := rfl
@[simp] theorem crpMod_parLive (s : State) (g : Croupier → Croupier) : (crpMod s g).parLive = s.parLive := rfl
@[simp] theorem crpMod_parShadow (s : State) (g : Croupier → Croupier) : (crpMod s g).parShadow = s.parShadow := rfl
@[simp] theorem crpMod_mbox (s : State) (g : Croupier → Croupier) : (crpMod s g).mbox = s.mbox := rfl
@[simp] theorem crpMod_decks (s : State) (g : Croupier → Croupier) : (crpMod s g).decks = s.decks := rfl
@[simp] theorem crpMod_gen (s : State) (g : Croupier → Croupier) : (crpMod s g).gen = s.gen := rfl
@[simp] theorem crpMod_tokenCtr (s : State) (g : Croupier → Croupier) : (crpMod s g).tokenCtr = s.tokenCtr := rfl
@[simp] theorem crpMod_activeId (s : State) (g : Croupier → Croupier) : (crpMod s g).activeId = s.activeId := rfl
@[simp] theorem crpMod_time (s : State) (g : Croupier → Croupier) : (crpMod s g).time = s.time := rfl
@[simp] theorem crpMod_tim (s : State) (g : Croupier → Croupier) : (crpMod s g).tim = s.tim := rfl
@[simp] theorem crpMod_talon (s : State) (g : Croupier → Croupier) : (crpMod s g).talon = s.talon := rfl
@[simp] theorem crpMod_dealer (s : State) (g : Croupier → Croupier) : (crpMod s g).dealer = s.dealer := rfl
@[simp] theorem crpMod_xacts (s : State) (g : Croupier → Croupier) : (crpMod s g).xacts = s.xacts := rfl
@[simp] theorem crpMod_seats (s : State) (g : Croupier → Croupier) : (crpMod s g).seats = s.seats := rfl
@[simp] theorem crpMod_lanes (s : State) (g : Croupier → Croupier) : (crpMod s g).lanes = s.lanes := rfl
@[simp] theorem crpMod_lfw (s : State) (g : Croupier → Croupier) : (crpMod s g).lfw = s.lfw := rfl
@[simp] theorem crpMod_links (s : State) (g : Croupier → Croupier) : (crpMod s g).links = s.links := rfl
@[simp] theorem crpMod_phys (s : State) (g : Croupier → Croupier) : (crpMod s g).phys = s.phys := rfl
@[simp] theorem crpMod_fns (s : State) (g : Croupier → Croupier) : (crpMod s g).fns = s.fns := rfl
@[simp] theorem crpMod_queues (s : State) (g : Croupier → Croupier) : (crpMod s g).queues = s.queues := rfl
@[simp] theorem crpMod_cells (s : State) (g : Croupier → Croupier) : (crpMod s g).cells = s.cells := rfl
@[simp] theorem crpMod_intr (s : State) (g : Croupier → Croupier) : (crpMod s g).intr = s.intr := rfl
@[simp] theorem crpMod_xlt (s : State) (g : Croupier → Croupier) : (crpMod s g).xlt = s.xlt := rfl
@[simp] theorem crpMod_pwr (s : State) (g : Croupier → Croupier) : (crpMod s g).pwr = s.pwr := rfl
@[simp] theorem crpMod_sens (s : State) (g : Croupier → Croupier) : (crpMod s g).sens = s.sens := rfl
@[simp] theorem crpMod_store (s : State) (g : Croupier → Croupier) : (crpMod s g).store = s.store := rfl
@[simp] theorem crpMod_lcs (s : State) (g : Croupier → Croupier) : (crpMod s g).lcs = s.lcs := rfl
@[simp] theorem crpMod_house (s : State) (g : Croupier → Croupier) : (crpMod s g).house = s.house := rfl
@[simp] theorem crpMod_safe (s : State) (g : Croupier → Croupier) : (crpMod s g).safe = s.safe := rfl
@[simp] theorem crpMod_mgmt (s : State) (g : Croupier → Croupier) : (crpMod s g).mgmt = s.mgmt := rfl
@[simp] theorem crpMod_pins (s : State) (g : Croupier → Croupier) : (crpMod s g).pins = s.pins := rfl
@[simp] theorem crpMod_boot (s : State) (g : Croupier → Croupier) : (crpMod s g).boot = s.boot := rfl
@[simp] theorem crpMod_trace (s : State) (g : Croupier → Croupier) : (crpMod s g).trace = s.trace := rfl
@[simp] theorem crpMod_recs (s : State) (g : Croupier → Croupier) : (crpMod s g).recs = s.recs := rfl
@[simp] theorem crpMod_foldFresh (s : State) (g : Croupier → Croupier) : (crpMod s g).foldFresh = s.foldFresh := rfl
@[simp] theorem crpMod_foldBy (s : State) (g : Croupier → Croupier) : (crpMod s g).foldBy = s.foldBy := rfl
@[simp] theorem crpMod_clearing (s : State) (g : Croupier → Croupier) : (crpMod s g).clearing = s.clearing := rfl
@[simp] theorem crpMod_freeCtr (s : State) (g : Croupier → Croupier) : (crpMod s g).freeCtr = s.freeCtr := rfl
@[simp] theorem crpMod_out (s : State) (g : Croupier → Croupier) : (crpMod s g).out = s.out := rfl
@[simp] theorem crpMod_pending (s : State) (g : Croupier → Croupier) : (crpMod s g).pending = s.pending := rfl

@[simp] theorem engMod_regs (s : State) (n : Nat) (g : Eng → Eng) : (engMod s n g).regs = s.regs := rfl
@[simp] theorem engMod_hwSet (s : State) (n : Nat) (g : Eng → Eng) : (engMod s n g).hwSet = s.hwSet := rfl
@[simp] theorem engMod_parLive (s : State) (n : Nat) (g : Eng → Eng) : (engMod s n g).parLive = s.parLive := rfl
@[simp] theorem engMod_parShadow (s : State) (n : Nat) (g : Eng → Eng) : (engMod s n g).parShadow = s.parShadow := rfl
@[simp] theorem engMod_mbox (s : State) (n : Nat) (g : Eng → Eng) : (engMod s n g).mbox = s.mbox := rfl
@[simp] theorem engMod_decks (s : State) (n : Nat) (g : Eng → Eng) : (engMod s n g).decks = s.decks := rfl
@[simp] theorem engMod_gen (s : State) (n : Nat) (g : Eng → Eng) : (engMod s n g).gen = s.gen := rfl
@[simp] theorem engMod_tokenCtr (s : State) (n : Nat) (g : Eng → Eng) : (engMod s n g).tokenCtr = s.tokenCtr := rfl
@[simp] theorem engMod_activeId (s : State) (n : Nat) (g : Eng → Eng) : (engMod s n g).activeId = s.activeId := rfl
@[simp] theorem engMod_time (s : State) (n : Nat) (g : Eng → Eng) : (engMod s n g).time = s.time := rfl
@[simp] theorem engMod_tim (s : State) (n : Nat) (g : Eng → Eng) : (engMod s n g).tim = s.tim := rfl
@[simp] theorem engMod_talon (s : State) (n : Nat) (g : Eng → Eng) : (engMod s n g).talon = s.talon := rfl
@[simp] theorem engMod_dealer (s : State) (n : Nat) (g : Eng → Eng) : (engMod s n g).dealer = s.dealer := rfl
@[simp] theorem engMod_xacts (s : State) (n : Nat) (g : Eng → Eng) : (engMod s n g).xacts = s.xacts := rfl
@[simp] theorem engMod_seats (s : State) (n : Nat) (g : Eng → Eng) : (engMod s n g).seats = s.seats := rfl
@[simp] theorem engMod_lanes (s : State) (n : Nat) (g : Eng → Eng) : (engMod s n g).lanes = s.lanes := rfl
@[simp] theorem engMod_lfw (s : State) (n : Nat) (g : Eng → Eng) : (engMod s n g).lfw = s.lfw := rfl
@[simp] theorem engMod_links (s : State) (n : Nat) (g : Eng → Eng) : (engMod s n g).links = s.links := rfl
@[simp] theorem engMod_phys (s : State) (n : Nat) (g : Eng → Eng) : (engMod s n g).phys = s.phys := rfl
@[simp] theorem engMod_fns (s : State) (n : Nat) (g : Eng → Eng) : (engMod s n g).fns = s.fns := rfl
@[simp] theorem engMod_queues (s : State) (n : Nat) (g : Eng → Eng) : (engMod s n g).queues = s.queues := rfl
@[simp] theorem engMod_cells (s : State) (n : Nat) (g : Eng → Eng) : (engMod s n g).cells = s.cells := rfl
@[simp] theorem engMod_intr (s : State) (n : Nat) (g : Eng → Eng) : (engMod s n g).intr = s.intr := rfl
@[simp] theorem engMod_xlt (s : State) (n : Nat) (g : Eng → Eng) : (engMod s n g).xlt = s.xlt := rfl
@[simp] theorem engMod_pwr (s : State) (n : Nat) (g : Eng → Eng) : (engMod s n g).pwr = s.pwr := rfl
@[simp] theorem engMod_sens (s : State) (n : Nat) (g : Eng → Eng) : (engMod s n g).sens = s.sens := rfl
@[simp] theorem engMod_store (s : State) (n : Nat) (g : Eng → Eng) : (engMod s n g).store = s.store := rfl
@[simp] theorem engMod_lcs (s : State) (n : Nat) (g : Eng → Eng) : (engMod s n g).lcs = s.lcs := rfl
@[simp] theorem engMod_house (s : State) (n : Nat) (g : Eng → Eng) : (engMod s n g).house = s.house := rfl
@[simp] theorem engMod_safe (s : State) (n : Nat) (g : Eng → Eng) : (engMod s n g).safe = s.safe := rfl
@[simp] theorem engMod_mgmt (s : State) (n : Nat) (g : Eng → Eng) : (engMod s n g).mgmt = s.mgmt := rfl
@[simp] theorem engMod_pins (s : State) (n : Nat) (g : Eng → Eng) : (engMod s n g).pins = s.pins := rfl
@[simp] theorem engMod_boot (s : State) (n : Nat) (g : Eng → Eng) : (engMod s n g).boot = s.boot := rfl
@[simp] theorem engMod_trace (s : State) (n : Nat) (g : Eng → Eng) : (engMod s n g).trace = s.trace := rfl
@[simp] theorem engMod_recs (s : State) (n : Nat) (g : Eng → Eng) : (engMod s n g).recs = s.recs := rfl
@[simp] theorem engMod_foldFresh (s : State) (n : Nat) (g : Eng → Eng) : (engMod s n g).foldFresh = s.foldFresh := rfl
@[simp] theorem engMod_foldBy (s : State) (n : Nat) (g : Eng → Eng) : (engMod s n g).foldBy = s.foldBy := rfl
@[simp] theorem engMod_clearing (s : State) (n : Nat) (g : Eng → Eng) : (engMod s n g).clearing = s.clearing := rfl
@[simp] theorem engMod_freeCtr (s : State) (n : Nat) (g : Eng → Eng) : (engMod s n g).freeCtr = s.freeCtr := rfl
@[simp] theorem engMod_out (s : State) (n : Nat) (g : Eng → Eng) : (engMod s n g).out = s.out := rfl
@[simp] theorem engMod_pending (s : State) (n : Nat) (g : Eng → Eng) : (engMod s n g).pending = s.pending := rfl

@[simp] theorem pwrMod_regs (s : State) (g : Power → Power) : (pwrMod s g).regs = s.regs := rfl
@[simp] theorem pwrMod_hwSet (s : State) (g : Power → Power) : (pwrMod s g).hwSet = s.hwSet := rfl
@[simp] theorem pwrMod_parLive (s : State) (g : Power → Power) : (pwrMod s g).parLive = s.parLive := rfl
@[simp] theorem pwrMod_parShadow (s : State) (g : Power → Power) : (pwrMod s g).parShadow = s.parShadow := rfl
@[simp] theorem pwrMod_mbox (s : State) (g : Power → Power) : (pwrMod s g).mbox = s.mbox := rfl
@[simp] theorem pwrMod_decks (s : State) (g : Power → Power) : (pwrMod s g).decks = s.decks := rfl
@[simp] theorem pwrMod_gen (s : State) (g : Power → Power) : (pwrMod s g).gen = s.gen := rfl
@[simp] theorem pwrMod_tokenCtr (s : State) (g : Power → Power) : (pwrMod s g).tokenCtr = s.tokenCtr := rfl
@[simp] theorem pwrMod_activeId (s : State) (g : Power → Power) : (pwrMod s g).activeId = s.activeId := rfl
@[simp] theorem pwrMod_time (s : State) (g : Power → Power) : (pwrMod s g).time = s.time := rfl
@[simp] theorem pwrMod_tim (s : State) (g : Power → Power) : (pwrMod s g).tim = s.tim := rfl
@[simp] theorem pwrMod_talon (s : State) (g : Power → Power) : (pwrMod s g).talon = s.talon := rfl
@[simp] theorem pwrMod_dealer (s : State) (g : Power → Power) : (pwrMod s g).dealer = s.dealer := rfl
@[simp] theorem pwrMod_xacts (s : State) (g : Power → Power) : (pwrMod s g).xacts = s.xacts := rfl
@[simp] theorem pwrMod_seats (s : State) (g : Power → Power) : (pwrMod s g).seats = s.seats := rfl
@[simp] theorem pwrMod_lanes (s : State) (g : Power → Power) : (pwrMod s g).lanes = s.lanes := rfl
@[simp] theorem pwrMod_lfw (s : State) (g : Power → Power) : (pwrMod s g).lfw = s.lfw := rfl
@[simp] theorem pwrMod_links (s : State) (g : Power → Power) : (pwrMod s g).links = s.links := rfl
@[simp] theorem pwrMod_phys (s : State) (g : Power → Power) : (pwrMod s g).phys = s.phys := rfl
@[simp] theorem pwrMod_fns (s : State) (g : Power → Power) : (pwrMod s g).fns = s.fns := rfl
@[simp] theorem pwrMod_queues (s : State) (g : Power → Power) : (pwrMod s g).queues = s.queues := rfl
@[simp] theorem pwrMod_cells (s : State) (g : Power → Power) : (pwrMod s g).cells = s.cells := rfl
@[simp] theorem pwrMod_intr (s : State) (g : Power → Power) : (pwrMod s g).intr = s.intr := rfl
@[simp] theorem pwrMod_xlt (s : State) (g : Power → Power) : (pwrMod s g).xlt = s.xlt := rfl
@[simp] theorem pwrMod_crp (s : State) (g : Power → Power) : (pwrMod s g).crp = s.crp := rfl
@[simp] theorem pwrMod_sens (s : State) (g : Power → Power) : (pwrMod s g).sens = s.sens := rfl
@[simp] theorem pwrMod_store (s : State) (g : Power → Power) : (pwrMod s g).store = s.store := rfl
@[simp] theorem pwrMod_lcs (s : State) (g : Power → Power) : (pwrMod s g).lcs = s.lcs := rfl
@[simp] theorem pwrMod_house (s : State) (g : Power → Power) : (pwrMod s g).house = s.house := rfl
@[simp] theorem pwrMod_safe (s : State) (g : Power → Power) : (pwrMod s g).safe = s.safe := rfl
@[simp] theorem pwrMod_mgmt (s : State) (g : Power → Power) : (pwrMod s g).mgmt = s.mgmt := rfl
@[simp] theorem pwrMod_pins (s : State) (g : Power → Power) : (pwrMod s g).pins = s.pins := rfl
@[simp] theorem pwrMod_boot (s : State) (g : Power → Power) : (pwrMod s g).boot = s.boot := rfl
@[simp] theorem pwrMod_trace (s : State) (g : Power → Power) : (pwrMod s g).trace = s.trace := rfl
@[simp] theorem pwrMod_recs (s : State) (g : Power → Power) : (pwrMod s g).recs = s.recs := rfl
@[simp] theorem pwrMod_foldFresh (s : State) (g : Power → Power) : (pwrMod s g).foldFresh = s.foldFresh := rfl
@[simp] theorem pwrMod_foldBy (s : State) (g : Power → Power) : (pwrMod s g).foldBy = s.foldBy := rfl
@[simp] theorem pwrMod_clearing (s : State) (g : Power → Power) : (pwrMod s g).clearing = s.clearing := rfl
@[simp] theorem pwrMod_freeCtr (s : State) (g : Power → Power) : (pwrMod s g).freeCtr = s.freeCtr := rfl
@[simp] theorem pwrMod_out (s : State) (g : Power → Power) : (pwrMod s g).out = s.out := rfl
@[simp] theorem pwrMod_pending (s : State) (g : Power → Power) : (pwrMod s g).pending = s.pending := rfl

@[simp] theorem lcsMod_regs (s : State) (g : LifeCycle → LifeCycle) : (lcsMod s g).regs = s.regs := rfl
@[simp] theorem lcsMod_hwSet (s : State) (g : LifeCycle → LifeCycle) : (lcsMod s g).hwSet = s.hwSet := rfl
@[simp] theorem lcsMod_parLive (s : State) (g : LifeCycle → LifeCycle) : (lcsMod s g).parLive = s.parLive := rfl
@[simp] theorem lcsMod_parShadow (s : State) (g : LifeCycle → LifeCycle) : (lcsMod s g).parShadow = s.parShadow := rfl
@[simp] theorem lcsMod_mbox (s : State) (g : LifeCycle → LifeCycle) : (lcsMod s g).mbox = s.mbox := rfl
@[simp] theorem lcsMod_decks (s : State) (g : LifeCycle → LifeCycle) : (lcsMod s g).decks = s.decks := rfl
@[simp] theorem lcsMod_gen (s : State) (g : LifeCycle → LifeCycle) : (lcsMod s g).gen = s.gen := rfl
@[simp] theorem lcsMod_tokenCtr (s : State) (g : LifeCycle → LifeCycle) : (lcsMod s g).tokenCtr = s.tokenCtr := rfl
@[simp] theorem lcsMod_activeId (s : State) (g : LifeCycle → LifeCycle) : (lcsMod s g).activeId = s.activeId := rfl
@[simp] theorem lcsMod_time (s : State) (g : LifeCycle → LifeCycle) : (lcsMod s g).time = s.time := rfl
@[simp] theorem lcsMod_tim (s : State) (g : LifeCycle → LifeCycle) : (lcsMod s g).tim = s.tim := rfl
@[simp] theorem lcsMod_talon (s : State) (g : LifeCycle → LifeCycle) : (lcsMod s g).talon = s.talon := rfl
@[simp] theorem lcsMod_dealer (s : State) (g : LifeCycle → LifeCycle) : (lcsMod s g).dealer = s.dealer := rfl
@[simp] theorem lcsMod_xacts (s : State) (g : LifeCycle → LifeCycle) : (lcsMod s g).xacts = s.xacts := rfl
@[simp] theorem lcsMod_seats (s : State) (g : LifeCycle → LifeCycle) : (lcsMod s g).seats = s.seats := rfl
@[simp] theorem lcsMod_lanes (s : State) (g : LifeCycle → LifeCycle) : (lcsMod s g).lanes = s.lanes := rfl
@[simp] theorem lcsMod_lfw (s : State) (g : LifeCycle → LifeCycle) : (lcsMod s g).lfw = s.lfw := rfl
@[simp] theorem lcsMod_links (s : State) (g : LifeCycle → LifeCycle) : (lcsMod s g).links = s.links := rfl
@[simp] theorem lcsMod_phys (s : State) (g : LifeCycle → LifeCycle) : (lcsMod s g).phys = s.phys := rfl
@[simp] theorem lcsMod_fns (s : State) (g : LifeCycle → LifeCycle) : (lcsMod s g).fns = s.fns := rfl
@[simp] theorem lcsMod_queues (s : State) (g : LifeCycle → LifeCycle) : (lcsMod s g).queues = s.queues := rfl
@[simp] theorem lcsMod_cells (s : State) (g : LifeCycle → LifeCycle) : (lcsMod s g).cells = s.cells := rfl
@[simp] theorem lcsMod_intr (s : State) (g : LifeCycle → LifeCycle) : (lcsMod s g).intr = s.intr := rfl
@[simp] theorem lcsMod_xlt (s : State) (g : LifeCycle → LifeCycle) : (lcsMod s g).xlt = s.xlt := rfl
@[simp] theorem lcsMod_crp (s : State) (g : LifeCycle → LifeCycle) : (lcsMod s g).crp = s.crp := rfl
@[simp] theorem lcsMod_pwr (s : State) (g : LifeCycle → LifeCycle) : (lcsMod s g).pwr = s.pwr := rfl
@[simp] theorem lcsMod_sens (s : State) (g : LifeCycle → LifeCycle) : (lcsMod s g).sens = s.sens := rfl
@[simp] theorem lcsMod_store (s : State) (g : LifeCycle → LifeCycle) : (lcsMod s g).store = s.store := rfl
@[simp] theorem lcsMod_house (s : State) (g : LifeCycle → LifeCycle) : (lcsMod s g).house = s.house := rfl
@[simp] theorem lcsMod_safe (s : State) (g : LifeCycle → LifeCycle) : (lcsMod s g).safe = s.safe := rfl
@[simp] theorem lcsMod_mgmt (s : State) (g : LifeCycle → LifeCycle) : (lcsMod s g).mgmt = s.mgmt := rfl
@[simp] theorem lcsMod_pins (s : State) (g : LifeCycle → LifeCycle) : (lcsMod s g).pins = s.pins := rfl
@[simp] theorem lcsMod_boot (s : State) (g : LifeCycle → LifeCycle) : (lcsMod s g).boot = s.boot := rfl
@[simp] theorem lcsMod_trace (s : State) (g : LifeCycle → LifeCycle) : (lcsMod s g).trace = s.trace := rfl
@[simp] theorem lcsMod_recs (s : State) (g : LifeCycle → LifeCycle) : (lcsMod s g).recs = s.recs := rfl
@[simp] theorem lcsMod_foldFresh (s : State) (g : LifeCycle → LifeCycle) : (lcsMod s g).foldFresh = s.foldFresh := rfl
@[simp] theorem lcsMod_foldBy (s : State) (g : LifeCycle → LifeCycle) : (lcsMod s g).foldBy = s.foldBy := rfl
@[simp] theorem lcsMod_clearing (s : State) (g : LifeCycle → LifeCycle) : (lcsMod s g).clearing = s.clearing := rfl
@[simp] theorem lcsMod_freeCtr (s : State) (g : LifeCycle → LifeCycle) : (lcsMod s g).freeCtr = s.freeCtr := rfl
@[simp] theorem lcsMod_out (s : State) (g : LifeCycle → LifeCycle) : (lcsMod s g).out = s.out := rfl
@[simp] theorem lcsMod_pending (s : State) (g : LifeCycle → LifeCycle) : (lcsMod s g).pending = s.pending := rfl

@[simp] theorem mboxMod_regs (s : State) (n : Nat) (g : Mbox → Mbox) : (mboxMod s n g).regs = s.regs := rfl
@[simp] theorem mboxMod_hwSet (s : State) (n : Nat) (g : Mbox → Mbox) : (mboxMod s n g).hwSet = s.hwSet := rfl
@[simp] theorem mboxMod_parLive (s : State) (n : Nat) (g : Mbox → Mbox) : (mboxMod s n g).parLive = s.parLive := rfl
@[simp] theorem mboxMod_parShadow (s : State) (n : Nat) (g : Mbox → Mbox) : (mboxMod s n g).parShadow = s.parShadow := rfl
@[simp] theorem mboxMod_decks (s : State) (n : Nat) (g : Mbox → Mbox) : (mboxMod s n g).decks = s.decks := rfl
@[simp] theorem mboxMod_gen (s : State) (n : Nat) (g : Mbox → Mbox) : (mboxMod s n g).gen = s.gen := rfl
@[simp] theorem mboxMod_tokenCtr (s : State) (n : Nat) (g : Mbox → Mbox) : (mboxMod s n g).tokenCtr = s.tokenCtr := rfl
@[simp] theorem mboxMod_activeId (s : State) (n : Nat) (g : Mbox → Mbox) : (mboxMod s n g).activeId = s.activeId := rfl
@[simp] theorem mboxMod_time (s : State) (n : Nat) (g : Mbox → Mbox) : (mboxMod s n g).time = s.time := rfl
@[simp] theorem mboxMod_tim (s : State) (n : Nat) (g : Mbox → Mbox) : (mboxMod s n g).tim = s.tim := rfl
@[simp] theorem mboxMod_talon (s : State) (n : Nat) (g : Mbox → Mbox) : (mboxMod s n g).talon = s.talon := rfl
@[simp] theorem mboxMod_dealer (s : State) (n : Nat) (g : Mbox → Mbox) : (mboxMod s n g).dealer = s.dealer := rfl
@[simp] theorem mboxMod_xacts (s : State) (n : Nat) (g : Mbox → Mbox) : (mboxMod s n g).xacts = s.xacts := rfl
@[simp] theorem mboxMod_seats (s : State) (n : Nat) (g : Mbox → Mbox) : (mboxMod s n g).seats = s.seats := rfl
@[simp] theorem mboxMod_lanes (s : State) (n : Nat) (g : Mbox → Mbox) : (mboxMod s n g).lanes = s.lanes := rfl
@[simp] theorem mboxMod_lfw (s : State) (n : Nat) (g : Mbox → Mbox) : (mboxMod s n g).lfw = s.lfw := rfl
@[simp] theorem mboxMod_links (s : State) (n : Nat) (g : Mbox → Mbox) : (mboxMod s n g).links = s.links := rfl
@[simp] theorem mboxMod_phys (s : State) (n : Nat) (g : Mbox → Mbox) : (mboxMod s n g).phys = s.phys := rfl
@[simp] theorem mboxMod_fns (s : State) (n : Nat) (g : Mbox → Mbox) : (mboxMod s n g).fns = s.fns := rfl
@[simp] theorem mboxMod_queues (s : State) (n : Nat) (g : Mbox → Mbox) : (mboxMod s n g).queues = s.queues := rfl
@[simp] theorem mboxMod_cells (s : State) (n : Nat) (g : Mbox → Mbox) : (mboxMod s n g).cells = s.cells := rfl
@[simp] theorem mboxMod_intr (s : State) (n : Nat) (g : Mbox → Mbox) : (mboxMod s n g).intr = s.intr := rfl
@[simp] theorem mboxMod_xlt (s : State) (n : Nat) (g : Mbox → Mbox) : (mboxMod s n g).xlt = s.xlt := rfl
@[simp] theorem mboxMod_crp (s : State) (n : Nat) (g : Mbox → Mbox) : (mboxMod s n g).crp = s.crp := rfl
@[simp] theorem mboxMod_pwr (s : State) (n : Nat) (g : Mbox → Mbox) : (mboxMod s n g).pwr = s.pwr := rfl
@[simp] theorem mboxMod_sens (s : State) (n : Nat) (g : Mbox → Mbox) : (mboxMod s n g).sens = s.sens := rfl
@[simp] theorem mboxMod_store (s : State) (n : Nat) (g : Mbox → Mbox) : (mboxMod s n g).store = s.store := rfl
@[simp] theorem mboxMod_lcs (s : State) (n : Nat) (g : Mbox → Mbox) : (mboxMod s n g).lcs = s.lcs := rfl
@[simp] theorem mboxMod_house (s : State) (n : Nat) (g : Mbox → Mbox) : (mboxMod s n g).house = s.house := rfl
@[simp] theorem mboxMod_safe (s : State) (n : Nat) (g : Mbox → Mbox) : (mboxMod s n g).safe = s.safe := rfl
@[simp] theorem mboxMod_mgmt (s : State) (n : Nat) (g : Mbox → Mbox) : (mboxMod s n g).mgmt = s.mgmt := rfl
@[simp] theorem mboxMod_pins (s : State) (n : Nat) (g : Mbox → Mbox) : (mboxMod s n g).pins = s.pins := rfl
@[simp] theorem mboxMod_boot (s : State) (n : Nat) (g : Mbox → Mbox) : (mboxMod s n g).boot = s.boot := rfl
@[simp] theorem mboxMod_trace (s : State) (n : Nat) (g : Mbox → Mbox) : (mboxMod s n g).trace = s.trace := rfl
@[simp] theorem mboxMod_recs (s : State) (n : Nat) (g : Mbox → Mbox) : (mboxMod s n g).recs = s.recs := rfl
@[simp] theorem mboxMod_foldFresh (s : State) (n : Nat) (g : Mbox → Mbox) : (mboxMod s n g).foldFresh = s.foldFresh := rfl
@[simp] theorem mboxMod_foldBy (s : State) (n : Nat) (g : Mbox → Mbox) : (mboxMod s n g).foldBy = s.foldBy := rfl
@[simp] theorem mboxMod_clearing (s : State) (n : Nat) (g : Mbox → Mbox) : (mboxMod s n g).clearing = s.clearing := rfl
@[simp] theorem mboxMod_freeCtr (s : State) (n : Nat) (g : Mbox → Mbox) : (mboxMod s n g).freeCtr = s.freeCtr := rfl
@[simp] theorem mboxMod_out (s : State) (n : Nat) (g : Mbox → Mbox) : (mboxMod s n g).out = s.out := rfl
@[simp] theorem mboxMod_pending (s : State) (n : Nat) (g : Mbox → Mbox) : (mboxMod s n g).pending = s.pending := rfl

@[simp] theorem houseMod_regs (s : State) (g : House → House) : (houseMod s g).regs = s.regs := rfl
@[simp] theorem houseMod_hwSet (s : State) (g : House → House) : (houseMod s g).hwSet = s.hwSet := rfl
@[simp] theorem houseMod_parLive (s : State) (g : House → House) : (houseMod s g).parLive = s.parLive := rfl
@[simp] theorem houseMod_parShadow (s : State) (g : House → House) : (houseMod s g).parShadow = s.parShadow := rfl
@[simp] theorem houseMod_mbox (s : State) (g : House → House) : (houseMod s g).mbox = s.mbox := rfl
@[simp] theorem houseMod_decks (s : State) (g : House → House) : (houseMod s g).decks = s.decks := rfl
@[simp] theorem houseMod_gen (s : State) (g : House → House) : (houseMod s g).gen = s.gen := rfl
@[simp] theorem houseMod_tokenCtr (s : State) (g : House → House) : (houseMod s g).tokenCtr = s.tokenCtr := rfl
@[simp] theorem houseMod_activeId (s : State) (g : House → House) : (houseMod s g).activeId = s.activeId := rfl
@[simp] theorem houseMod_time (s : State) (g : House → House) : (houseMod s g).time = s.time := rfl
@[simp] theorem houseMod_tim (s : State) (g : House → House) : (houseMod s g).tim = s.tim := rfl
@[simp] theorem houseMod_talon (s : State) (g : House → House) : (houseMod s g).talon = s.talon := rfl
@[simp] theorem houseMod_dealer (s : State) (g : House → House) : (houseMod s g).dealer = s.dealer := rfl
@[simp] theorem houseMod_xacts (s : State) (g : House → House) : (houseMod s g).xacts = s.xacts := rfl
@[simp] theorem houseMod_seats (s : State) (g : House → House) : (houseMod s g).seats = s.seats := rfl
@[simp] theorem houseMod_lanes (s : State) (g : House → House) : (houseMod s g).lanes = s.lanes := rfl
@[simp] theorem houseMod_lfw (s : State) (g : House → House) : (houseMod s g).lfw = s.lfw := rfl
@[simp] theorem houseMod_links (s : State) (g : House → House) : (houseMod s g).links = s.links := rfl
@[simp] theorem houseMod_phys (s : State) (g : House → House) : (houseMod s g).phys = s.phys := rfl
@[simp] theorem houseMod_fns (s : State) (g : House → House) : (houseMod s g).fns = s.fns := rfl
@[simp] theorem houseMod_queues (s : State) (g : House → House) : (houseMod s g).queues = s.queues := rfl
@[simp] theorem houseMod_cells (s : State) (g : House → House) : (houseMod s g).cells = s.cells := rfl
@[simp] theorem houseMod_intr (s : State) (g : House → House) : (houseMod s g).intr = s.intr := rfl
@[simp] theorem houseMod_xlt (s : State) (g : House → House) : (houseMod s g).xlt = s.xlt := rfl
@[simp] theorem houseMod_crp (s : State) (g : House → House) : (houseMod s g).crp = s.crp := rfl
@[simp] theorem houseMod_pwr (s : State) (g : House → House) : (houseMod s g).pwr = s.pwr := rfl
@[simp] theorem houseMod_sens (s : State) (g : House → House) : (houseMod s g).sens = s.sens := rfl
@[simp] theorem houseMod_store (s : State) (g : House → House) : (houseMod s g).store = s.store := rfl
@[simp] theorem houseMod_lcs (s : State) (g : House → House) : (houseMod s g).lcs = s.lcs := rfl
@[simp] theorem houseMod_safe (s : State) (g : House → House) : (houseMod s g).safe = s.safe := rfl
@[simp] theorem houseMod_mgmt (s : State) (g : House → House) : (houseMod s g).mgmt = s.mgmt := rfl
@[simp] theorem houseMod_pins (s : State) (g : House → House) : (houseMod s g).pins = s.pins := rfl
@[simp] theorem houseMod_boot (s : State) (g : House → House) : (houseMod s g).boot = s.boot := rfl
@[simp] theorem houseMod_trace (s : State) (g : House → House) : (houseMod s g).trace = s.trace := rfl
@[simp] theorem houseMod_recs (s : State) (g : House → House) : (houseMod s g).recs = s.recs := rfl
@[simp] theorem houseMod_foldFresh (s : State) (g : House → House) : (houseMod s g).foldFresh = s.foldFresh := rfl
@[simp] theorem houseMod_foldBy (s : State) (g : House → House) : (houseMod s g).foldBy = s.foldBy := rfl
@[simp] theorem houseMod_clearing (s : State) (g : House → House) : (houseMod s g).clearing = s.clearing := rfl
@[simp] theorem houseMod_freeCtr (s : State) (g : House → House) : (houseMod s g).freeCtr = s.freeCtr := rfl
@[simp] theorem houseMod_out (s : State) (g : House → House) : (houseMod s g).out = s.out := rfl
@[simp] theorem houseMod_pending (s : State) (g : House → House) : (houseMod s g).pending = s.pending := rfl

@[simp] theorem mgmtMod_regs (s : State) (g : Mgmt → Mgmt) : (mgmtMod s g).regs = s.regs := rfl
@[simp] theorem mgmtMod_hwSet (s : State) (g : Mgmt → Mgmt) : (mgmtMod s g).hwSet = s.hwSet := rfl
@[simp] theorem mgmtMod_parLive (s : State) (g : Mgmt → Mgmt) : (mgmtMod s g).parLive = s.parLive := rfl
@[simp] theorem mgmtMod_parShadow (s : State) (g : Mgmt → Mgmt) : (mgmtMod s g).parShadow = s.parShadow := rfl
@[simp] theorem mgmtMod_mbox (s : State) (g : Mgmt → Mgmt) : (mgmtMod s g).mbox = s.mbox := rfl
@[simp] theorem mgmtMod_decks (s : State) (g : Mgmt → Mgmt) : (mgmtMod s g).decks = s.decks := rfl
@[simp] theorem mgmtMod_gen (s : State) (g : Mgmt → Mgmt) : (mgmtMod s g).gen = s.gen := rfl
@[simp] theorem mgmtMod_tokenCtr (s : State) (g : Mgmt → Mgmt) : (mgmtMod s g).tokenCtr = s.tokenCtr := rfl
@[simp] theorem mgmtMod_activeId (s : State) (g : Mgmt → Mgmt) : (mgmtMod s g).activeId = s.activeId := rfl
@[simp] theorem mgmtMod_time (s : State) (g : Mgmt → Mgmt) : (mgmtMod s g).time = s.time := rfl
@[simp] theorem mgmtMod_tim (s : State) (g : Mgmt → Mgmt) : (mgmtMod s g).tim = s.tim := rfl
@[simp] theorem mgmtMod_talon (s : State) (g : Mgmt → Mgmt) : (mgmtMod s g).talon = s.talon := rfl
@[simp] theorem mgmtMod_dealer (s : State) (g : Mgmt → Mgmt) : (mgmtMod s g).dealer = s.dealer := rfl
@[simp] theorem mgmtMod_xacts (s : State) (g : Mgmt → Mgmt) : (mgmtMod s g).xacts = s.xacts := rfl
@[simp] theorem mgmtMod_seats (s : State) (g : Mgmt → Mgmt) : (mgmtMod s g).seats = s.seats := rfl
@[simp] theorem mgmtMod_lanes (s : State) (g : Mgmt → Mgmt) : (mgmtMod s g).lanes = s.lanes := rfl
@[simp] theorem mgmtMod_lfw (s : State) (g : Mgmt → Mgmt) : (mgmtMod s g).lfw = s.lfw := rfl
@[simp] theorem mgmtMod_links (s : State) (g : Mgmt → Mgmt) : (mgmtMod s g).links = s.links := rfl
@[simp] theorem mgmtMod_phys (s : State) (g : Mgmt → Mgmt) : (mgmtMod s g).phys = s.phys := rfl
@[simp] theorem mgmtMod_fns (s : State) (g : Mgmt → Mgmt) : (mgmtMod s g).fns = s.fns := rfl
@[simp] theorem mgmtMod_queues (s : State) (g : Mgmt → Mgmt) : (mgmtMod s g).queues = s.queues := rfl
@[simp] theorem mgmtMod_cells (s : State) (g : Mgmt → Mgmt) : (mgmtMod s g).cells = s.cells := rfl
@[simp] theorem mgmtMod_intr (s : State) (g : Mgmt → Mgmt) : (mgmtMod s g).intr = s.intr := rfl
@[simp] theorem mgmtMod_xlt (s : State) (g : Mgmt → Mgmt) : (mgmtMod s g).xlt = s.xlt := rfl
@[simp] theorem mgmtMod_crp (s : State) (g : Mgmt → Mgmt) : (mgmtMod s g).crp = s.crp := rfl
@[simp] theorem mgmtMod_pwr (s : State) (g : Mgmt → Mgmt) : (mgmtMod s g).pwr = s.pwr := rfl
@[simp] theorem mgmtMod_sens (s : State) (g : Mgmt → Mgmt) : (mgmtMod s g).sens = s.sens := rfl
@[simp] theorem mgmtMod_store (s : State) (g : Mgmt → Mgmt) : (mgmtMod s g).store = s.store := rfl
@[simp] theorem mgmtMod_lcs (s : State) (g : Mgmt → Mgmt) : (mgmtMod s g).lcs = s.lcs := rfl
@[simp] theorem mgmtMod_house (s : State) (g : Mgmt → Mgmt) : (mgmtMod s g).house = s.house := rfl
@[simp] theorem mgmtMod_safe (s : State) (g : Mgmt → Mgmt) : (mgmtMod s g).safe = s.safe := rfl
@[simp] theorem mgmtMod_pins (s : State) (g : Mgmt → Mgmt) : (mgmtMod s g).pins = s.pins := rfl
@[simp] theorem mgmtMod_boot (s : State) (g : Mgmt → Mgmt) : (mgmtMod s g).boot = s.boot := rfl
@[simp] theorem mgmtMod_trace (s : State) (g : Mgmt → Mgmt) : (mgmtMod s g).trace = s.trace := rfl
@[simp] theorem mgmtMod_recs (s : State) (g : Mgmt → Mgmt) : (mgmtMod s g).recs = s.recs := rfl
@[simp] theorem mgmtMod_foldFresh (s : State) (g : Mgmt → Mgmt) : (mgmtMod s g).foldFresh = s.foldFresh := rfl
@[simp] theorem mgmtMod_foldBy (s : State) (g : Mgmt → Mgmt) : (mgmtMod s g).foldBy = s.foldBy := rfl
@[simp] theorem mgmtMod_clearing (s : State) (g : Mgmt → Mgmt) : (mgmtMod s g).clearing = s.clearing := rfl
@[simp] theorem mgmtMod_freeCtr (s : State) (g : Mgmt → Mgmt) : (mgmtMod s g).freeCtr = s.freeCtr := rfl
@[simp] theorem mgmtMod_out (s : State) (g : Mgmt → Mgmt) : (mgmtMod s g).out = s.out := rfl
@[simp] theorem mgmtMod_pending (s : State) (g : Mgmt → Mgmt) : (mgmtMod s g).pending = s.pending := rfl

end Sys2Proof.Machine
end

