-- ==== Sys2Proof/Tests/Slice0.lean ====
section
/-! SUPPORT. Tests: an ill-formed term for each check of `Instr.wf`, and for each statement a small state and operands that meet its
hypotheses together. A test is about one command on one state; its expected value comes from the rule the statement names. -/

namespace Sys2Proof.Tests

open Sys2Proof Sys2Proof.Machine Sys2Proof.Spec

/-- The state after reset. -/
def r0 : State := State.reset
/-- The part is READY, with House firmware of slot 0 READY and idle. -/
def up : State := regPut (regPut r0 0x1D4 0x70000000#32) hseStat 0x20000000#32
/-- The management controller, a trusted requester with the button. -/
def mg : Req := { code := 6, fn := 0 }
/-- PF 1's host, which has no button after reset. -/
def host1 : Req := { code := 1, fn := 1 }
/-- The answer is a next state for which `p` holds. -/
def answers (a : Answer) (p : State → Bool) : Bool :=
  match a with
  | .next t => p t
  | .fault _ => false
  | .refused _ => false

/-- A trick at which the physics brings nothing. -/
def quiet : TrickEvents := { lockstep := false, overruns := [], seals := [], eccs := [], eccCorr := 0 }

/-! ## Ill-formed commands -/

theorem wf_refuses_an_unknown_tile :
    (Instr.trickBoundary { quiet with overruns := [(12, 0)] }).wf = false ∧ (Instr.trickBoundary { quiet with overruns := [(15, 2), (11, 1)] }).wf = true ∧
    (Instr.handBoundary { quiet with overruns := [(3, 2)] } { badLength := false, slack := 0, readMv := 0 }).wf = false := by
  decide
theorem wf_refuses_a_function_of_a_bus_of_its_own :
    (Instr.registerWrite { code := 6, fn := 1 } 0 []).wf = false ∧ (Instr.stagedWrite { code := 8, fn := 7 } 0 []).wf = false ∧
    (Instr.entryLowWrite { code := 7, fn := 1 } false 0 0).wf = false := by
  decide
theorem wf_refuses_a_long_register_write :
    (Instr.registerWrite { code := 6, fn := 0 } 0 (List.replicate 9 none)).wf = false ∧ (Instr.stagedWrite { code := 6, fn := 0 } 0 (List.replicate 9 none)).wf = false := by
  decide
theorem wf_refuses_a_lane_or_group_that_no_port_has :
    (Instr.laneSignalLoss 5 16).wf = false ∧ (Instr.laneLockLoss 0 31).wf = false ∧ (Instr.laneReacquired 3 16).wf = false ∧ (Instr.laneReacqTimeout 5 16).wf = false ∧
    (Instr.laneSignalLoss 9 31).wf = true ∧ (Instr.laneFwStop 5 2).wf = false ∧ (Instr.heartbeatResumes 0 3).wf = false ∧ (Instr.laneFwStop 6 3).wf = true := by
  decide
theorem wf_refuses_a_sweep_without_seven_values :
    (Instr.romBaselineSweep 0 0 [1, 2, 3]).wf = false ∧ (Instr.romBaselineSweep 0 0 [1, 2, 3, 4, 5, 6, 7]).wf = true := by
  decide
theorem wf_refuses_rate_zero_of_a_partner :
    (Instr.seatTraining 0 { rate := 0, lanes := 16, reversed := false, flit := false, scaled := false, selNak := false, retimers := 0, inverted := [], presets := [], eq := [], deemph := false, eqAgain := false }).wf = false := by
  decide
set_option maxRecDepth 40000 in
theorem wf_refuses_more_bytes_than_a_request_carries :
    (Instr.hostMemoryRead { seat := 0, rid := 0, tag := 0, addr := 0, attr := 0, mark := .good } (List.replicate 4097 true)).wf = false ∧
    (Instr.hostMemoryWrite { seat := 0, rid := 0, tag := 0, addr := 0, attr := 0, mark := .good } (List.replicate 4097 none)).wf = false ∧
    (Instr.hostAtomicop { seat := 0, rid := 0, tag := 0, addr := 0, attr := 0, mark := .good } 0 (List.replicate 33 0)).wf = false ∧
    (Instr.configWrite { seat := 0, rid := 0, type0 := true, off := 0 } []).wf = false ∧
    (Instr.mctpMessage 0 (.write 0 (List.replicate 65 0))).wf = false := by
  decide
theorem wf_refuses_an_entry_past_its_table :
    (Instr.entryLowWrite { code := 6, fn := 0 } false 5242880 0).wf = false ∧ (Instr.entryHighWrite { code := 6, fn := 0 } true 1048576 0).wf = false ∧
    (Instr.entryLowRead { code := 6, fn := 0 } 0 true 1048576).wf = false ∧ (Instr.entryHighRead { code := 6, fn := 0 } 0 false 5242880).wf = false ∧
    (Instr.eccWriteback true 1048576).wf = false ∧ (Instr.entryLowWrite { code := 6, fn := 0 } false 5242879 0).wf = true := by
  decide
theorem wf_refuses_a_payload_longer_than_its_units :
    (Instr.hwrRx 0 { type := 9, cls := 3, poison := false, attr := 0, status := 0, seat := 0, fn := 0, tag := 0, len := 0, last := 0, posted := false, ep := 0, off := 0, data := [0] }).wf = false ∧
    (Instr.cplRx 0 { type := 3, cls := 3, poison := false, attr := 0, status := 0, seat := 0, fn := 0, tag := 0, len := 0, last := 0, posted := false, ep := 0, off := 0, data := [0] }).wf = false := by
  decide
theorem wf_refuses_a_round_without_sixteen_channels : (Instr.sensorRound [1, 2]).wf = false := by
  decide

/-! ## The Croupier -/

/-- Engine 0's pass is at `cycles`, its program is the one word `w`, and G1 and G2 hold `a` and `b`. -/
def crpAt (w : Nat) (a b : BitVec 12) (cycles : Nat) : State :=
  engMod r0 0 (fun x => { x with run := true, bank0 := [w], g := [(1, a), (2, b)], cycles := cycles })
/-- G[r] of engine 0. -/
def gOf (s : State) (r : Nat) : Nat := (tabGet (0 : BitVec 12) (engOf s 0).g r).toNat

theorem test_add_saturates :
    answers (exec (.crpAdd 0 3 1 2) (crpAt (crpWord 0x04 3 (1 * 0x400 + 2 * 0x40)) 2047#12 1#12 0)) (fun t => gOf t 3 == 2047 && (engOf t 0).v) = true := by
  decide
theorem test_subm_borrows :
    answers (exec (.crpSubm 0 3 1 2) (crpAt (crpWord 0x07 3 0x480) 1#12 2#12 0)) (fun t => gOf t 3 == 4095 && (engOf t 0).c) = true := by
  decide
theorem test_mul_leaves_24_bits :
    answers (exec (.crpMul 0 4 1 2) (crpAt (crpWord 0x0B 4 0x480) 2048#12 2048#12 0)) (fun t => gOf t 4 == 0x400 && gOf t 5 == 0) = true := by
  decide
theorem test_div_by_zero :
    answers (exec (.crpDiv 0 4 1 2) (crpAt (crpWord 0x0D 4 0x480) 4095#12 0#12 0)) (fun t => gOf t 4 == 2048 && gOf t 5 == 4095 && (engOf t 0).d) = true := by
  decide
theorem test_div_truncates :
    answers (exec (.crpDiv 0 4 1 2) (crpAt (crpWord 0x0D 4 0x480) 4089#12 2#12 0)) (fun t => gOf t 4 == 4093 && gOf t 5 == 4095) = true := by
  decide
theorem test_sar_of_twelve :
    answers (exec (.crpSar 0 3 1 2) (crpAt (crpWord 0x14 3 0x480) 2048#12 12#12 0)) (fun t => gOf t 3 == 4095 && (engOf t 0).c) = true := by
  decide
theorem test_shl_carries :
    answers (exec (.crpShl 0 3 1 2) (crpAt (crpWord 0x12 3 0x480) 0x801#12 1#12 0)) (fun t => gOf t 3 == 2 && (engOf t 0).c) = true := by
  decide
theorem test_wrong_word_is_not_run :
    answers (exec (.crpAdd 0 3 1 2) (crpAt (crpWord 0x05 3 0x480) 1#12 1#12 0)) (fun t => (engOf t 0).pc == 0 && gOf t 3 == 0) = true := by
  decide

theorem witness_croupier_arithmetic :
    Fetches (crpAt (crpWord 0x04 15 0x480) 2047#12 1#12 7679) 0 1 (crpWord 0x04 15 0x480) ∧
    Fetches (crpAt (crpWord 0x05 0 0x480) 2048#12 1#12 0) 0 1 (crpWord 0x05 0 0x480) ∧
    Fetches (crpAt (crpWord 0x08 1 0xFFF) 2048#12 0#12 0) 0 1 (crpWord 0x08 1 0xFFF) ∧
    Fetches (crpAt (crpWord 0x09 3 0x400) 2048#12 0#12 0) 0 1 (crpWord 0x09 3 0x400) ∧
    Fetches (crpAt (crpWord 0x0A 3 0x400) 2048#12 0#12 0) 0 1 (crpWord 0x0A 3 0x400) ∧
    Fetches (crpAt (crpWord 0x0C 4 0x480) 2048#12 2048#12 7678) 0 2 (crpWord 0x0C 4 0x480) ∧
    Fetches (crpAt (crpWord 0x06 3 0x480) 4095#12 1#12 0) 0 1 (crpWord 0x06 3 0x480) ∧
    Fetches (crpAt (crpWord 0x07 3 0x480) 0#12 1#12 0) 0 1 (crpWord 0x07 3 0x480) ∧
    ((14 : Fin 16).val % 2 = 0 ∧ Fetches (crpAt (crpWord 0x0B 14 0x480) 2048#12 2048#12 0) 0 2 (crpWord 0x0B 14 0x480)) ∧
    (Fetches (crpAt (crpWord 0x0D 4 0x480) 2048#12 1#12 7667) 0 13 (crpWord 0x0D 4 0x480) ∧ (1#12).toInt ≠ 0) ∧
    (Fetches (crpAt (crpWord 0x0D 4 0x480) 2048#12 4095#12 0) 0 13 (crpWord 0x0D 4 0x480) ∧ (2048#12).toInt = -2048 ∧ (4095#12).toInt = -1) ∧
    (Fetches (crpAt (crpWord 0x0D 4 0x480) 2048#12 0#12 0) 0 13 (crpWord 0x0D 4 0x480) ∧ (0#12).toInt = 0) ∧
    Fetches (crpAt (crpWord 0x12 3 0x480) 1#12 11#12 0) 0 1 (crpWord 0x12 3 0x480) ∧
    Fetches (crpAt (crpWord 0x13 3 0x480) 1#12 4095#12 0) 0 1 (crpWord 0x13 3 0x480) ∧
    Fetches (crpAt (crpWord 0x14 3 0x480) 2048#12 12#12 0) 0 1 (crpWord 0x14 3 0x480) := by
  unfold Fetches; decide

theorem witness_croupier_moves_and_logic :
    Fetches (crpAt (crpWord 0x02 3 0x400) 5#12 0#12 7679) 0 1 (crpWord 0x02 3 0x400) ∧
    Fetches (crpAt (crpWord 0x03 3 0xFFF) 5#12 0#12 0) 0 1 (crpWord 0x03 3 0xFFF) ∧
    Fetches (crpAt (crpWord 0x0E 3 0x480) 5#12 6#12 0) 0 1 (crpWord 0x0E 3 0x480) ∧
    Fetches (crpAt (crpWord 0x0F 3 0x480) 5#12 6#12 0) 0 1 (crpWord 0x0F 3 0x480) ∧
    Fetches (crpAt (crpWord 0x10 3 0x480) 5#12 6#12 0) 0 1 (crpWord 0x10 3 0x480) ∧
    Fetches (crpAt (crpWord 0x11 3 0x400) 5#12 6#12 0) 0 1 (crpWord 0x11 3 0x400) ∧
    Fetches (crpAt (crpWord 0x17 3 255) 5#12 6#12 0) 0 1 (crpWord 0x17 3 255) ∧
    Fetches (crpAt (crpWord 0x18 1 255) 5#12 6#12 0) 0 1 (crpWord 0x18 1 255) ∧
    Fetches (crpAt (crpWord 0x19 3 0x400) 5#12 6#12 0) 0 1 (crpWord 0x19 3 0x400) ∧
    Fetches (crpAt (crpWord 0x1A 3 0x400) 5#12 6#12 0) 0 1 (crpWord 0x1A 3 0x400) ∧
    Fetches (crpAt (crpWord 0x1B 3 1023) 5#12 6#12 0) 0 1 (crpWord 0x1B 3 1023) ∧
    Fetches (crpAt (crpWord 0x1C 3 0x400) 5#12 6#12 0) 0 1 (crpWord 0x1C 3 0x400) ∧
    Fetches (crpAt (crpWord 0x1D 3 0) 5#12 6#12 0) 0 1 (crpWord 0x1D 3 0) ∧
    Fetches (crpAt (crpWord 0x1E 3 31) 5#12 6#12 0) 0 1 (crpWord 0x1E 3 31) ∧
    Fetches (crpAt (crpWord 0x1F 1 31) 5#12 6#12 0) 0 1 (crpWord 0x1F 1 31) ∧
    Fetches (crpAt (crpWord 0x20 3 63) 5#12 6#12 0) 0 1 (crpWord 0x20 3 63) := by
  unfold Fetches; decide

theorem witness_croupier_compare_and_branch :
    Fetches (crpAt 0 0#12 0#12 7679) 0 1 0 ∧
    Fetches (crpAt (crpWord 0x15 0 0x480) 1#12 2#12 0) 0 1 (crpWord 0x15 0 0x480) ∧
    Fetches (crpAt (crpWord 0x16 1 0xFFF) 1#12 2#12 0) 0 1 (crpWord 0x16 1 0xFFF) ∧
    ((0 : Fin 16).val ≤ 0xA ∧ Fetches (crpAt (crpWord 0x22 0 4095) 0#12 0#12 7678) 0 2 (crpWord 0x22 0 4095)) ∧
    ((0xA : Fin 16).val ≤ 0xA ∧ (engOf (crpAt (crpWord 0x22 0xA 0) 0#12 0#12 0) 0).d = false ∧
      Fetches (crpAt (crpWord 0x22 0xA 0) 0#12 0#12 0) 0 1 (crpWord 0x22 0xA 0)) := by
  unfold Fetches; decide

/-- Action port 255 belongs to engine 0 and has a KIND. -/
def acts (w : Nat) : State := regPut (crpAt w 7#12 0#12 0) (0x0F100 + 4 * 255) 0x01000000#32

theorem witness_croupier_pass_ends :
    (Fetches (acts (crpWord 0x21 1 255)) 0 1 (crpWord 0x21 1 255) ∧ bits (regAt (acts 0) (0x0F100 + 4 * 255)) 31 28 = 0 ∧
      bits (regAt (acts 0) (0x0F100 + 4 * 255)) 27 24 ≠ 0) ∧
    (Fetches (acts (crpWord 0x21 1 0)) 0 1 (crpWord 0x21 1 0) ∧ bits (regAt (acts 0) 0x0F100) 27 24 = 0) ∧
    Fetches (acts (crpWord 0x01 0 0)) 0 1 (crpWord 0x01 0 0) ∧
    ((engOf (acts 0) 0).run = true ∧ flagAt (acts 0) (crpPg + 0x024) 8 = false) := by
  unfold Fetches; decide
theorem test_act_then_halt_commits :
    answers (exec (.crpAct 0 255 1) (acts (crpWord 0x21 1 255))) (fun t => (engOf t 0).pend == [(255, 7#12)] && (engOf t 0).commit == []) = true := by
  decide
theorem test_act_of_another_port_is_rejected :
    answers (exec (.crpAct 0 0 1) (acts (crpWord 0x21 1 0))) (fun t => (engOf t 0).pend == [] && (engOf t 0).discarded == 1) = true := by
  decide

/-- A LOAD of slot 3 into bank 1 of engine 5 is under way. -/
def loads : State := { r0 with crp := { r0.crp with load := some (3, 5, 1) } }
/-- Engine 15 runs and completed no pass in four hands. -/
def lateEng : State := regPut (engMod r0 15 (fun x => { x with since := 4 })) (engStat 15) 0x40000000#32

theorem witness_croupier_load_and_watchdog :
    (trusted r0 mg = true ∧ r0.crp.load = none ∧ fldAt r0 (hsePg + 0x120) 31 28 ≠ 4 ∧ ¬ (engEn r0 15 = true ∧ engBank r0 15 = true) ∧
      bankNamed r0 15 true = false) ∧
    loads.crp.load = some ((3 : Fin 16).val, (5 : Fin 16).val, b2n true) ∧
    (engState lateEng 15 = 1 ∧ 4 ≤ (engOf lateEng 15).since) := by
  decide
theorem test_engine_watchdog_folds_nothing :
    answers (exec (.crpWdogExpire 15) lateEng) (fun t => engState t 15 == 2 && !(folded t 0)) = true := by
  decide

/-! ## Store, life cycle, security -/

/-- The hold-up check passes: its bypass bit. -/
def byp : State := regPut up (pstPg + 0x108) 0x100#32
/-- The store is initialised. -/
def pst : State := { byp with store := { byp.store with ready := true } }
/-- A batch of one granule of `PST.CMD` is on its way. -/
def batching : State :=
  { pst with store := { pst.store with busy := some { who := .pst, addr := 0x490000, data := [1#8, 2#8], rec_ := none } } }

theorem witness_store_commands :
    (trusted pst mg = true ∧ flagAt pst (pstPg + 0x114) 27 = false ∧ pst.boot.shed = false ∧ pst.lcs.fuse ≠ 5 ∧ pst.lcs.fuse ≠ 4 ∧
      pst.store.ready = true ∧ 64 * (fldAt pst (pstPg + 0x110) 21 6 + 15 + 1) ≤ 0x10000) ∧
    (pst.store.busy = none ∧ pst.store.wait = [] ∧
      (holdup (fldPut (fldPut (fldPut (fldPut pst (pstPg + 0x114) 11 8 15) (pstPg + 0x114) 5 4 0) (pstPg + 0x114) 31 28 0) (pstPg + 0x114) 27 27 1) 16).1 = true) ∧
    (batching.store.busy.map (fun b => b.who) = some .pst) := by
  decide
theorem test_batch_done_stores :
    answers (exec .pstBatchDone batching) (fun t => t.store.mem == [(0x490000, 1#8), (0x490001, 2#8)] && t.store.busy.isNone) = true := by
  decide

/-- A power failure made its final record due. -/
def dying : State := { pst with store := { pst.store with final := some (256, 5, 7, []) } }
theorem witness_power_failure :
    (isOff pst = false ∧ pst.boot.shed = false) ∧ (dying.store.final = some (256, 5, 7, []) ∧ dying.store.busy = none) := by
  decide
theorem test_final_record_moves_head :
    answers (exec .powerFailRecord dying) (fun t => fldAt t (pstPg + 0x144) 14 0 == 4 && (regAt t (pstPg + 0x148)).toNat == 1) = true := by
  decide

/-- The fuses say `n`. -/
def fused (n : Nat) : State := { byp with lcs := { byp.lcs with fuse := n } }
/-- SCRAP's confirmation stands. -/
def scraps : State := regPut (fused 3) (lcsPg + 0x104) 0xA5C0#32
theorem witness_life_cycle :
    (∀ n ∈ [1, 2, 3], (fused n).lcs.next = 0 ∧ (fused n).boot.shed = false ∧ (holdup (fused n) 1024).1 = true ∧ (fused n).lcs.fails < 8) ∧
    (mg.code.val = 6 ∧ fldAt scraps (lcsPg + 0x104) 15 4 = 0xA5C ∧ scraps.lcs.next = 0 ∧ (holdup scraps 1024).1 = true) ∧
    ({ byp with lcs := { byp.lcs with debugLeft := some 0 } } : State).lcs.debugLeft = some 0 := by
  decide
theorem test_close_awaits_the_reset :
    answers (exec (.close mg) (fused 2)) (fun t => t.lcs.next == 3 && t.lcs.fuse == 2 && flagAt t (lcsPg + 0x100) 27) = true := by
  decide

/-- A key of sub-stream 1, receive direction, set 1. -/
def k1 : IdeKey := { stream := 3, sub := 1, dir := 0, set := 1 }
/-- Seat 2 holds a host that has session 0, and the key above is held, in use or neither. -/
def ide (keys : Tab Nat) (active : Tab Nat) : State :=
  seatMod (regPut r0 0x130 0xFFF#32) 2 (fun x => { x with sessions := [0], ide := [(3, { IdeStream.none_ with keys := keys, active := active })] })
theorem witness_security_protocols :
    (0 ∈ (seatOf (ide [] []) 2).sessions ∧ (ide [] []).lcs.fuse ≠ 5 ∧
      tabGet 0 (tabGet IdeStream.none_ (seatOf (ide [] []) 2).ide 3).active 2 ≠ 2 ∧
      tabGet 0 (tabGet IdeStream.none_ (seatOf (ide [] [(2, 2)]) 2).ide 3).active 2 = 2 ∧
      (10, 77) ∈ (tabGet IdeStream.none_ (seatOf (ide [(10, 77)] []) 2).ide 3).keys) ∧
    (seatPresent (ide [] []) 2 = true ∧ 0 ∈ (seatOf (ide [] []) 2).sessions ∧ 1 ∉ (seatOf (ide [] []) 2).sessions) ∧
    (seatPresent { ide [] [] with lcs := { r0.lcs with fuse := 5 } } 2 = true) ∧
    (seatPresent (seatMod (ide [] []) 2 (fun x => { x with sessions := [0, 1] })) 2 = true ∧
      0 ∈ (seatOf (seatMod (ide [] []) 2 (fun x => { x with sessions := [0, 1] })) 2).sessions ∧
      1 ∈ (seatOf (seatMod (ide [] []) 2 (fun x => { x with sessions := [0, 1] })) 2).sessions) := by
  decide
theorem test_key_set_go_needs_a_key :
    answers (exec (.ideKmKSetGo 2 0 k1) (ide [] [])) (fun t => (tabGet IdeStream.none_ (seatOf t 2).ide 3).active == []) = true := by
  decide
theorem test_key_exchange_opens_the_second_session :
    answers (exec (.spdmRequest 2 (.keyExchange 0)) (ide [] [])) (fun t => (seatOf t 2).sessions == [0, 1]) = true := by
  decide

/-! ## House firmware -/

/-- House firmware is READY and idle; the running slot is 0; ARG0 and ARG1 stand. -/
def house (a0 a1 : Word) : State := regPut (regPut up (hsePg + 0x104) a0) (hsePg + 0x108) a1
/-- Slot 1's area 1 was opened for FW_WRITE. -/
def area11 (s : State) : State := { s with house := { s.house with area := some (1, 1) } }
/-- The House command `op` runs. -/
def runs (op : Nat) (s : State) : State := { s with house := { s.house with cmd := some (op, mg), began := true } }
/-- House firmware restarts. -/
def restarts : State := regPut r0 hseStat 0x30000000#32
/-- The cores restart on slot 1; slot 0 ran before. -/
def activates : State := { restarts with house := { restarts.house with act := some 1, prev := some 0 } }
/-- Four hands without a kick. -/
def unkicked : State := { house 0 0 with house := { (house 0 0).house with kick := 4 } }

theorem witness_house_commands_start :
    (trusted (house 0 0) mg = true ∧ flagAt (house 0 0) hseCmd 27 = false ∧ houseState (house 0 0) = 2) ∧
    (trusted (house 1 1) mg = true ∧ flagAt (house 1 1) hseCmd 27 = false ∧ houseState (house 1 1) = 2 ∧ 1 ≠ fldAt (house 1 1) hseStat 27 27) ∧
    (trusted (area11 (house 0x7FFC00 0)) mg = true ∧ flagAt (area11 (house 0x7FFC00 0)) hseCmd 27 = false ∧ houseState (area11 (house 0x7FFC00 0)) = 2 ∧
      (area11 (house 0x7FFC00 0)).house.area = some (1, 1) ∧ (regAt (area11 (house 0x7FFC00 0)) (hsePg + 0x104)).toNat % 1024 = 0) ∧
    (activateBusy (accepted (house 1 0) mg 0x13) = false) ∧
    ((regAt (house 15 0x3C00) (hsePg + 0x108)).toNat < 0x4000 ∧ (house 15 0x3C00).lcs.fuse ≠ 5 ∧ (house 15 0x3C00).crp.load = none) := by
  decide
theorem test_fw_begin_of_the_running_slot_is_refused :
    answers (exec (.fwBegin mg) (house 0 0)) (fun t => !(flagAt t hseCmd 27)) = true := by
  decide
theorem test_fw_begin_of_the_other_slot :
    answers (exec (.fwBegin mg) (house 1 1)) (fun t => flagAt t hseCmd 27 && fldAt t hseCmd 7 0 == 0x10 && t.house.area == some (1, 1)) = true := by
  decide

theorem witness_house_ends :
    (∀ op ∈ [0x01, 0x02, 0x10, 0x11, 0x12, 0x13, 0x14, 0x15], (runs op (house 0 0)).house.cmd = some (op, mg) ∧ (runs op (house 0 0)).house.began = true) ∧
    ((runs 1 (house 0 0)).house.args.getD 0 0).toNat = 0 ∧
    (runs 2 (house 0 0)).house.record = none ∧
    (runs 2 { house 0 0 with house := { r0.house with record := some [5#8] } }).house.record = some [5#8] ∧
    ((runs 0x11 (area11 (house 0 0))).boot.shed = false ∧ (runs 0x11 (area11 (house 0 0))).house.area = some (1, 1)) ∧
    (houseState (runs 0x13 (house 0 0)) = 2 ∧ (runs 0x13 (house 0 0)).house.act = none) ∧
    ((runs 0x14 (house 0 0)).store.wait = [] ∧ (runs 0x14 (house 0 0)).store.busy = none) ∧
    (houseState restarts = 3 ∧ restarts.house.act = none ∧ restarts.house.cmd = none) ∧
    (houseState activates = 3 ∧ activates.house.act = some 1 ∧ activates.house.prev = some 0 ∧ activates.house.cmd = none) ∧
    (r0.safe.kickOff = 0) ∧
    (4 ≤ unkicked.house.kick ∧ houseState unkicked = 2 ∧ unkicked.house.cmd = none ∧ unkicked.house.prev = none) := by
  decide
theorem test_showdown_read_without_a_record :
    answers (exec (.cmdDone false) (runs 2 (house 0 0))) (fun t => fldAt t hseCmd 31 28 == 0xD && !(flagAt t hseCmd 27)) = true := by
  decide
theorem test_watchdog_restarts_the_cores :
    answers (exec .hseWdogExpire unkicked) (fun t => houseState t == 3 && fldAt t hseStat 7 0 == 1 && !(tableFolded t)) = true := by
  decide

/-! ## Decks -/

/-- Deck 0 is in state `st`, of token 5 and owner MGMT, while House firmware is READY. -/
def deck (st : Nat) : State :=
  { regPut (house 0 0) (deckReg 0 0x1A4) (BitVec.ofNat 32 (5 * 2 ^ 20 + 6 * 2 ^ 16 + 16 * st)) with store := { r0.store with ready := true } }
/-- Deck 0 runs operation `op`. -/
def deckRuns (st op : Nat) : State :=
  let s := fldPut (fldPut (deck st) (deckReg 0 0x1A4) 0 0 1) (deckReg 0 0x1A0) 3 0 op
  { s with decks := tabPut Deck.idle s.decks 0 { Deck.idle with verdict := some (0, 0, 0, 0) } }
/-- A deck-indirect write to a port's lane configuration. -/
def deckInd : State := regPut (deck 1) (deckReg 0 0x1C0) 0xF100#32

theorem witness_deck_sessions :
    (deckMay (deck 0) 0 mg = true ∧ deckState (deck 0) 0 = 0 ∧ deckBusy (deck 0) 0 = false) ∧
    (∀ st ∈ [1, 2, 3], deckMay (deck st) 0 mg = true ∧ deckOwns (deck st) 0 mg = true ∧ (5#12).toNat = deckToken (deck st) 0 ∧
      deckBusy (deck st) 0 = false ∧ deckState (deck st) 0 = st ∧ pastDisarm (deck st) 0 = false ∧ houseRuns (deck st) = true) ∧
    (0xF100 = 4 * fldAt deckInd (deckReg 0 0x1C0) 26 2 ∧ deckOwns deckInd 0 mg = true ∧ deckState deckInd 0 = 1 ∧
      stgMask 0xF100 ≠ 0 ∧ scopeOf deckInd 0xF100 = 0) := by
  decide
theorem test_open_gives_the_next_token :
    answers (exec (.deckOpen mg 0) (deck 0)) (fun t => deckState t 0 == 1 && deckToken t 0 == 1) = true := by
  decide
theorem test_abandon_with_a_bad_token :
    answers (exec (.deckAbandon mg 0 6) (deck 1)) (fun t => deckState t 0 == 1) = true := by
  decide

theorem witness_deck_checks :
    (deckBusy (deckRuns 1 2) 0 = true ∧ fldAt (deckRuns 1 2) (deckReg 0 0x1A0) 3 0 = 2 ∧ houseState (deckRuns 1 2) = 2 ∧
      (deckOf (deckRuns 1 2) 0).verdict = some (0, 0, 0, 0)) ∧
    (deckBusy (deckRuns 2 3) 0 = true ∧ fldAt (deckRuns 2 3) (deckReg 0 0x1A0) 3 0 = 3 ∧ houseState (deckRuns 2 3) = 2) ∧
    ((∀ e < 7, deckState (deck 0) e ≠ 4) ∧ houseRuns (deck 0) = true ∧ (deck 0).boot.shed = false ∧ (deck 0).store.ready = true) := by
  decide
theorem test_check_without_violation :
    answers (exec (.checkDone 0) (deckRuns 1 2)) (fun t => deckState t 0 == 2 && !(deckBusy t 0)) = true := by
  decide

theorem witness_deck_refusals :
    deckBusy (deckRuns 1 2) 0 = true ∧
    (deckBusy (deck 0) 0 = false ∧ deckMay (deck 0) 0 host1 = false) ∧
    (deckBusy (deck 1) 0 = false ∧ deckMay (deck 1) 0 mg = true ∧ deckState (deck 1) 0 ≠ 0 ∧ (6#12).toNat ≠ deckToken (deck 1) 0) ∧
    (deckBusy (deck 0) 0 = false ∧ deckMay (deck 0) 0 mg = true ∧ deckState (deck 0) 0 = 0) := by
  decide

/-! ## Registers -/

theorem plain_pst_addr : Plain pst mg (pstPg + 0x110) :=
  ⟨by decide, by decide, by decide, by decide, by decide, by decide, by decide, fun _ => ⟨rfl, rfl⟩, by decide⟩
theorem plain_staged : Plain (deck 1) mg 0xF100 :=
  ⟨by decide, by decide, by decide, by decide, by decide, by decide, by decide, fun _ => ⟨rfl, rfl⟩, by decide⟩
theorem plain_lock : Plain pst mg ((safPg / 0x1000) * 0x1000 + 0x008) :=
  ⟨by decide, by decide, by decide, by decide, by decide, by decide, by decide, fun _ => ⟨rfl, rfl⟩, by decide⟩
theorem witness_register_writes :
    (pstPg + 0x110) % 4 = 0 ∧
    (bitsOf 0xF100 [.rw, .rws, .rwl, .w1c, .w1s] = 0 ∧ bitsOf 0xF100 [.stg] ≠ 0 ∧ deckState (deck 1) (scopeOf (deck 1) 0xF100) = 1 ∧
      deckOwns (deck 1) (scopeOf (deck 1) 0xF100) mg = true) ∧
    (mayAccess pst mg = true ∧ (target pst mg (safPg + 0x018)).1 = .reg (safPg + 0x018) ∧ openTo pst mg (safPg + 0x018) = true) := by
  decide
theorem test_register_write :
    answers (exec (.registerWrite mg (BitVec.ofNat 27 (pstPg + 0x110)) ((wordBytes 0xFFFFFFFF#32).map some)) pst)
      (fun t => regAt t (pstPg + 0x110) == 0x003FFFC0#32) = true := by
  decide
theorem test_staged_write_keeps_the_live_value :
    answers (exec (.stagedWrite mg 0xF100 ((wordBytes 0x12345678#32).map some)) (deck 1))
      (fun t => regAt t 0xF100 == regAt (deck 1) 0xF100 && prospective t 0 0xF100 != regAt (deck 1) 0xF100) = true := by
  decide

/-- Registers with bits of the codes that PlainWrite and WritesOfOneTrick speak of. -/
theorem witness_access_codes :
    (bitsOf (pstPg + 0x110) [.w1c, .w1s, .stg] = 0 ∧ bitsOf (pstPg + 0x110) [.rwl] = 0 ∧ bitsOf (pstPg + 0x110) [.rw] ≠ 0) ∧
    (bitsOf (safPg + 0x170) [.w1c, .w1s, .stg] = 0 ∧ bitsOf (safPg + 0x170) [.rwl] ≠ 0 ∧ flagAt pst (safPg / 0x1000 * 0x1000 + 0x008) 0 = false) ∧
    (bitsOf (safPg + 0x100) [.rw, .rws, .rwl, .w1s, .stg] = 0 ∧ bitsOf (safPg + 0x100) [.w1c] ≠ 0) ∧
    (bitsOf (safPg + 0x010) [.rw, .rws, .rwl, .w1s, .stg] = 0 ∧ bitsOf (safPg + 0x010) [.w1c] ≠ 0) ∧
    (bitsOf (safPg + 0x008) [.rw, .rws, .rwl, .w1c, .stg] = 0 ∧ bitsOf (safPg + 0x008) [.w1s] ≠ 0) := by
  decide
theorem test_hardware_wins_over_a_clear :
    regAt (plainWrite (hwSetBits (regPut pst (safPg + 0x010) 3#32) (safPg + 0x010) 2#32) mg (safPg + 0x010) 0xFFFFFFFF#32 3#32 0x010) (safPg + 0x010) = 2#32 := by
  decide

/-- The mailbox of SAF's page was asked. -/
def asked : State := regPut pst (mboxCtl (safPg / 0x1000)) 1#32
theorem witness_mailbox :
    (mayAccess pst mg = true ∧ (target pst mg (mboxCtl (safPg / 0x1000))).1 = .reg (mboxCtl (safPg / 0x1000)) ∧
      openTo pst mg (mboxCtl (safPg / 0x1000)) = true ∧ (mboxOf pst (safPg / 0x1000)).seen = true) ∧
    (bitOf (regAt asked (mboxCtl (safPg / 0x1000))) 0 = true ∧ (mboxOf asked (safPg / 0x1000)).due = none) := by
  decide
theorem test_snap_of_no_value_is_marked_later :
    answers (exec (.mboxSnap mg ⟨safPg / 0x1000, by decide⟩) (regPut pst (safPg + 0x028) 0xFFFF#32))
      (fun t => (mboxOf t (safPg / 0x1000)).bad && !(bitOf (regAt t (mboxCtl (safPg / 0x1000))) 2)) = true := by
  decide

/-! ## Parity, folds, injections, slots -/

/-- Port p is folded with `cause`. -/
def foldedAt (p cause : Nat) : State := regPut r0 (foldReg p) (BitVec.ofNat 32 (0x80000000 + cause))
/-- Injections are enabled. -/
def injects : State := regPut pst (safPg + 0x174) 1#32

theorem witness_parity :
    (0xF100 % 4 = 0 ∧ bitsOf 0xF100 [.rw, .rwl, .rws, .stg] ≠ 0 ∧ 0xF100 ∉ r0.parLive) ∧ (bitsOf 0xF100 [.stg] ≠ 0 ∧ 0xF100 ∉ r0.parShadow) := by
  decide
theorem test_shadow_parity_folds_nothing :
    answers (exec (.shadowParityMismatch 0xF100) r0) (fun t => t.parShadow == [0xF100] && !(tableFolded t)) = true := by
  decide +kernel
theorem test_live_parity_folds_the_table :
    answers (exec (.parityMismatch 0xF100) r0) (fun t => t.parLive == [0xF100] && tableFolded t && fldAt t (foldReg 10) 4 0 == 4) = true := by
  decide +kernel

theorem witness_folds :
    (trusted r0 mg = true ∧ (9 : Fin 16).val < 10 ∧ (10 : Fin 16).val = 10) ∧
    (portFolded (regPut (foldedAt 8 0x14) (foldReg 8) 0xC0000014#32) 8 = true ∧ clearStatus (regPut (foldedAt 8 0x14) (foldReg 8) 0xC0000014#32) 8 = 0) ∧
    (clearStatus (foldedAt 8 0x14) 8 ≠ 0) ∧
    (portFolded (foldedAt 6 0x14) 6 = true ∧ flagAt (foldedAt 6 0x14) (foldReg 6) 30 = false ∧ isDrained (foldedAt 6 0x14) 6 = true) ∧
    (portFolded (foldedAt 5 0x14) 5 = true ∧ flagAt (foldedAt 5 0x14) (foldReg 5) 30 = false ∧ isDrained (foldedAt 5 0x14) 5 = true) ∧
    (portFolded (foldedAt 3 0x14) 3 = true ∧ 3 ∉ (foldedAt 3 0x14).foldFresh) ∧
    (tableFolded (foldedAt 10 0x14) = true ∧ 10 ∉ (foldedAt 10 0x14).foldFresh) ∧
    (3 < 10 ∧ 0x14 < 32 ∧ 0x0B < 0x14 ∧ 0x04 < 0x08) ∧
    (portFolded { foldedAt 3 0x14 with foldFresh := [3] } 3 = true ∧ 3 ∈ ({ foldedAt 3 0x14 with foldFresh := [3] } : State).foldFresh) := by
  decide
theorem test_fold_command :
    answers (exec (.foldCommand mg 9) r0) (fun t => portFolded t 9 && fldAt t (foldReg 9) 4 0 == 0x14) = true := by
  decide

theorem witness_injections :
    (flagAt injects (safPg + 0x174) 0 = true) ∧ (flagAt pst (safPg + 0x174) 0 = false) ∧
    ((9 : Fin 16).val < 10 ∧ 10 ≤ (10 : Fin 16).val ∧ (11 : Fin 16).val < 12 ∧ 12 ≤ (12 : Fin 16).val) ∧
    (bits 0x20000000#32 30 29 = 1 ∧ bits 0xC0000000#32 30 29 = 2 ∧ bits 0x9FFFFFFF#32 30 29 = 0) := by
  decide
theorem test_injection_without_enable :
    answers (exec (.injectCrc mg) pst) (fun t => t.safe.inj == [] && flagAt t (safPg + 0x010) 0) = true := by
  decide

/-- R424 and R439: the comparator forced for 200 ns is no fault yet; with the next trick it is, with its ERR_STAT bit and cause. -/
theorem test_forced_comparator_faults_after_200_ns :
    (let s := fun n => lowComparator { r0 with safe := { r0.safe with lowFor := n, lowLeft := 80 - n } }
     !tableFolded (s 39) && fldAt (s 40) (foldReg 10) 4 0 == 9) = true := by
  decide +kernel

/-- Slot 2 with SLOT_STAT `v`. -/
def slotAt (v : Word) : State := regPut r0 (slotPg 2 + 0x108) v
/-- Seat 2 was removed and comes back: folded with cause REMOVED, drained, POWERED. -/
def returning : State := regPut (slotAt 0x7C000000#32) (foldReg 2) 0xC0000013#32
theorem witness_slots :
    (flagAt (slotAt 0) (slotPg 2 + 0x108) 28 = false ∧ fldAt (slotAt 0) (slotPg 2 + 0x108) 31 29 ≠ 4) ∧
    (trusted r0 mg = true ∧ fldAt (slotAt 0x38000000#32) (slotPg 2 + 0x108) 31 29 = 1 ∧ flagAt (slotAt 0x38000000#32) (slotPg 2 + 0x010) 10 = false) ∧
    (dlUp (slotAt 0x78000000#32) 2 = false ∧
      fldAt (fldPut (pwrEn (slotAt 0x78000000#32) 2 false) (slotPg 2 + 0x108) 3 0 0) (slotPg 2 + 0x108) 31 29 ≠ 4 ∧
      dlUp (fldPut (fldPut (pwrEn (slotAt 0x78000000#32) 2 false) (slotPg 2 + 0x108) 3 0 0) (slotPg 2 + 0x108) 31 29 0) 2 = false) ∧
    (fldAt (slotAt 0x5C000000#32) (slotPg 2 + 0x108) 31 29 = 2 ∧ flagAt (slotAt 0x5C000000#32) (slotPg 2 + 0x108) 26 = true) ∧
    (flagAt (slotAt 0) (slotPg 2 + 0x108) 26 = false) ∧
    (removed returning 2 = true ∧ fldAt returning (slotPg 2 + 0x108) 31 29 = 3 ∧ flagAt returning (slotPg 2 + 0x108) 25 = false ∧
      flagAt returning (foldReg 2) 30 = true ∧ tableFolded returning = false) := by
  decide
theorem test_power_good :
    answers (exec (.powerGood 2) (slotAt 0x5C000000#32)) (fun t => fldAt t (slotPg 2 + 0x108) 31 29 == 3) = true := by
  decide

/-! ## Entries, functions, the router -/

/-- Six seats of four lanes are present; seat 0 owns the VF slots 16 to 19 and the entries 0 to 1,023 of both tables. -/
def seated : State :=
  regPut (regPut (regPut (regPut up 0x130 0xFFF#32) (txnPg 0 + 0x140) 0x00100004#32) (txnPg 0 + 0x154) 0x400#32) (txnPg 0 + 0x15C) 0x400#32
/-- The function f of `seated` is present and may master. -/
def mastering : State :=
  { regPut (regPut seated (linkPg 0 + 0x110) 0x30000003#32) (fnPg 0 + 0x110) 0x40#32 with fns := [(0, { Fn.idle with master := true, vfs := 4, memory := true })] }

theorem witness_entry_accesses :
    (trusted seated mg = true ∧ (5242879 : Fin 8388608).val < 5242880 ∧ (1048575 : Fin 8388608).val < 1048576) ∧
    (∀ p ∈ seated.xlt.heldLow, p.1 = 12 → False) ∧ (∀ p ∈ seated.xlt.capHigh, p.1 = 12 → False) ∧
    (tabGet (0, 0) ({ seated with xlt := { seated.xlt with heldLow := [(12, (5, 9#32))] } } : State).xlt.heldLow 12 = (5, 9#32)) ∧
    (tabGet (0, 0) ({ seated with xlt := { seated.xlt with capHigh := [(12, (5, 9#32))] } } : State).xlt.capHigh 12 = (5, 9#32)) := by
  decide
theorem witness_committed_entry : 5 ≠ 6 := by decide
theorem test_low_then_high_commits_both :
    answers (exec (.entryLowWrite mg false 5 9#32) seated) (fun t => entAt t 5 == 0 &&
      answers (exec (.entryHighWrite mg false 5 7#32) t) (fun u => entAt u 5 == 0x0000000700000009#64)) = true := by
  decide

theorem witness_indirect_port :
    (flagAt seated (fnPg 0 + 0x20C) 8 = false ∧ inBudget seated 0 (bits (regAt seated (fnPg 0 + 0x200)) 31 31) (bits (regAt seated (fnPg 0 + 0x200)) 22 0) = true) ∧
    (tabGet none ({ seated with xlt := { seated.xlt with sync := [(0, some [3])] } } : State).xlt.sync 0 = some [3] ∧
      ∀ x ∈ seated.xacts, x.stamp ∉ [3]) ∧
    entErrs { seated with xlt := { seated.xlt with ecc := [(5, 1)] } } 5 = 1 := by
  decide
theorem test_indirect_write :
    answers (exec (.indWrite 0) (regPut (regPut (regPut seated (fnPg 0 + 0x200) 0x3FF#32) (fnPg 0 + 0x204) 1#32) (fnPg 0 + 0x208) 2#32))
      (fun t => entAt t 0x3FF == 0x0000000200000001#64 && fldAt t (fnPg 0 + 0x20C) 31 28 == 0) = true := by
  decide
theorem test_indirect_outside_the_budget :
    answers (exec (.indWrite 0) (regPut (regPut seated (fnPg 0 + 0x200) 0x400#32) (fnPg 0 + 0x204) 1#32))
      (fun t => entAt t 0x400 == 0 && fldAt t (fnPg 0 + 0x20C) 31 28 != 0) = true := by
  decide

/-- A line of function 16 in the dirty log. -/
def dline : DirtyLine := { fn := 16, line := 7, ser := 4, dirty := 1, age := 0, addr := 0x1000, queued := false, reading := false, writing := false, data := none }
/-- The log holds the line. -/
def logs (d : DirtyLine) : State := { mastering with xlt := { mastering.xlt with lines := [d] } }
theorem witness_dirty_log :
    (logs dline).xlt.lines.find? (fun x => !x.queued && (x.fn == 16 && x.line == 7)) = some dline ∧
    ((logs { dline with reading := true, data := some (some []) }).xlt.lines.filter (fun x => x.fn == 16 && x.line == 7)).find? (fun x => x.reading && x.data.isSome) =
      some { dline with reading := true, data := some (some []) } ∧
    ((logs { dline with queued := true }).xlt.lines.filter (fun x => x.fn == 16 && x.line == 7)).find? (fun x => x.queued || x.reading) =
      some { dline with queued := true } := by
  decide
theorem test_lost_line :
    answers (exec (.logFlushLost 16 7) (logs { dline with queued := true })) (fun t => t.xlt.lines == []) = true := by
  decide

/-- Source 0x10 is PENDING and routed to MGMT, target 7. -/
def pends : State := { regPut up (evrPg + 0x210) 0x80#32 with intr := { up.intr with srcs := [16] } }
/-- Target 7 holds source 16 since reset. -/
def claimed : State := { up with intr := { up.intr with claims := [(16, 7, 0)] } }
theorem witness_router :
    up.intr.srcs.find? (fun j => routed up j 7) = none ∧ pends.intr.srcs.find? (fun j => routed pends j 7) = some 16 ∧
    (16, 7, 0) ∈ claimed.intr.claims := by
  decide
theorem test_claim :
    answers (exec (.eventClaim 7 0) pends) (fun t => t.intr.srcs == [] && t.intr.claims == [(16, 7, 0)]) = true := by
  decide

theorem witness_function_configuration :
    (fnPresent mastering 16 = true ∧ (fnOf mastering 16).flr = false ∧ fnPresent mastering 19 = true ∧ fnPresent mastering 20 = false) ∧
    (bitOf (cfgAt mastering 0 0x170) 0 = false ∧ bitOf (cfgAt (cfgPut mastering 0 0x170 1#32) 0 0x170) 0 = true) := by
  decide
theorem test_vf_enable_set :
    answers (exec (.vfEnableSet 0) mastering) (fun t => bitOf (cfgAt t 0 0x170) 0 && flagAt t (fnPg 0 + 0x010) 15) = true := by
  decide

/-- VF slot 16 has an FLR in progress, on a READY seat. -/
def resets : State := { mastering with fns := tabPut Fn.idle mastering.fns 16 { Fn.idle with flr := true, benchPend := true } }
theorem witness_flr :
    ((6 ≤ 16) ∧ fnSeat resets 16 = some 0 ∧ flagAt resets (linkPg 0 + 0x110) 1 = true ∧ (fnOf resets 16).flr = true) ∧
    (heldBy resets 16 = 0 ∧ (∀ k < 4, ∀ e ∈ (linkTxOf resets k).exchs, e.isFold = true ∨ e.fn ≠ 16) ∧ (∀ d ∈ resets.xlt.lines, d.fn ≠ 16)) ∧
    ¬ (∀ d ∈ ({ resets with xlt := { resets.xlt with lines := [dline] } } : State).xlt.lines, d.fn ≠ 16) := by
  decide
theorem test_flr_completes :
    answers (exec (.flrComplete 16) resets) (fun t => !(fnOf t 16).flr && (fnOf t 16).bench && flagAt t (fnPg 16 + 0x010) 9) = true := by
  decide

/-! ## DMA queues -/

/-- Function 0's queue 0 is queue pair 0, with this state. -/
def queue (q : Queue) : State := { mastering with queues := [(0, q)] }
/-- An entry with rings of 64 and no interrupt, at host address 0 and 0x1000. -/
def entry : List Byte := List.replicate 9 0#8 ++ [16#8] ++ List.replicate 6 0#8 ++ [6#8, 6#8] ++ List.replicate 46 0#8
/-- An ACTIVE queue with `n` rung descriptors. -/
def active (n : Nat) : Queue := { Queue.idle with st := 2, entry := entry, tail := n }
/-- A descriptor of index 0 with operation `op`, LEN 64 at byte 4 and nothing else. -/
def desc (op : Byte) : Desc := { idx := 0, raw := [op, 0#8, 0#8, 0#8, 64#8] ++ List.replicate 59 0#8 }
/-- Its run, with `issued` bytes issued. -/
def run (op : Byte) (issued : Nat) : Run :=
  { desc := desc op, start := 0, issued := issued, moved := 0, status := 0, reason := 0, done := none }

theorem witness_doorbells :
    (fnSeat mastering 0 = some 0 ∧ (63 : Fin 256).val < queueCount mastering 0 ∧ folded mastering 0 = false) ∧
    (fnSeat (regPut mastering (foldReg 0) 0x80000014#32) 0 = some 0 ∧ folded (regPut mastering (foldReg 0) 0x80000014#32) 0 = true) := by
  decide
theorem test_last_doorbell_wins :
    answers (exec (.sqTailWrite 0 63 5#32) mastering) (fun t =>
      answers (exec (.sqTailWrite 0 63 6#32) t) (fun u => (queueOf u 63).pTail == some 6)) = true := by
  decide

theorem witness_sampled_commands :
    ((queueOf (queue (active 0)) 0).op = 0 ∧ (queueOf (queue (active 0)) 0).st = 2 ∧ (fnOf (queue (active 0)) 0).master = true) ∧
    ((queueOf (queue { active 0 with st := 4 }) 0).st = 4) ∧
    ((queueOf (queue { active 0 with op := 2 }) 0).op ≠ 0) ∧
    ((fnOf { queue (active 0) with fns := [] } 0).master = false) := by
  decide

theorem witness_queue_load_and_fetch :
    ((queueOf (queue { Queue.idle with st := 1, loaded := some (some entry) }) 0).loaded = some (some entry) ∧
      deckPending (queue { Queue.idle with st := 1, loaded := some (some entry) }) 0 0 (some (bits (active 0).ctl 26 16)) = false ∧
      bits (active 0).ctl 4 0 = 6 ∧ bits (active 0).ctl 12 8 = 6 ∧ (active 0).sqBase % 4096 = 0 ∧ (active 0).cqBase = 0x1000 ∧ bitOf (active 0).ctl 31 = false) ∧
    (bits ({ Queue.idle with entry := List.replicate 64 0#8 } : Queue).ctl 4 0 = 0) ∧
    ((queueOf (queue { active 0 with st := 3 }) 0).st = 3 ∧ (queueOf (queue { active 0 with st := 3 }) 0).running = [] ∧ (queueOf (queue { active 0 with st := 3 }) 0).burnt = []) ∧
    (fnSeat (queue (active 1)) 0 = some 0 ∧ 0 < (nextFetch (active 1)).2 ∧ (active 1).fetching = 0 ∧ (active 1).badFetch = none ∧ (fnOf (queue (active 1)) 0).master = true ∧ folded (queue (active 1)) 0 = false ∧ (active 1).halting = false) ∧
    (({ active 1 with arrived := some (0, some (desc 0).raw) } : Queue).arrived = some (0, some (desc 0).raw)) ∧
    (({ active 1 with arrived := some (0, none) } : Queue).arrived = some (0, none)) := by
  decide
theorem test_fetch_stops_at_the_ring_end :
    nextFetch { active 5 with sqHead := 62 } = (62, 2) := by
  decide
theorem witness_fetch_limits : (active 63).fetched.length + (active 63).fetching ≤ 16 ∧ (active 63).taken ≤ (active 63).rung := by
  decide

theorem witness_descriptor_start :
    (canStart (queue { active 1 with fetched := [desc 0] }) 0 = some (desc 0) ∧ startCheck (desc 0) = 0 ∧ (desc 0).op = 0) ∧
    (canStart (queue { active 1 with fetched := [desc 6] }) 0 = some (desc 6) ∧ startCheck (desc 6) ≠ 0) ∧
    (canStart (queue { active 1 with fetched := [desc 4] }) 0 = some (desc 4) ∧ startCheck (desc 4) = 0 ∧ (desc 4).op = 4) ∧
    (∀ op ∈ [1#8, 2#8, 5#8], canStart (queue { active 1 with fetched := [desc op] }) 0 = some (desc op) ∧ startCheck (desc op) = 0) := by
  decide
theorem test_reserved_operation_ends_bad :
    answers (exec (.descStart 0) (queue { active 1 with fetched := [desc 6] })) (fun t => (queueOf t 0).running.map (fun r => (r.status, r.done)) == [(2, some 0)]) = true := by
  decide

/-- Link 0 is present and ACTIVE, and XT entry 0 lets function 0 read and write Nicen endpoint 0. -/
def linked (q : Queue) : State :=
  let s := regPut (regPut (regPut (queue q) 0x140 0x2#32) (linkPg 6 + 0x110) 0x50000000#32) (fnPg 0 + 0x11C) 1#32
  { s with xlt := { s.xlt with xt := [(0, 0x8C00000000000000#64)] } }
/-- The fabric copies run on such a link. -/
def copies (op : Byte) : State := linked { active 1 with running := [run op 0] }
set_option maxRecDepth 4000 in
theorem copies_find_a_link :
    lookup (copies 2#8) 0 0 .read = (.ok 0 0 false, copies 2#8) ∧ linkFor (copies 2#8) 0 = some 0 ∧
    lookup (copies 3#8) 0 0 .write = (.ok 0 0 false, copies 3#8) ∧ linkFor (copies 3#8) 0 = some 0 := by
  have h2 : (List.range 4).filter (fun k => portPresent (copies 2#8) (6 + k)) = [0] := by decide
  have h3 : (List.range 4).filter (fun k => portPresent (copies 3#8) (6 + k)) = [0] := by decide
  refine ⟨by decide, ?_, by decide, ?_⟩
  · simp [linkFor, h2, Nat.mod_one]
  · simp [linkFor, h3, Nat.mod_one]
set_option maxRecDepth 4000 in
theorem witness_descriptor_transfers :
    (∀ op ∈ [1#8, 2#8, 3#8, 5#8], (queueOf (linked { active 1 with running := [run op 0] }) 0).running = [run op 0] ∧ (run op 0).desc.idx = 0 ∧
      (run op 0).done = none ∧ (run op 0).status = 0) ∧
    ((fnOf (linked { active 1 with running := [run 1 0] }) 0).master = true ∧ qFolded (linked { active 1 with running := [run 1 0] }) (active 1) = false ∧
      (run 1 0).issued < (run 1 0).desc.num 4 4) ∧
    (portFolded (linked (active 1)) 6 = false ∧ linkActive (linked (active 1)) 0 = true) ∧
    ((run 1 64).issued = (run 1 64).desc.num 4 4 ∧ (run 1 64).stop = none ∧ (run 1 64).frames = [] ∧
      runBusy (linked { active 1 with running := [run 1 64] }) 0 0 none = false ∧ (run 1 64).last ≤ (linked (active 1)).time.toNat) ∧
    (({ run 1 0 with stop := some 0 } : Run).stop ≠ none ∧ runBusy (linked { active 1 with running := [{ run 1 0 with stop := some 0 }] }) 0 0 (some 0) = false) ∧
    (∀ x ∈ ({ linked (active 1) with xlt := { r0.xlt with lines := [dline] } } : State).xlt.lines, x.fn = 16 → 4 ≤ x.ser) := by
  decide
theorem test_descriptor_completes :
    answers (exec (.descComplete 0 0) (queue { active 1 with running := [run 1 64] })) (fun t => (queueOf t 0).running.map (fun r => r.done) == [some 0]) = true := by
  decide

/-- A record waits for its interrupt since hand 3, for COAL_HANDS 2 hands. -/
def coalesces : Queue := { active 1 with coalHand := some 3, entry := entry.take 19 ++ [0x80#8, 0#8, 2#8] ++ List.replicate 42 0#8 }
/-- Descriptor 0 with NOREC. -/
def silent : Desc := { idx := 0, raw := [1#8, 2#8] ++ List.replicate 62 0#8 }
theorem witness_queue_reports :
    ((fnOf (queue (active 1)) 0).master = true ∧ fnSeat (queue (active 1)) 0 = some 0 ∧ folded (queue (active 1)) 0 = false ∧
      (∀ x ∈ (queue (active 1)).xacts, x.isRecord 0 = false) ∧ nextReport (active 1) = none) ∧
    ([{ run 1 64 with done := some 0 }].find? (fun r => r.desc.idx == (active 1).sqHead) = some { run 1 64 with done := some 0 } ∧
      bitOf (BitVec.ofNat 32 (silent.num 0 4)) 9 = true ∧ silent.op < 4 ∧ bitOf (BitVec.ofNat 32 ((desc 1).num 0 4)) 9 = false) ∧
    (coalesces.coalHand = some 3 ∧ coalesces.coalHands ≠ 0 ∧ bitOf coalesces.ctl 31 = true ∧
      coalesces.coalHands ≤ (handNo { queue coalesces with time := 819200 } + 2 ^ 40 - 3) % 2 ^ 40) := by
  decide
theorem test_no_second_record_waits :
    answers (exec (.completionRecord 0) (queue { active 1 with running := [{ run 1 64 with done := some 0 }] })) (fun t =>
      t.xacts.length == 1 && answers (exec (.completionRecord 0) t) (fun u => u.xacts.length == 1)) = true := by
  decide
theorem test_context_error_halts :
    answers (exec (.qctxEcc 0) (queue (active 1))) (fun t => (queueOf t 0).st == 4 && (queueOf t 0).lastErr == 0x14) = true := by
  decide

/-! ## Lanes and seat links -/

/-- Lane 15 of seat 5, which is 16 wide, with LANE_STAT `v`. -/
def laneAt (v : Word) : State := regPut (regPut up 0x130 0xFFF#32) (laneStat 5 15) v
/-- The first group of port 9 has LFW_STAT `v`. -/
def group (v : Word) : State := regPut up (lanePg 9 + 0x320) v
theorem witness_lane_events :
    (15 < portLanes (laneAt 0xC0000000#32) 5 ∧ flagAt (laneAt 0xC0000000#32) (laneStat 5 15) 30 = true ∧ flagAt (laneAt 0xC0000000#32) (laneStat 5 15) 31 = true) ∧
    (15 < portLanes (laneAt 0) 5 ∧ flagAt (laneAt 0) (laneStat 5 15) 27 = false ∧ flagAt (laneAt 0) (laneStat 5 15) 31 = false) ∧
    (fldAt (group 0x1000#32) (lanePg 9 + 0x320) 15 12 = 1 ∧ lfwCount (group 0x1000#32) 36 < 8) ∧
    (8 ≤ lfwCount { group 0x1000#32 with lfw := [(36, (0, 8))] } 36) ∧
    (fldAt (group 0x2000#32) (lanePg 9 + 0x320) 15 12 = 2) ∧
    (15 < portLanes (regPut (laneAt 0) (lanePg 5 + 0x324) 0x3000#32) 5 ∧ fldAt (regPut (laneAt 0) (lanePg 5 + 0x324) 0x3000#32) (lanePg 5 + 0x320 + 4 * (15 / 8)) 15 12 = 3 ∧ (∀ c < 7, [1, 2, 9, 9, 3, 0, 9].getD c 0 ≤ [1, 2, 9, 9, 3, 0, 9].getD 2 0) ∧
      (∀ c < 2, [1, 2, 9, 9, 3, 0, 9].getD c 0 < [1, 2, 9, 9, 3, 0, 9].getD 2 0)) := by
  decide
theorem test_lane_lock_loss_is_counted :
    answers (exec (.laneLockLoss 5 15) (laneAt 0xC0000000#32)) (fun t => !(flagAt t (laneStat 5 15) 31) && (regAt t (lanePg 5 + 0x480 + 60)).toNat == 1) = true := by
  decide
theorem test_ninth_firmware_stop_halts :
    answers (exec (.laneFwStop 9 0) { group 0x1000#32 with lfw := [(36, (0, 8))] }) (fun t => fldAt t (lanePg 9 + 0x320) 15 12 == 4) = true := by
  decide

/-- Seat 5 is in L0 at `rate`, and its lane 15 has LANE_STAT `v`. -/
def l0At (rate v : Nat) : State := regPut (laneAt (BitVec.ofNat 32 v)) (linkPg 5 + 0x110) (BitVec.ofNat 32 (0x30840001 + rate * 2 ^ 24))
/-- MARGIN_COMMAND's answers for lane 15. -/
def margins (s : State) (m : MarginCmd) : Option Emit :=
  match exec (.marginCommand 5 ⟨15, m⟩) s with
  | .next t => t.out[s.out.length]?
  | .fault _ => none
  | .refused _ => none
theorem witness_margining :
    (seatRate (l0At 3 0x80000000) 5 < 4 ∧ flagAt (l0At 3 0x80000000) (lanePg 5 + 0x300) 1 = false) ∧
    (flagAt (l0At 4 0x20000000) (lanePg 5 + 0x300) 1 = false ∧ 4 ≤ seatRate (l0At 4 0x20000000) 5 ∧ ltssm (l0At 4 0x20000000) 5 = 3 ∧
      bitOf (regAt (l0At 4 0x20000000) (laneStat 5 15)) 31 = false) ∧
    (flagAt (l0At 4 0x80000000) (lanePg 5 + 0x300) 1 = false ∧ 4 ≤ seatRate (l0At 4 0x80000000) 5 ∧ ltssm (l0At 4 0x80000000) 5 = 3 ∧
      bitOf (regAt (l0At 4 0x80000000) (laneStat 5 15)) 31 = true ∧ bitOf (regAt (l0At 4 0x80000000) (laneStat 5 15)) 29 = false) ∧
    ((32 : Fin 64).val ≤ 32 ∧ 32 < (33 : Fin 64).val ∧ (64 : Fin 128).val ≤ 64 ∧ 64 < (65 : Fin 128).val) := by
  decide
theorem test_margining_reports_32_timing_steps :
    margins (l0At 4 0x80000000) (.report 6) = some (.seatSig 5 "MARGIN" (15 * 65536 + 0x120)) ∧
    margins (l0At 4 0x80000000) (.stepTiming true 33) = some (.seatSig 5 "MARGIN" (15 * 65536 + 0x3C0)) := by
  decide

/-- A partner that offers 16 lanes at the lowest rate. -/
def partner : SeatPartner := { rate := 1, lanes := 16, reversed := false, flit := false, scaled := false, selNak := false, retimers := 0, inverted := [], presets := [], eq := [], deemph := false, eqAgain := false }
/-- Seat 5, 16 wide, with LINK_STAT `v`. -/
def linkAt (v : Word) : State := regPut (laneAt 0) (linkPg 5 + 0x110) v
theorem witness_seat_training :
    (seatPresent (linkAt 0) 5 = true ∧ portDown (linkAt 0) 5 = false ∧ lanesFolded (linkAt 0) = false ∧ removed (linkAt 0) 5 = false ∧ isOff (linkAt 0) = false ∧ partner.rate ≠ 0 ∧
      fitWidth (portLanes (linkAt 0) 5) 16 ≠ 0 ∧ dlUp (linkAt 0) 5 = false) ∧
    (dlUp (linkAt 0x41840001#32) 5 = true ∧ ltssm (linkAt 0x41840001#32) 5 = 4 ∧ portDown (linkAt 0x41840001#32) 5 = false ∧
      [16, 8, 4, 2, 1].find? (fun x => decide (x ≤ portLanes (linkAt 0x41840001#32) 5 ∧ x ≤ 16) && (widthOf (portLanes (linkAt 0x41840001#32) 5) x false).all (fun i =>
        (flagAt (linkAt 0x41840001#32) (laneStat 5 i) 31 && !flagAt (linkAt 0x41840001#32) (laneStat 5 i) 27) ||
        ((trainedLanes (linkAt 0x41840001#32) 5).contains i && !flagAt (linkAt 0x41840001#32) (laneStat 5 i) 27))) = some 16) ∧
    (dlUp (linkAt 0x30000001#32) 5 = true ∧ ltssm (linkAt 0x30000001#32) 5 ≠ 4) ∧
    (([8, 4, 2, 1].filter (fun x => decide (x < seatLanes (regPut (linkAt 0x30108001#32) (laneStat 5 15) 0x80000000#32) 5))).flatMap (fun x => [(x, false), (x, true)])).find?
      (fun c => (widthOf 16 c.1 c.2).all (fun i => flagAt (regPut (linkAt 0x30108001#32) (laneStat 5 15) 0x80000000#32) (laneStat 5 i) 31 &&
        !flagAt (regPut (linkAt 0x30108001#32) (laneStat 5 15) 0x80000000#32) (laneStat 5 i) 27)) = some (1, true) := by
  decide
theorem test_recovery_is_counted :
    answers (exec (.seatRecovery 5) (linkAt 0x30000001#32)) (fun t => ltssm t 5 == 4 && (regAt t (linkPg 5 + 0x414)).toNat == 1) = true := by
  decide

/-- Seat 5 is in L0 at 16 lanes in FLIT mode with L0P_EN. -/
def l0p : State := regPut (linkAt 0x30802001#32) (linkPg 5 + 0x100) 0x8000#32
theorem witness_seat_link :
    (dlUp (linkAt 0x30000001#32) 5 = true ∧ seatPresent (linkAt 0x30000001#32) 5 = true) ∧
    (flagAt (linkAt 0x30000001#32) (linkPg 5 + 0x110) 1 = false ∧ 7 ≤ fldAt (linkAt 0x30000001#32) 0x1D4 31 28 ∧
      (∀ f ∈ seatFns (linkAt 0x30000001#32) 5, (fnOf (linkAt 0x30000001#32) f).flr = false)) ∧
    (l0pOn l0p 5 = true ∧ (16 : Fin 17).val ∈ [1, 2, 4, 8, 16] ∧
      16 ≤ seatLanes l0p 5) ∧
    (ltssm (linkAt 0x30000001#32) 5 = 3 ∧ flitMode (linkAt 0x30000001#32) 5 = false) ∧
    (dlUp (linkAt 0x60000001#32) 5 = true ∧ ltssm (linkAt 0x60000001#32) 5 = 6) ∧
    (flagAt (linkAt 0x30000001#32) (slotPg 5 + 0x108) 24 = false ∧ portDown (linkAt 0x30000001#32) 5 = false) := by
  decide
theorem test_seat_ready :
    answers (exec (.seatReady 5) (linkAt 0x30000001#32)) (fun t => flagAt t (linkPg 5 + 0x110) 1) = true := by
  decide

/-- An outstanding request of function 5 for 4 bytes, with wire tag 9. -/
def ent : TagEnt := { TagEnt.ask 5 (.window 5 0 0) 0 4 1 0 with wire := 9 }
/-- The link is up, the request holds tag 0, a FLIT is unacknowledged and a PTM dialog is open. -/
def asks (e : TagEnt) : State := seatMod (linkAt 0x30000001#32) 5 (fun x => { x with tags := [(0, e)], unacked := [(1, 0, 32)], ptmOpen := true })
theorem witness_seat_traffic :
    (dlUp (asks ent) 5 = true ∧ (seatOf (asks ent) 5).unacked ≠ [] ∧ (seatOf (asks ent) 5).ptmOpen = true) ∧
    ((seatOf (asks ent) 5).tags.find? (fun t => t.2.fn == (5 : Fin 4096).val && t.2.wire == (9 : Fin 16384).val) = some (0, ent) ∧ ent.quar = false ∧
      ent.len = ent.got.length + [1#8, 2#8, 3#8, 4#8].length) ∧
    (flitMode (asks ent) 5 = false ∧ dlUp (linkAt 0x30002001#32) 5 = true ∧ flitMode (linkAt 0x30002001#32) 5 = true) ∧
    ((seatOf (asks { ent with quar := true }) 5).tags.find? (fun t => t.1 == 0) = some (0, { ent with quar := true })) := by
  decide
theorem test_corrected_flit_is_counted :
    answers (exec (.dllpRx 5 .fixed) (linkAt 0x30002001#32)) (fun t => (regAt t (linkPg 5 + 0x400)).toNat == 1) = true := by
  decide
theorem test_completion_frees_the_tag :
    answers (exec (.hostCompletion 5 5 9 0 4 .good [1#8, 2#8, 3#8, 4#8]) (asks ent)) (fun t => (seatOf t 5).tags == []) = true := by
  decide

/-! ## Nicen Links: training, frames, shed and restore -/

/-- Link 3 owns lane groups 10 and 11, 16 lanes, with MIN_LANES 8; its state is `st`. -/
def nlk (st : Nat) : State :=
  fldPut (regPut (regPut (regPut up 0x168 0x32#32) 0x16C 0x32#32) (linkPg 9 + 0x100) (BitVec.ofNat 32 (8 * 2 ^ 18))) (nlkStat 3) 31 28 st
/-- A TS block from a partner of 16 lanes without spares. -/
def ts : TsBlock := { lane := 0, lanes := 16, spares := 0, maxRate := 1, minLanes := 8, id := 7, version := 1, ack := true, limp := false, inverted := false, bad := false }
/-- An EQ block that asks for preset 4. -/
def eqb : EqBlock := { mode := 1, preset := 4, pre := 0, post := 0, id := 1, done := false, bad := false }
/-- A HAND row of hand 1 with one good copy. -/
def hand1 : HandRow := { hand := 1, launch := 0, txMap := 0xFFFF#32, standby := 0#32, arrival := 0#32, bad := 0 }
/-- An aligned AM row at the expected place. -/
def am : AmRow := { aligned := true, rxOk := 0xFFFF#32, skewed := [], posOk := true, bad := 0 }
/-- Two lanes have lock and block lock, and seven AM rows were aligned. -/
def aligning (st : Nat) : State :=
  physMod ([8, 9].foldl (fun s i => regPut (laneMod s 9 i (fun y => { y with block := true })) (laneStat 9 i) 0x80000000#32) (nlk st)) 3 (fun x => { x with amCnt := 7 })
/-- SLIP was set before PROBE. -/
def probes (st : Nat) : State := physMod (nlk st) 3 (fun x => { x with slip := 1#32 })
/-- Eight lanes carry a signal. -/
def lit : List (Fin 32) := [0, 1, 2, 3, 4, 5, 6, 7]

set_option maxRecDepth 8000 in
theorem witness_nicen_training :
    (portPresent (nlk 0) 9 = true ∧ portDown (nlk 0) 9 = false ∧ lanesFolded (nlk 0) = false ∧ asleep (nlk 0) = false ∧ isOff (nlk 0) = false ∧ nlkState (nlk 0) 3 = 0) ∧
    (({ nlk 0 with pwr := { r0.pwr with state := 3 } } : State).pwr.state = 3) ∧ ({ ts with bad := true } : TsBlock).bad = true ∧ ({ eqb with bad := true } : EqBlock).bad = true ∧
    ((lit.map (fun i => i.val)).filter (fun i => decide (i < nlkLanes (nlk 0) 3)) ≠ [] ∧
      minLanes (nlk 0) 3 ≤ ((lit.map (fun i => i.val)).filter (fun i => decide (i < nlkLanes (nlk 0) 3))).length) ∧
    (nlkState (nlk 1) 3 = 1 ∧ 15 < nlkLanes (nlk 1) 3 ∧ ts.lanes.val = nlkLanes (nlk 1) 3 ∧ ts.spares.val = bits (physOf (nlk 1) 3).spare 15 0 ∧
      ts.version.val = 1 ∧ ts.bad = false ∧ ({ ts with version := 2 } : TsBlock).version.val ≠ 1 ∧ ({ ts with lanes := 8 } : TsBlock).lanes.val ≠ nlkLanes (nlk 1) 3 ∧ ({ ts with spares := 1 } : TsBlock).spares.val ≠ bits (physOf (nlk 1) 3).spare 15 0) ∧
    (linkActive (nlk 5) 3 = true ∧ 15 < nlkLanes (nlk 5) 3 ∧ eqb.bad = false) ∧
    (flagAt (nlk 3) (nlkStat 3) 8 = false ∧ nlkState (nlk 3) 3 = 3 ∧ am.skewed = [] ∧ am.aligned = true ∧ (physOf (nlk 3) 3).amCnt + 1 < 8) ∧
    (8 ≤ (physOf (aligning 3) 3).amCnt + 1 ∧ rxOk (aligning 3) 3 ≠ 0 ∧ nlkState (aligning 3) 3 = 3 ∧ flagAt (aligning 3) (nlkStat 3) 8 = false) ∧
    (nlkState (nlk 5) 3 = 5 ∧ ({ am with posOk := false } : AmRow).posOk = false) ∧
    (nlkState (nlk 2) 3 = 2 ∧ 15 < nlkLanes (nlk 2) 3 ∧ nlkState (nlk 4) 3 = 4) ∧
    ((laneOf (laneMod (nlk 5) 9 15 (fun y => { y with block := true })) 9 15).block = true) ∧ 15 < nlkLanes (nlk 0) 3 ∧
    (nlkState (probes 1) 3 = 1 ∧ 15 < nlkLanes (probes 1) 3 ∧ bitOf (physOf (probes 1) 3).slip 0 = true) ∧
    (flagAt (regPut (nlk 0) (linkPg 9 + 0x11C) 1#32) (linkPg 9 + 0x11C) 0 = true) := by
  decide
set_option maxRecDepth 4000 in
theorem test_wrong_lane_count_fails :
    answers (exec (.tsBlockRx 3 0 { ts with lanes := 8 }) (nlk 1)) (fun t => nlkState t 3 == 0) = true := by
  decide
set_option maxRecDepth 4000 in
theorem test_enough_lanes_start_the_probe :
    answers (exec (.nicenSignalDetect 3 lit) (nlk 0)) (fun t => nlkState t 3 == 1) = true := by
  decide

/-- A good frame in sequence. -/
def frame : Frame := { seq := 0, ack := 0, nak := false, empty := false, good := .good, fixed := [] }
/-- So many zero bytes. -/
def zeros (n : Nat) : List Byte := List.replicate n 0#8
/-- Link 3 is ACTIVE with unacknowledged frame 0. -/
def unacked : State := physMod (nlk 5) 3 (fun x => { x with unacked := [{ seq := 0, time := 0, last := 2, data := zeros 16 }] })
theorem witness_nicen_frames :
    (4 ≤ nlkState (nlk 4) 3 ∧ frame.fixed = [] ∧ frame.nak = false ∧ frame.seq.val = ((physOf (nlk 4) 3).rxSeq + 1) % 4096 ∧
      ({ frame with empty := true } : Frame).empty = true ∧ frame.good = .good ∧ ({ frame with good := .fec } : Frame).good = .fec ∧ ({ frame with good := .crc } : Frame).good = .crc ∧
      ({ frame with seq := 5 } : Frame).seq.val ≠ ((physOf (nlk 4) 3).rxSeq + 1) % 4096) ∧
    (linkActive unacked 3 = true ∧ flagAt unacked (nlkStat 3) 9 = false ∧ (physOf unacked 3).unacked ≠ []) ∧
    (linkActive (nlk 5) 3 = true ∧ hand1.bad.val = 0 ∧ 0 < (32 : Fin 33).val ∧ (rxLanes (nlk 5) 3).length ≤ (32 : Fin 33).val) ∧
    flagAt (regPut (nlk 2) (nlkStat 3) 0x20000400#32) (nlkStat 3) 10 = true ∧
    (linkActive (regPut (nlk 5) (linkPg 9 + 0x100) 0x208000#32) 3 = true ∧ flagAt (regPut (nlk 5) (linkPg 9 + 0x100) 0x208000#32) (linkPg 9 + 0x100) 15 = true ∧
      (physOf (nlk 5) 3).unacked = [] ∧ (physOf (nlk 5) 3).stream = [] ∧ (physOf (nlk 5) 3).owe = false ∧ (physOf (nlk 5) 3).nak = false ∧ (physOf (nlk 5) 3).ex = none ∧ flagAt (nlk 5) (nlkStat 3) 9 = false ∧
      trickNo (nlk 5) + 128 < 4096) ∧
    (linkActive (regPut (nlk 5) (nlkStat 3) 0x50000200#32) 3 = true ∧ flagAt (regPut (nlk 5) (nlkStat 3) 0x50000200#32) (nlkStat 3) 9 = true) := by
  decide
theorem test_frame_out_of_sequence_is_a_nak :
    answers (exec (.frameRx 3 { frame with seq := 5 }) (nlk 5)) (fun t => (physOf t 3).drop && !(physOf t 3).nak && (physOf t 3).rxSeq == 4095) = true := by
  decide

/-- Link 3 is ACTIVE with `n` lanes in the transmit map. -/
def mapped (n : Nat) : State := regPut (nlk 5) (linkPg 9 + 0x120) (BitVec.ofNat 32 (2 ^ n - 1))
/-- The exchange 9 asked by this side, or by the partner. -/
def exch (mine restore : Bool) : ShedEx :=
  { mine := mine, restore := restore, lane := 3, spare := 255, ident := 9, hand := 0, target := 2, acked := false, ready := false, soft := false }
/-- It is under way. -/
def under (e : ShedEx) : State := physMod (mapped 16) 3 (fun x => { x with ex := some e, shedBy := [(3, 255)] })
theorem witness_shed_exchanges :
    flagAt (regPut (nlk 5) (linkPg 9 + 0x130) 0x100#32) (linkPg 9 + 0x130) 8 = true ∧
    (flagAt (nlk 4) (linkPg 9 + 0x130) 8 = false ∧ linkActive (nlk 4) 3 = false) ∧
    (flagAt (mapped 8) (linkPg 9 + 0x130) 8 = false ∧ linkActive (mapped 8) 3 = true ∧ (nlkTxMap (mapped 8) 3).testBit 7 = true ∧
      spareFor (mapped 8) 3 7 = 255 ∧ mapCount (nlkTxMap (mapped 8) 3) - 1 < minLanes (mapped 8) 3) ∧
    ((nlkTxMap (mapped 9) 3).testBit 8 = true ∧ minLanes (mapped 9) 3 ≤ mapCount (nlkTxMap (mapped 9) 3) - 1 ∧ (nlkTxMap (mapped 9) 3).testBit 9 = false ∧
      (physOf (mapped 9) 3).ex = none) ∧
    (¬ (nlkTxMap (mapped 9) 3).testBit 9 = true ∧ (physOf (mapped 9) 3).shedBy = [] ∧ minLanes (mapped 16) 3 ≤ mapCount (nlkTxMap (mapped 16) 3) - 1 + 0 ∧
      linkActive (mapped 9) 3 = true) ∧
    ((physOf (under (exch true false)) 3).ex = some (exch true false) ∧ (exch true false).hand = handNo (under (exch true false)) ∧
      (3, 255) ∈ (physOf (under (exch true false)) 3).shedBy) ∧
    ((physOf (under { exch true true with acked := true }) 3).ex = some { exch true true with acked := true }) ∧
    (flagAt (regPut (mapped 16) (linkPg 9 + 0x100) 0x204000#32) (linkPg 9 + 0x100) 14 = true ∧ (physOf (mapped 16) 3).misses < 8) := by
  decide
theorem test_shed_below_the_minimum :
    answers (exec (.shedCommand 3 7) (mapped 8)) (fun t => fldAt t (linkPg 9 + 0x130) 31 28 == 1 && (physOf t 3).ex.isNone) = true := by
  decide

theorem witness_coefficients :
    (12 + 32 + 4 = 48 ∧ 12 ≤ 12 ∧ 16 + 12 + 4 ≤ 32) ∧ ¬ (13 + 32 + 3 = 48 ∧ 13 ≤ 12 ∧ 16 + 13 + 3 ≤ 32) ∧ ¬ (12 + 31 + 5 = 48 ∧ 12 ≤ 12 ∧ 16 + 12 + 5 ≤ 31) := by
  decide
theorem test_coefficients_at_the_edge :
    (eqRequest up 3 0 1 12 32 4).1 = true ∧ (eqRequest up 3 0 1 13 32 3).1 = false ∧ (eqRequest up 3 0 1 12 31 5).1 = false := by
  decide

/-! ## The stream -/

/-- The RD header that 11_nicen_link_transactions.md works out in its example. -/
def rd : Txn :=
  { type := 0x02, cls := 1, poison := false, attr := 0, status := 0, seat := 1, fn := 0x051, tag := 0x1A7, len := 1, last := 0, posted := false, ep := 0x007A21, off := 0x03303440, data := [] }
set_option maxRecDepth 8000 in
theorem witness_stream :
    linkSends (nlk 3) 3 = false ∧ (physOf (nlk 3) 3).stream.length % 8 = 0 ∧
    (rd.type < 32 ∧ rd.cls < 4 ∧ rd.attr < 8 ∧ rd.status < 8 ∧ rd.seat < 8 ∧ rd.fn < 4096 ∧ rd.tag < 4096 ∧ rd.len < 128 ∧ rd.last < 64 ∧ rd.ep < 2 ^ 24 ∧ rd.off < 2 ^ 48) ∧
    ((zeros 248).length % 8 = 0 ∧ (zeros 248).length ≤ 248 ∧ 4095 < 4096 ∧ 0x23 < 256 ∧ (zeros 29).length ≤ 29) := by
  decide
theorem test_rd_header_bytes :
    (txnBytes rd).map (fun b => b.toNat) = [0x40, 0x34, 0x30, 0x03, 0x00, 0x00, 0x21, 0x7A, 0x00, 0x00, 0x81, 0xD3, 0x88, 0x82, 0x00, 0x12] := by
  decide +kernel
theorem test_crc16_of_the_digits : crc16 [0x31#8, 0x32#8, 0x33#8, 0x34#8, 0x35#8, 0x36#8, 0x37#8, 0x38#8, 0x39#8] = 0x29B1 := by
  decide +kernel

/-! ## Fabric transactions -/

/-- A transaction of type `t` for function 0 of seat 0, with `n` payload bytes in `len` units. -/
def txn (t : Fin 32) (cls : Fin 4) (len : Fin 128) (last : Fin 64) (off : BitVec 48) (data : List Byte) : TxnIn :=
  { type := t, cls := cls, poison := false, attr := 0, status := 0, seat := 0, fn := 0, tag := 9, len := len, last := last, posted := false, ep := 0, off := off, data := data }
/-- Link 3 is ACTIVE; function 0 masters, has a vector, and return entry 0 lets it be read and written. -/
def fabric : State :=
  let s := regPut (regPut (fldPut mastering (nlkStat 3) 31 28 5) (fnPg 0 + 0x124) 1#32) (fnPg 0 + 0x114) 1#32
  { s with xlt := { s.xlt with ret := [(0, 0xE000000000000000#64)] } }
/-- A folded link 3. -/
def fabricFolded : State := regPut fabric (foldReg 9) 0x80000014#32
/-- A request of function 0 holds tag 9 of link 3 for a host's window read of 64 bytes. -/
def waits (q : Bool) : State := linkTxMod fabric 3 (fun t => { t with tags := [(9, { TagEnt.ask 0 (.window 0 0 5) 0 64 1 1 with quar := q })] })
/-- A BURN exchange 9 for function 0 is open. -/
def burns : State := linkTxMod fabric 3 (fun t => { t with exchs := [{ isFold := false, ident := 9, seat := 0, fn := 0 }] })

theorem witness_fabric_completions :
    Sound (waits false) 3 0x03 { txn 0x03 2 0 0 0 [] with status := 1, posted := true } ∧
    Sound fabric 3 0x03 (txn 0x03 2 0 0 0 []) ∧
    (Sound (waits true) 3 0x03 (txn 0x03 2 1 0 0 (zeros 64)) ∧ Sound (waits false) 3 0x03 (txn 0x03 2 1 0 0 (zeros 64)) ∧
      (linkTxOf (passCredits (waits false) 3 (txn 0x03 2 1 0 0 (zeros 64))) 3).tags.find? (fun t => t.1 == 9) = some (9, TagEnt.ask 0 (.window 0 0 5) 0 64 1 1) ∧
      folded (passCredits (waits false) 3 (txn 0x03 2 1 0 0 (zeros 64))) 9 = false) := by
  unfold Sound; decide
theorem witness_fabric_requests :
    (Sound fabric 3 0x09 (txn 0x09 3 1 0 0 (zeros 64)) ∧ folded fabric 9 = false ∧ retCheck fabric 0 0 0 0 64 true = (.inl 0, fabric) ∧ seatRefuses fabric 3 0 = none) ∧
    (Sound fabricFolded 3 0x09 (txn 0x09 3 1 0 0 (zeros 64)) ∧ folded fabricFolded 9 = true) ∧
    (retCheck fabric 0 0 0 4096 64 true = (.inr (1, 1, 0), fabric) ∧ (fabricXact 3 (txn 0x09 3 1 0 0 (zeros 64)) 3 1).kit = 0) ∧
    (Sound fabric 3 0x0A (txn 0x0A 1 1 0 0 []) ∧ retCheck fabric 0 0 0 0 64 false = (.inl 0, fabric)) ∧
    (Sound fabricFolded 3 0x0A (txn 0x0A 1 1 0 0 [])) := by
  unfold Sound; decide
theorem witness_hints :
    (Sound fabric 3 0x0B (txn 0x0B 3 0 0 0 []) ∧ (fnOf fabric 0).master = true ∧ fnSeat fabric 0 = some 0 ∧ 0 % 2048 < vectorCount fabric 0 ∧ folded fabric 0 = false ∧ folded fabric 9 = false ∧ dlUp fabric 0 = true) ∧
    ((fnOf { fabric with fns := [] } 0).master = false ∧ Sound { fabric with fns := [] } 3 0x0B (txn 0x0B 3 0 0 0 [])) := by
  unfold Sound; decide
/-- What the look-ups of this state leave before the Dealer: where it goes, its arrival number, its wait. -/
def looked (s : State) : List (Nat × Nat × Nat) := (lookAll s).xacts.map (fun x => (x.dst, x.stamp, x.wait))
theorem test_landed_write_goes_to_its_seat_in_its_place :
    answers (exec (.hwrRx 3 (txn 0x09 3 1 0 0 (zeros 64))) fabric) (fun t =>
      answers (exec (.hintRx 3 (txn 0x0B 3 0 0 0 [])) t) (fun u => looked u == [(0, 0, 3), (0, 64, 0)])) = true := by
  decide
theorem test_refused_write_is_answered_by_its_own_card :
    answers (exec (.hwrRx 3 { txn 0x09 3 1 0 0 (zeros 64) with ep := 16#24 }) fabric) (fun t => looked t == [(9, 0, 0)]) = true := by
  decide
theorem witness_hint_without_a_host :
    dlUp (fldPut fabric (linkPg 0 + 0x110) 0 0 0) 0 = false ∧ Sound (fldPut fabric (linkPg 0 + 0x110) 0 0 0) 3 0x0B (txn 0x0B 3 0 0 0 []) := by
  unfold Sound; decide
theorem witness_fabric_control :
    Sound fabric 3 0x10 (txn 0x10 0 1 32 0 (zeros 32)) ∧
    (Sound (nlk 4) 3 0x10 (txn 0x10 0 1 32 1 (zeros 32)) ∧ initUnusable (creditCounts (txn 0x10 0 1 32 1 (zeros 32))) = false) ∧
    (Sound (nlk 4) 3 0x10 (txn 0x10 0 1 32 1 (1#8 :: zeros 31)) ∧ initUnusable (creditCounts (txn 0x10 0 1 32 1 (1#8 :: zeros 31))) = true) ∧
    (Sound burns 3 0x12 (txn 0x12 0 0 0 1 []) ∧ ∃ b ∈ (linkTxOf burns 3).exchs, b.isFold = false ∧ b.ident = 9 ∧ b.fn = 0 ∧ b.seat = 0) ∧
    Sound fabric 3 0x13 (txn 0x13 0 0 0 0 []) ∧ Sound fabric 3 0x14 (txn 0x14 0 1 0 0 (zeros 64)) ∧
    ((nlkState fabric 3 = 4 ∨ nlkState fabric 3 = 5) ∧ txnFault fabric 3 (txn 0x0B 1 0 0 0 []) ≠ 0) := by
  unfold Sound; decide
theorem witness_fabric_timeouts :
    ((linkTxOf (waits false) 3).tags.find? (fun t => t.1 == 9) = some (9, TagEnt.ask 0 (.window 0 0 5) 0 64 1 1)) ∧
    ((9, { TagEnt.ask 0 (.window 0 0 5) 0 64 1 1 with quar := true }) ∈ (linkTxOf (waits true) 3).tags) ∧
    (∃ b ∈ (linkTxOf burns 3).exchs, b.ident = 9) := by
  decide
theorem test_hint_goes_before_the_dealer :
    answers (exec (.hintRx 3 (txn 0x0B 3 0 0 0 [])) fabric) (fun t => t.xacts.map (fun x => x.after) == [.hint 0 3 3 9]) = true := by
  decide
theorem test_released_tag_is_free :
    answers (exec (.nicenTagRelease 3 9) (waits true)) (fun t => (linkTxOf t 3).tags == []) = true := by
  decide

/-! ## Time and power -/

/-- The source of time and TIM.STAT. -/
def timed (src stat : Word) : State := regPut (regPut up (timPg + 0x100) src) (timPg + 0x140) stat
theorem witness_time :
    (fldAt (timed 1#32 0) (timPg + 0x100) 3 0 = 1 ∧ flagAt (timed 1#32 0) (timPg + 0x138) 8 = false ∧ (timed 1#32 0).pwr.state < 3) ∧
    (flagAt (regPut (timed 1#32 0) (timPg + 0x138) 0x100#32) (timPg + 0x138) 8 = true) ∧
    (fldAt (timed 11#32 0) (timPg + 0x100) 3 0 = 8 + 3 ∧ 1 < fldAt (timed 11#32 0) (timPg + 0x100) 3 0) ∧
    (({ timed 1#32 0 with tim := { up.tim with used := true } } : State).tim.used = true ∧ fldAt (timed 1#32 0) (timPg + 0x140) 31 29 ≠ 3) ∧
    (flagAt (regPut up (timPg + 0x124) 0x80000000#32) (timPg + 0x124) 31 = true ∧ (up.time.toNat + fldAt (regPut up (timPg + 0x124) 0x80000000#32) (timPg + 0x124) 15 0) % 8000000000 = 0) := by
  decide
theorem witness_hand_and_time_transactions :
    Sound fabric 3 0x11 (txn 0x11 0 1 8 0 (zeros 8)) ∧
    (Sound (regPut fabric (timPg + 0x100) 11#32) 3 0x15 (txn 0x15 0 1 16 0 (zeros 16)) ∧ fldAt (regPut fabric (timPg + 0x100) 11#32) (timPg + 0x100) 3 0 = 8 + 3) := by
  unfold Sound; decide
theorem witness_locked :
    (timState (timed 1#32 0x40000000#32) = 2 ∧ timSource (timed 1#32 0x40000000#32) ≠ 0) ∧ ((6400 : Int).natAbs ≤ 6400 ∧ 6400 < (6401 : Int).natAbs) ∧
    (timed 1#32 0x40000000#32).tim.outs < 3 ∧ (3 ≤ ({ timed 1#32 0x40000000#32 with tim := { up.tim with outs := 3 } } : State).tim.outs) := by
  decide
theorem test_the_fourth_outlier_is_holdover :
    timState (measure { timed 1#32 0x40000000#32 with tim := { up.tim with outs := 3 } } 6401) = 3 ∧
    timState (measure { timed 1#32 0x40000000#32 with tim := { up.tim with outs := 2 } } 6401) = 2 := by
  decide

/-- The part sleeps and source 18 wakes it. -/
def sleeps : State := { regPut up (evrPg + 0x180) 0x40000#32 with pwr := { up.pwr with state := 2 } }
/-- The regulator answers. -/
def speaks : State := { up with pwr := { up.pwr with silent := false } }
theorem witness_power :
    (sleeps.pwr.state = 2 ∧ sleeps.pwr.entering ≠ 4 ∧ up.pwr.state ≠ 4 ∧ ({ up with pwr := { up.pwr with entering := 4 } } : State).pwr.entering = 4 ∧ flagAt sleeps (evrPg + 0x180) 18 = true) ∧
    (trusted up mg = true ∧ ∃ v ∈ votes up, v ≠ 4) ∧ (trusted up host1 = false) ∧ (up.pwr.state ≠ 4) ∧
    (speaks.pwr.silent = false ∧ speaks.pwr.frozen = false ∧ speaks.pwr.fails < 3 ∧ 3 ≤ ({ speaks with pwr := { speaks.pwr with fails := 3 } } : State).pwr.fails) ∧
    (∀ v ∈ votes (regPut up (pwrPg + 0x100) 0x44#32), v = 4) ∧
    (650 ≤ up.pwr.cmd ∧ up.pwr.cmd ≤ 850) := by
  decide
theorem test_off_with_a_vote_is_refused :
    answers (exec (.offCommand mg) up) (fun t => t.pwr.entering == 0 && fldAt t (pwrPg + 0x104) 31 28 == 1) = true := by
  decide

/-! ## Resets, boot, hosts, boundaries -/

/-- CONFIRM stands in the soft reset's register. -/
def confirmed : State := regPut up 0x1D0 0x5EA0#32
/-- The part is Off. -/
def off : State := { up with pwr := { up.pwr with state := 4 } }
theorem witness_resets :
    (isOff off = true ∧ isOff up = false ∧ trusted up mg = true) ∧
    (fldAt up 0x1D0 15 4 ≠ 0x5EA ∧ fldAt confirmed 0x1D0 15 4 = 0x5EA ∧ confirmed.boot.soft = false ∧ fldAt confirmed 0x1D4 31 28 = 7 ∧ confirmed.boot.shed = false) ∧
    (({ confirmed with boot := { confirmed.boot with soft := true } } : State).boot.soft = true) ∧
    (({ confirmed with boot := { confirmed.boot with shed := true } } : State).boot.shed = true) ∧ confirmed.store.busy = none := by
  decide
theorem test_soft_reset_waits_for_its_instant :
    answers (exec (.softReset mg) confirmed) (fun t => t.boot.soft && fldAt t 0x1D0 31 28 == 0 && fldAt t 0x1D4 31 28 == 7) = true := by
  decide

/-- What a boot of four healthy cores meets. -/
def boots : BootIn := { cores := 15, storeOk := true, hands := 0, prsnt := 0, perst := 0, gpio := 0, test := false }
theorem witness_boot :
    (r0.boot.shed = false ∧ isOff r0 = false ∧ fldAt r0 0x1D4 31 28 = 1 ∧ boots.test = false ∧ boots.cores ≠ 0 ∧ r0.lcs.fuse ≠ 5) ∧
    (({ r0 with lcs := { r0.lcs with fuse := 5 } } : State).lcs.fuse = 5) ∧ (fldAt (regPut r0 0x1D4 0x40000000#32) 0x1D4 31 28 = 4) := by
  decide
theorem test_boot_without_a_core :
    answers (exec (.boot { boots with cores := 0 }) r0) (fun t => fldAt t 0x1D4 31 28 == 1) = true := by
  decide

/-- Host 0 has BAR0 at 0 and BAR2 at 2^40, and credits. -/
def hosted : State :=
  seatMod (cfgPut (cfgPut mastering 0 0x1C 0x100#32) 0 0x24 0x200#32) 0 (fun x => { x with fc := 0xFFFFFFFF#32 })
/-- A request of host 0 at an address. -/
def req (a : BitVec 64) : HostReq := { seat := 0, rid := 0, tag := 5, addr := a, attr := 0, mark := .good }
theorem witness_host_requests :
    ((CanReceive hosted 0 1 0 ∧ CanReceive hosted 0 0 1 ∧ CanReceive hosted 0 1 1) ∧ oneSpan 0x100#64 4 = true ∧ oneSpan 0xFFC#64 4 = true) ∧
    (barHit (rxTlp hosted 0) 0 0x100 = some { fn := 0, bar := 0, off := 0x100 } ∧ Answers (rxTlp hosted 0) 0 { fn := 0, bar := 0, off := 0x100 }) ∧
    (barHit (rxTlp hosted 0) 0 (2 ^ 40) = some { fn := 0, bar := 2, off := 0 } ∧ Answers (rxTlp hosted 0) 0 { fn := 0, bar := 2, off := 0 }) ∧
    (barHit (rxTlp hosted 0) 0 (2 ^ 50) = none) ∧
    (atomOk (req (2 ^ 40)) 2 8 = true) ∧
    (dlUp mastering 0 = true ∧ isOff mastering = false ∧ hasLanding (rxTlp mastering 0) 0 1 0 = false) := by
  unfold CanReceive Answers; decide
theorem witness_configuration :
    (dlUp hosted 0 = true ∧ isOff hosted = false ∧ hasLanding (rxTlp hosted 0) 0 1 0 = true ∧ hasLanding (rxTlp hosted 0) 0 1 1 = true ∧
      hasLanding (rxTlp mastering 0) 0 1 0 = false ∧ hasLanding (rxTlp mastering 0) 0 1 1 = false) ∧
    (cfgVerdict (rxTlp hosted 0) 0 (cfgIndex (rxTlp hosted 0) { seat := 0, rid := 0, type0 := true, off := 4 }) = (0, 0)) ∧
    (cfgVerdict (rxTlp hosted 0) 0 (cfgIndex (rxTlp hosted 0) { seat := 0, rid := 5, type0 := false, off := 4 }) = (1, 0)) ∧
    (cfgVerdict (rxTlp hosted 0) 0 (cfgIndex (rxTlp hosted 0) { seat := 0, rid := 1, type0 := false, off := 4 }) = (2, 6) ∨
      (cfgVerdict (rxTlp (regPut hosted (linkPg 0 + 0x110) 0x30000001#32) 0) 0 0).1 = 2) ∧
    (3 ≤ fldAt up 0x1D4 31 28 ∧ isOff up = false ∧ up.mgmt.dyn = none ∧ mgmtAddr up = up.mgmt.addr ∧ mgmtAddr up ≠ 127) := by
  decide
theorem test_configuration_write_sets_bus_master :
    answers (exec (.configWrite { seat := 0, rid := 0, type0 := true, off := 4 } [some 4#8, none]) hosted) (fun t => (cfgAt t 0 4).getLsbD 2) = true := by
  decide
theorem test_setdasa :
    answers (exec (.setdasa ⟨up.mgmt.addr, by decide⟩ 9) up) (fun t => mgmtAddr t == 9) = true := by
  decide

/-- The last trick of hand 0. -/
def lastTrick : State := { up with time := 163800 }
theorem witness_boundaries : (isOff up = false ∧ trickNo up ≠ 4095) ∧ (isOff lastTrick = false ∧ trickNo lastTrick = 4095) ∧ isOff off = true := by
  decide
theorem test_trick_is_five_nanoseconds : (nextTrick up).time = 40 := by
  decide
theorem test_off_runs_nothing :
    answers (exec (.trickBoundary quiet) off) (fun t => t.time == 0) = true := by
  decide

theorem witness_pin : PinTellsTruth r0 := by
  unfold PinTellsTruth; decide
theorem witness_store_writes : StoreCanonical batching ∧ batching.store.busy = some { who := .pst, addr := 0x490000, data := [1#8, 2#8], rec_ := none } ∧
    StoreCanonical dying ∧ dying.store.busy = none := by
  unfold StoreCanonical; decide
theorem witness_books : BooksBalance (chargeFn r0 3 5) ∧ tabWf (fun _ => 0) (chargeFn r0 3 5).talon.held = true ∧ tabWf (fun _ => 0) (chargeFn r0 3 5).talon.landing = true := by
  unfold BooksBalance; decide
theorem test_step_takes_the_front :
    (match step { up with pending := [.attnButtonPress 2, .attnButtonPress 3] } with
      | .next t => t.pending == [.attnButtonPress 3] && flagAt t (slotPg 2 + 0x010) 9
      | _ => false) = true := by
  decide
theorem test_empty_queue_idles : step up = .next up := rfl

end Sys2Proof.Tests
end

section
/-! The laws of a write by access code: which bits have a code, which registers a clear of W1C bits stores to, and
what a register whose software bits are all W1C, or all W1S, reads after a write (R8, R9, R59). -/

namespace Sys2Proof.Machine

open Sys2Proof.Spec

/-! ## Bits by access code -/

/-- A bit has one of the codes exactly when a field with one of them covers it. -/
theorem getLsbD_accMask (fs : List Fld) (cs : List Acc) (i : Nat) :
    (accMask fs cs).getLsbD i = fs.any (fun f => cs.contains f.acc && (maskOf f.hi f.lo).getLsbD i) := by
  have from_mask (w : Word) :
      (fs.foldl (fun w f => if cs.contains f.acc then w ||| maskOf f.hi f.lo else w) w).getLsbD i =
        (w.getLsbD i || fs.any (fun f => cs.contains f.acc && (maskOf f.hi f.lo).getLsbD i)) := by
    induction fs generalizing w with
    | nil => simp
    | cons f fs ih =>
      rw [List.foldl_cons, ih, List.any_cons]
      cases cs.contains f.acc <;> simp [Bool.or_assoc]
  simpa [accMask] using from_mask 0

/-- The masks that a write computes are the register's bits by access code. -/
theorem accMask_regFlds (off : Nat) (cs : List Acc) : accMask ((regFlds off).getD []) cs = bitsOf off cs := rfl

/-- A register with no bit of the codes `ds` has none of fewer codes. -/
theorem bitsOf_eq_zero_of_subset {off : Nat} {cs ds : List Acc} (h : bitsOf off ds = 0) (hsub : cs ⊆ ds) : bitsOf off cs = 0 := by
  apply BitVec.eq_of_getLsbD_eq
  intro i _
  have hd : (bitsOf off ds).getLsbD i = false := by rw [h]; exact BitVec.getLsbD_zero
  refine Eq.trans ?_ BitVec.getLsbD_zero.symm
  simp only [bitsOf, getLsbD_accMask, List.any_eq_false, Bool.and_eq_true, List.contains_iff_mem, not_and] at hd ⊢
  exact fun f hf hc => hd f hf (hsub hc)

/-! ## Clearing W1C bits -/

/-- `o` is a log that clearing bits of the W1C register at `off` may release: one of R59's, or the fold cause of SAF (R420). -/
def IsReleasedLog (off o : Nat) : Prop :=
  (∃ i, o ∈ releasedLogs off i) ∨ (off = safPg + 0x100 ∧ (o = safPg + 0x104 ∨ o = safPg + 0x108))

/-- No W1C register is its own log. -/
theorem not_isReleasedLog_self (off : Nat) : ¬ IsReleasedLog off off := by
  rintro (⟨i, hi⟩ | ⟨hoff, hlog⟩)
  · -- R59's logs stand in the page at 0x040, 0x044 or from 0x100, the W1C registers at 0x010 and 0x01C
    unfold releasedLogs at hi
    dsimp only at hi
    split at hi <;> grind
  · omega

/-- The bits that a clear of the bits `c` takes from the register at `off`: those that it holds and that hardware did not set in this
trick (R9). -/
def goneBits (s : State) (off : Nat) (c : Word) : Word := regAt s off &&& c &&& ~~~ tabGet 0 s.hwSet off

theorem and_not_goneBits (s : State) (off : Nat) (c : Word) :
    regAt s off &&& ~~~ goneBits s off c = regAt s off &&& ~~~ (c &&& ~~~ tabGet 0 s.hwSet off) := by
  unfold goneBits
  ext i hi
  by_cases hw : (regAt s off)[i] <;> simp [hw]

/-- What a clear does: it stores the register without the bits that go, and then only releases logs. Whatever holds after that store
and of every release holds at the end. -/
theorem clearBits_induction {P : State → Prop} (s : State) (off : Nat) (c : Word)
    (hstore : P (regPut s off (regAt s off &&& ~~~ goneBits s off c)))
    (hrelease : ∀ t o, P t → IsReleasedLog off o → P (regPut t o 0)) : P (clearBits s off c) := by
  have hlogs : P ((List.range 32).foldl
      (fun t i => if bitOf (goneBits s off c) i then (releasedLogs off i).foldl (fun t o => regPut t o 0) t else t)
      (regPut s off (regAt s off &&& ~~~ goneBits s off c))) := by
    refine List.foldlRecOn _ _ hstore fun t ht i _ => ?_
    split
    · exact List.foldlRecOn _ _ ht fun u hu o ho => hrelease u o hu (.inl ⟨i, ho⟩)
    · exact ht
  unfold clearBits
  dsimp only
  split
  next hsaf => exact hrelease _ _ (hrelease _ _ hlogs (.inr ⟨hsaf.1, .inl rfl⟩)) (.inr ⟨hsaf.1, .inr rfl⟩)
  next => exact hlogs

/-- Software clears no memory of what hardware set in this trick (R9). -/
@[simp] theorem clearBits_hwSet (s : State) (off : Nat) (c : Word) : (clearBits s off c).hwSet = s.hwSet :=
  clearBits_induction (P := fun t => t.hwSet = s.hwSet) s off c (regPut_hwSet ..) fun t o ht _ => (regPut_hwSet t o 0).trans ht

/-- A cleared register keeps the bits that hardware set in this trick; a register that is no log of it is unchanged. -/
theorem regAt_clearBits (s : State) (off p : Nat) (c : Word) (hp : ¬ IsReleasedLog off p) :
    regAt (clearBits s off c) p = if p = off then regAt s off &&& ~~~ (c &&& ~~~ tabGet 0 s.hwSet off) else regAt s p := by
  refine clearBits_induction (P := fun t => regAt t p = _) s off c ?_ fun t o ht ho => ?_
  · rw [regAt_regPut, and_not_goneBits]
  · have hne : p ≠ o := fun h => hp (h ▸ ho)
    rw [regAt_regPut, if_neg hne, ht]

/-! ## Writes of registers with W1C or W1S bits alone -/

/-- A write of a register without RW, RWS, RWL and STG bits clears the W1C bits and sets the W1S bits that it writes with 1. -/
theorem plainWrite_of_w1_only {off : Nat} (h : bitsOf off [.rw, .rws, .rwl, .stg] = 0) (s : State) (r : Req) (m v : Word) (first : Nat) :
    plainWrite s r off m v first =
      (let c := m &&& bitsOf off [.w1c] &&& v
       let w := m &&& bitsOf off [.w1s] &&& v
       let t := if c = 0 then s else clearBits s off c
       if w = 0 then t else regPut t off (regAt t off ||| w)) := by
  have hrw : bitsOf off [.rw, .rws] = 0 := bitsOf_eq_zero_of_subset h (by decide)
  have hrwl : bitsOf off [.rwl] = 0 := bitsOf_eq_zero_of_subset h (by decide)
  have hstg : bitsOf off [.stg] = 0 := bitsOf_eq_zero_of_subset h (by decide)
  simp [plainWrite, accMask_regFlds, hrw, hrwl, hstg]

/-- A write of a register whose software bits are all W1C only clears. -/
theorem plainWrite_of_w1c_only {off : Nat} (h : bitsOf off [.rw, .rws, .rwl, .w1s, .stg] = 0) (s : State) (r : Req) (m v : Word) (first : Nat) :
    plainWrite s r off m v first =
      if m &&& bitsOf off [.w1c] &&& v = 0 then s else clearBits s off (m &&& bitsOf off [.w1c] &&& v) := by
  have hw1s : bitsOf off [.w1s] = 0 := bitsOf_eq_zero_of_subset h (by decide)
  rw [plainWrite_of_w1_only (bitsOf_eq_zero_of_subset h (by decide))]
  simp [hw1s]

/-- A write of a register whose software bits are all W1S only sets. -/
theorem plainWrite_of_w1s_only {off : Nat} (h : bitsOf off [.rw, .rws, .rwl, .w1c, .stg] = 0) (s : State) (r : Req) (m v : Word) (first : Nat) :
    plainWrite s r off m v first =
      if m &&& bitsOf off [.w1s] &&& v = 0 then s else regPut s off (regAt s off ||| (m &&& bitsOf off [.w1s] &&& v)) := by
  have hw1c : bitsOf off [.w1c] = 0 := bitsOf_eq_zero_of_subset h (by decide)
  rw [plainWrite_of_w1_only (bitsOf_eq_zero_of_subset h (by decide))]
  simp [hw1c]

/-- A write of W1C bits clears no memory of what hardware set in this trick (R9). -/
theorem plainWrite_hwSet_of_w1c_only {off : Nat} (h : bitsOf off [.rw, .rws, .rwl, .w1s, .stg] = 0) (s : State) (r : Req) (m v : Word)
    (first : Nat) : (plainWrite s r off m v first).hwSet = s.hwSet := by
  rw [plainWrite_of_w1c_only h]
  split
  · rfl
  · exact clearBits_hwSet ..

/-- What the written register reads: a 1 written to a W1C bit clears it unless hardware set it in this trick (R8, R9). -/
theorem regAt_plainWrite_of_w1c_only {off : Nat} (h : bitsOf off [.rw, .rws, .rwl, .w1s, .stg] = 0) (s : State) (r : Req) (m v : Word)
    (first : Nat) : regAt (plainWrite s r off m v first) off =
      regAt s off &&& ~~~ (m &&& v &&& bitsOf off [.w1c] &&& ~~~ tabGet 0 s.hwSet off) := by
  have hcomm : m &&& v &&& bitsOf off [.w1c] = m &&& bitsOf off [.w1c] &&& v := by ac_rfl
  rw [plainWrite_of_w1c_only h, hcomm]
  split
  next hnone =>
    rw [BitVec.ofNat_eq_ofNat] at hnone
    rw [hnone, BitVec.zero_and, BitVec.not_zero, BitVec.and_allOnes]
  next => rw [regAt_clearBits _ _ _ _ (not_isReleasedLog_self off), if_pos rfl]

/-- What the written register reads: a 1 written to a W1S bit sets it (R8). -/
theorem regAt_plainWrite_of_w1s_only {off : Nat} (h : bitsOf off [.rw, .rws, .rwl, .w1c, .stg] = 0) (s : State) (r : Req) (m v : Word)
    (first : Nat) : regAt (plainWrite s r off m v first) off = regAt s off ||| (m &&& v &&& bitsOf off [.w1s]) := by
  have hcomm : m &&& v &&& bitsOf off [.w1s] = m &&& bitsOf off [.w1s] &&& v := by ac_rfl
  rw [plainWrite_of_w1s_only h, hcomm]
  split
  next hnone => simp [hnone]
  next => rw [regAt_regPut, if_pos rfl]

/-! ## Bits that hardware set in this trick -/

/-- What hardware has just set is remembered as set in this trick. -/
theorem tabGet_hwSet_hwSetBits (s : State) (off : Nat) (k : Word) : tabGet 0 (hwSetBits s off k).hwSet off = tabGet 0 s.hwSet off ||| k :=
  (tabGet_tabPut ..).trans (if_pos rfl)

/-- A bit that hardware set in this trick stays set under a W1C write (R9). -/
theorem regAt_plainWrite_hwSetBits {off : Nat} (h : bitsOf off [.rw, .rws, .rwl, .w1s, .stg] = 0) (s : State) (r : Req) (m v k : Word)
    (first : Nat) : regAt (plainWrite (hwSetBits s off k) r off m v first) off &&& k = k := by
  rw [regAt_plainWrite_of_w1c_only h, tabGet_hwSet_hwSetBits, regAt_hwSetBits, if_pos rfl]
  ext i hi
  by_cases hk : k[i] <;> simp [hk]

/-! ## Two writes of one trick -/

/-- Settles O17: the first write leaves the memory of what hardware set, so the second reads the same codes and the same spared bits, and
the two masks join. -/
theorem writesOfOneTrickCombine : Obligations.WritesOfOneTrickCombine := by
  unfold Obligations.WritesOfOneTrickCombine
  intro s r q off first m v m' v' k
  refine ⟨fun hw1c => ⟨?_, regAt_plainWrite_hwSetBits hw1c s r m v k first⟩, fun hw1s => ?_⟩
  · rw [regAt_plainWrite_of_w1c_only hw1c, plainWrite_hwSet_of_w1c_only hw1c, regAt_plainWrite_of_w1c_only hw1c,
      BitVec.and_assoc (regAt s off), ← BitVec.not_or, ← BitVec.and_or_distrib_right, ← BitVec.and_or_distrib_right]
  · rw [regAt_plainWrite_of_w1s_only hw1s, regAt_plainWrite_of_w1s_only hw1s, BitVec.or_assoc, ← BitVec.and_or_distrib_right]

end Sys2Proof.Machine
end

section
/-! The laws of a lane's transmitter coefficients: the space of R111, the fields of a LANE_TXEQ word and the preset it names (R111, R126). -/

namespace Sys2Proof.Machine

/-- The check of a request is membership in the space of R111. -/
theorem eqLegal_iff (pre main post : Nat) :
    eqLegal pre main post = true ↔ pre + main + post = 48 ∧ pre ≤ 12 ∧ 16 + pre + post ≤ main := by
  simp only [eqLegal, Bool.and_eq_true, beq_iff_eq, decide_eq_true_iff]
  omega

/-! ## Requests -/

theorem eqRequest_of_eqLegal {pre main post : Nat} (h : eqLegal pre main post = true) (s : State) (p i r : Nat) :
    eqRequest s p i r pre main post = (true, regPut s (laneTxeq p i) (txeqWord r (pre, main, post))) := if_pos h

theorem eqRequest_of_not_eqLegal {pre main post : Nat} (h : ¬ eqLegal pre main post = true) (s : State) (p i r : Nat) :
    eqRequest s p i r pre main post = (false, s) := if_neg h

/-! ## The fields of a LANE_TXEQ word -/

theorem bits_txeqBits_pre (preset main post : Nat) {pre : Nat} (h : pre < 64) : bits (txeqBits preset (pre, main, post)) 5 0 = pre :=
  (bits_setBits_same _ 5 0 _ (by decide) (by decide)).trans (Nat.mod_eq_of_lt h)

theorem bits_txeqBits_main (preset pre post : Nat) {main : Nat} (h : main < 64) : bits (txeqBits preset (pre, main, post)) 11 6 = main := by
  rw [txeqBits, bits_setBits_other _ 5 0 _ _ _ (by decide) (by decide)]
  exact (bits_setBits_same _ 11 6 _ (by decide) (by decide)).trans (Nat.mod_eq_of_lt h)

theorem bits_txeqBits_post (preset pre main : Nat) {post : Nat} (h : post < 64) : bits (txeqBits preset (pre, main, post)) 17 12 = post := by
  rw [txeqBits, bits_setBits_other _ 5 0 _ _ _ (by decide) (by decide), bits_setBits_other _ 11 6 _ _ _ (by decide) (by decide)]
  exact (bits_setBits_same _ 17 12 _ (by decide) (by decide)).trans (Nat.mod_eq_of_lt h)

theorem bits_txeqBits_preset {preset : Nat} (h : preset < 16) (c : Nat × Nat × Nat) : bits (txeqBits preset c) 31 28 = preset := by
  rw [txeqBits, bits_setBits_other _ 5 0 _ _ _ (by decide) (by decide), bits_setBits_other _ 11 6 _ _ _ (by decide) (by decide),
    bits_setBits_other _ 17 12 _ _ _ (by decide) (by decide)]
  exact (bits_setBits_same _ 31 28 _ (by decide) (by decide)).trans (Nat.mod_eq_of_lt h)

/-! ## The preset that a set equals -/

/-- The PRESET code of a coefficient set at rate code `r`: the lowest preset that it equals, else 0xF (R126). -/
def presetCode (r : Nat) (c : Nat × Nat × Nat) : Nat := ((List.range 11).find? (fun i => presetEq r i == c)).getD 0xF

theorem txeqWord_eq (r : Nat) (c : Nat × Nat × Nat) : txeqWord r c = txeqBits (presetCode r c) c := rfl

/-- Either the code names the lowest preset that the set equals, or it is 0xF and the set equals none. -/
theorem presetCode_cases (r : Nat) (c : Nat × Nat × Nat) :
    (presetCode r c < 11 ∧ presetEq r (presetCode r c) = c ∧ ∀ n < presetCode r c, presetEq r n ≠ c) ∨
      (presetCode r c = 0xF ∧ ∀ n < 11, presetEq r n ≠ c) := by
  unfold presetCode
  cases hfind : (List.range 11).find? (fun i => presetEq r i == c) with
  | none => exact .inr ⟨rfl, by simpa using hfind⟩
  | some n =>
    obtain ⟨heq, hmem, hlow⟩ := List.find?_range_eq_some.mp hfind
    exact .inl ⟨List.mem_range.mp hmem, beq_iff_eq.mp heq, fun m hm => by simpa using hlow m hm⟩

/-- PRESET has room for every code. -/
theorem bits_txeqWord_preset (r : Nat) (c : Nat × Nat × Nat) : bits (txeqWord r c) 31 28 = presetCode r c := by
  have hroom : presetCode r c < 16 := by
    obtain ⟨hlt, -⟩ | ⟨hnone, -⟩ := presetCode_cases r c <;> omega
  rw [txeqWord_eq, bits_txeqBits_preset hroom]

theorem presetCode_of_presetEq {r n : Nat} {c : Nat × Nat × Nat} (hn : n < 11) (h : presetEq r n = c) :
    presetCode r c ≤ n ∧ presetEq r (presetCode r c) = c := by
  obtain ⟨-, heq, hlow⟩ | ⟨-, hnone⟩ := presetCode_cases r c
  · exact ⟨Nat.le_of_not_lt fun hlt => hlow n hlt h, heq⟩
  · exact absurd h (hnone n hn)

theorem presetCode_of_no_preset {r : Nat} {c : Nat × Nat × Nat} (h : ∀ n < 11, presetEq r n ≠ c) : presetCode r c = 0xF := by
  obtain ⟨hlt, heq, -⟩ | ⟨hnone, -⟩ := presetCode_cases r c
  · exact absurd heq (h _ hlt)
  · exact hnone

/-! ## A coefficient request -/

/-- Settles O44: the model's check is the space of R111, each number of a set in it fits its six bits, and PRESET is the code of the lowest
preset that the set equals. -/
theorem coefficientRequestsFollowTheSpace : Obligations.CoefficientRequestsFollowTheSpace := by
  unfold Obligations.CoefficientRequestsFollowTheSpace
  intro s p i rate pre main post legal w
  have hspace : eqLegal pre main post = true ↔ legal := eqLegal_iff pre main post
  have hpreset : bits w 31 28 = presetCode rate (pre, main, post) := bits_txeqWord_preset rate (pre, main, post)
  rw [hpreset]
  refine ⟨fun hlegal => ⟨eqRequest_of_eqLegal (hspace.mpr hlegal) s p i rate, ?pre, ?main, ?post, fun n => presetCode_of_presetEq,
    presetCode_of_no_preset⟩, fun hout => eqRequest_of_not_eqLegal (mt hspace.mp hout) s p i rate⟩
  all_goals obtain ⟨hsum, -, -⟩ := hlegal
  case pre => exact bits_txeqBits_pre _ main post (by omega)
  case main => exact bits_txeqBits_main _ pre post (by omega)
  case post => exact bits_txeqBits_post _ pre main (by omega)

end Sys2Proof.Machine
end

section
/-! The laws of the bytes that a Nicen Link sends: numbers as bytes, packed fields, the checks over bytes, the transactions of the stream,
frames and control blocks (R322, R332, R333, R355, R357). -/

namespace Sys2Proof.Machine

/-! ## Numbers as bytes -/

@[simp] theorem length_natLe (n v : Nat) : (natLe n v).length = n := by
  induction n generalizing v with
  | zero => rfl
  | succ n ih => rw [natLe, List.length_cons, ih]

theorem leNat_natLe (n v : Nat) : leNat (natLe n v) = v % 2 ^ (8 * n) := by
  induction n generalizing v with
  | zero => exact (Nat.mod_one v).symm
  | succ n ih => rw [natLe, leNat, ih, Nat.mul_succ, Nat.add_comm (8 * n), Nat.pow_add, Nat.mod_mul, BitVec.toNat_ofNat]

theorem leNat_natLe_of_lt {n v : Nat} (h : v < 2 ^ (8 * n)) : leNat (natLe n v) = v := by
  rw [leNat_natLe, Nat.mod_eq_of_lt h]

theorem b2n_eq_toNat (b : Bool) : b2n b = b.toNat := by
  cases b <;> rfl

/-- Zeros behind a list, cut at `n` bytes, fill the list up to `n` bytes. -/
theorem take_append_zeros {l : List Byte} {m n : Nat} (hfits : l.length ≤ n) (hfill : n ≤ l.length + m) :
    (l ++ List.replicate m 0#8).take n = l ++ List.replicate (n - l.length) 0#8 := by
  rw [List.take_append, List.take_of_length_le hfits, List.take_replicate, Nat.min_eq_left (by omega)]

/-! ## Packed fields -/

/-- The bits that a list of fields, each a width and a value, occupies. -/
def packWidth : List (Nat × Nat) → Nat
  | [] => 0
  | p :: r => p.1 + packWidth r

/-- The number whose bits are the fields, the first on top. -/
def packFields : List (Nat × Nat) → Nat
  | [] => 0
  | p :: r => p.2 % 2 ^ p.1 * 2 ^ packWidth r + packFields r

theorem packFields_lt (l : List (Nat × Nat)) : packFields l < 2 ^ packWidth l := by
  induction l with
  | nil => exact Nat.one_pos
  | cons p r ih =>
    have htop : p.2 % 2 ^ p.1 < 2 ^ p.1 := Nat.mod_lt _ (Nat.two_pow_pos _)
    calc p.2 % 2 ^ p.1 * 2 ^ packWidth r + packFields r
        < p.2 % 2 ^ p.1 * 2 ^ packWidth r + 2 ^ packWidth r := Nat.add_lt_add_left ih _
      _ = (p.2 % 2 ^ p.1 + 1) * 2 ^ packWidth r := (Nat.succ_mul _ _).symm
      _ ≤ 2 ^ p.1 * 2 ^ packWidth r := Nat.mul_le_mul_right _ htop
      _ = 2 ^ packWidth (p :: r) := (Nat.pow_add ..).symm

theorem packFields_lt_of_width {l : List (Nat × Nat)} {n : Nat} (h : packWidth l = n) : packFields l < 2 ^ n := h ▸ packFields_lt l

theorem packWidth_append (a b : List (Nat × Nat)) : packWidth (a ++ b) = packWidth a + packWidth b := by
  induction a with
  | nil => exact (Nat.zero_add _).symm
  | cons p a ih => rw [List.cons_append, packWidth, packWidth, ih, Nat.add_assoc]

theorem packFields_append (a b : List (Nat × Nat)) : packFields (a ++ b) = packFields a * 2 ^ packWidth b + packFields b := by
  induction a with
  | nil => rw [packFields, Nat.zero_mul, Nat.zero_add, List.nil_append]
  | cons p a ih => rw [List.cons_append, packFields, packFields, ih, packWidth_append, Nat.pow_add, Nat.add_mul, Nat.mul_assoc, Nat.add_assoc]

/-- The fields `b` are the low bits: a shift by their width leaves those in front of them. -/
theorem packFields_append_div (a b : List (Nat × Nat)) : packFields (a ++ b) / 2 ^ packWidth b = packFields a := by
  rw [packFields_append, Nat.mul_comm, Nat.mul_add_div (Nat.two_pow_pos _), Nat.div_eq_of_lt (packFields_lt b), Nat.add_zero]

theorem packFields_concat_mod (a : List (Nat × Nat)) (p : Nat × Nat) : packFields (a ++ [p]) % 2 ^ p.1 = p.2 % 2 ^ p.1 := by
  simp only [packFields_append, packWidth, Nat.add_zero, packFields, Nat.pow_zero, Nat.mul_one, Nat.add_mod_mod, Nat.mul_add_mod_self_right]

/-- A field whose value fits stands at its bits: right above those of the fields behind it. -/
theorem packFields_field {l : List (Nat × Nat)} {i w v lo : Nat} (hi : l[i]? = some (w, v)) (hlo : packWidth (l.drop (i + 1)) = lo)
    (hfit : ∀ p ∈ l, p.2 < 2 ^ p.1) : packFields l / 2 ^ lo % 2 ^ w = v := by
  obtain ⟨hlt, hget⟩ := List.getElem?_eq_some_iff.mp hi
  have hsplit : l = (l.take i ++ [(w, v)]) ++ l.drop (i + 1) := by
    simp only [← hget, List.take_append_getElem, List.take_append_drop]
  calc packFields l / 2 ^ lo % 2 ^ w
      = packFields (l.take i ++ [(w, v)]) % 2 ^ w := by rw [congrArg packFields hsplit, ← hlo, packFields_append_div]
    _ = v % 2 ^ w := packFields_concat_mod _ (w, v)
    _ = v := Nat.mod_eq_of_lt (hfit _ (List.mem_of_getElem? hi))

/-! ## The checks over bytes (R322, R333) -/

/-- A bound that one bit step keeps, the eight steps of a byte keep. -/
theorem eight_steps_lt {f : Nat → Nat} {m : Nat} (hstep : ∀ {c}, c < m → f c < m) {c : Nat} (hc : c < m) : f (f (f (f (f (f (f (f c))))))) < m :=
  hstep (hstep (hstep (hstep (hstep (hstep (hstep (hstep hc)))))))

theorem crc16Bit_lt {c : Nat} (h : c < 2 ^ 16) : crc16Bit c < 2 ^ 16 := by
  unfold crc16Bit
  split
  · exact Nat.mod_lt _ (by decide)
  · next htop =>
    rw [Nat.testBit_eq_decide_div_mod_eq, decide_eq_true_iff] at htop
    omega

theorem crc16_lt (l : List Byte) : crc16 l < 2 ^ 16 := by
  refine List.foldlRecOn (motive := (· < 2 ^ 16)) l crc16Byte (by decide) fun c hc b _ => ?_
  have hmix : Nat.xor c (b.toNat * 256) < 2 ^ 16 := Nat.xor_lt_two_pow hc (by omega)
  exact eight_steps_lt crc16Bit_lt hmix

theorem frameCrcBit_lt {c : Nat} (h : c < 2 ^ 32) : frameCrcBit c < 2 ^ 32 := by
  unfold frameCrcBit
  split
  · exact Nat.xor_lt_two_pow (by omega) (by decide)
  · omega

theorem frameCrc_lt (l : List Byte) : frameCrc l < 2 ^ 32 := by
  refine Nat.xor_lt_two_pow (List.foldlRecOn (motive := (· < 2 ^ 32)) l frameCrcByte (by decide) fun c hc b _ => ?_) (by decide)
  have hmix : Nat.xor c b.toNat < 2 ^ 32 := Nat.xor_lt_two_pow hc (by omega)
  exact eight_steps_lt frameCrcBit_lt hmix

theorem length_rsStep {r : List Nat} (h : r.length = 4) (b : Byte) : (rsStep r b).length = 4 := by
  have hgen : rsGen.length = 4 := by decide
  simp only [rsStep, List.length_zipWith, List.length_append, List.length_drop, List.length_map, List.length_cons, List.length_nil, h, hgen]
  rfl

theorem length_rsParity (l : List Byte) : (rsParity l).length = 4 :=
  List.foldlRecOn (motive := (·.length = 4)) l rsStep rfl fun _ hr b _ => length_rsStep hr b

/-- Chunks of `n` bytes, one for each pair of two lists' elements. -/
theorem length_flatten_zipWith {f : Nat → Nat → List Byte} {n : Nat} (hf : ∀ a b, (f a b).length = n) (as bs : List Nat) :
    (List.zipWith f as bs).flatten.length = n * min as.length bs.length := by
  induction as generalizing bs with
  | nil => simp only [List.zipWith_nil_left, List.flatten_nil, List.length_nil, Nat.zero_min, Nat.mul_zero]
  | cons a as ih =>
    cases bs with
    | nil => rfl
    | cons b bs =>
      rw [List.zipWith_cons_cons, List.flatten_cons, List.length_append, hf, ih, List.length_cons, List.length_cons, Nat.succ_min_succ,
        Nat.mul_succ, Nat.add_comm]

theorem length_frameParity (l : List Byte) : (frameParity l).length = 8 := by
  rw [frameParity, length_flatten_zipWith (n := 2) fun _ _ => rfl, length_rsParity, length_rsParity]
  rfl

/-! ## Transactions in the stream (R355, R357) -/

/-- A transaction's padding: zeros up to a multiple of 8 bytes. -/
def txnPad (x : Txn) : List Byte := List.replicate ((8 - x.data.length % 8) % 8) 0#8

theorem txnBytes_eq (x : Txn) : txnBytes x = natLe 16 (headerBits x) ++ (x.data ++ txnPad x) := List.append_assoc ..

theorem length_txnBytes (x : Txn) : (txnBytes x).length = 16 + 8 * ((x.data.length + 7) / 8) := by
  simp only [txnBytes_eq, txnPad, List.length_append, length_natLe, List.length_replicate]
  omega

theorem take_txnBytes (x : Txn) : (txnBytes x).take 16 = natLe 16 (headerBits x) := by
  rw [txnBytes_eq, List.take_left' (length_natLe ..)]

theorem drop_txnBytes (x : Txn) : (txnBytes x).drop 16 = x.data ++ txnPad x := by
  rw [txnBytes_eq, List.drop_left' (length_natLe ..)]

/-- The header's fields, from bit 127 down, with the reserved bit 72 (R357). -/
def headerFields (x : Txn) : List (Nat × Nat) :=
  [(5, x.type), (2, x.cls), (1, x.poison.toNat), (3, x.attr), (3, x.status), (3, x.seat), (12, x.fn), (12, x.tag), (7, x.len), (6, x.last),
   (1, x.posted.toNat), (1, 0), (24, x.ep), (48, x.off)]

theorem headerBits_eq_packFields (x : Txn) : headerBits x = packFields (headerFields x) := by
  have hbit (b : Bool) : b.toNat % 2 = b.toNat := Nat.mod_eq_of_lt b.toNat_lt
  simp only [headerBits, headerFields, packFields, packWidth, b2n_eq_toNat, hbit, Nat.add_assoc, Nat.reducePow, Nat.reduceAdd, Nat.add_zero,
    Nat.zero_add, Nat.pow_one, Nat.pow_zero, Nat.mul_one, Nat.zero_mod, Nat.zero_mul]

theorem packWidth_headerFields (x : Txn) : packWidth (headerFields x) = 128 := by
  simp only [headerFields, packWidth, Nat.add_zero, Nat.reduceAdd]

theorem leNat_take_txnBytes (x : Txn) : leNat ((txnBytes x).take 16) = packFields (headerFields x) := by
  rw [take_txnBytes, headerBits_eq_packFields]
  exact leNat_natLe_of_lt (packFields_lt_of_width (packWidth_headerFields x))

/-! ## A transaction takes its place -/

theorem physOf_physMod (s : State) (k j : Nat) (g : LinkPhy → LinkPhy) :
    physOf (physMod s k g) j = if j = k then g (physOf s k) else physOf s j := tabGet_tabMod ..

theorem pump_of_not_linkSends {s : State} {k : Nat} (h : linkSends s k = false) : pump s k = s := by
  rw [pump, h]; rfl

/-- On a link that does not send, the transaction waits in the stream. -/
theorem nicenPut_of_not_linkSends {s : State} {k : Nat} (h : linkSends s k = false) (x : Txn) :
    nicenPut s k x = physMod (emit s (.nicen k x)) k
      (fun y => { y with stream := y.stream ++ txnBytes x, placed := y.placed + (txnBytes x).length / 8 }) :=
  pump_of_not_linkSends h

/-! ## Frames (R332) -/

/-- The control word of a frame. -/
def frameControl (seq ack : Nat) (nak empty : Bool) (data : List Byte) : Nat :=
  seq % 4096 * 2 ^ 20 + ack % 4096 * 2 ^ 8 + b2n nak * 2 ^ 7 + b2n empty * 2 ^ 6 + data.length / 8 % 32

/-- Bytes 0 to 251 of a frame: the control word, the units and the zeros behind them. -/
def frameBody (seq ack : Nat) (nak empty : Bool) (data : List Byte) : List Byte :=
  natLe 4 (frameControl seq ack nak empty data) ++ (data ++ List.replicate (248 - data.length) 0#8)

theorem frameControl_eq {seq ack : Nat} (nak empty : Bool) {data : List Byte} (hdata : data.length ≤ 248) (hseq : seq < 4096) (hack : ack < 4096) :
    frameControl seq ack nak empty data = seq * 2 ^ 20 + ack * 2 ^ 8 + nak.toNat * 2 ^ 7 + empty.toNat * 2 ^ 6 + data.length / 8 := by
  rw [frameControl, b2n_eq_toNat, b2n_eq_toNat, Nat.mod_eq_of_lt hseq, Nat.mod_eq_of_lt hack, Nat.mod_eq_of_lt (by omega : data.length / 8 < 32)]

theorem frameControl_lt (seq ack : Nat) (nak empty : Bool) (data : List Byte) : frameControl seq ack nak empty data < 2 ^ 32 := by
  have hnak := nak.toNat_le
  have hempty := empty.toNat_le
  rw [frameControl, b2n_eq_toNat, b2n_eq_toNat]
  omega

theorem length_frameBody {seq ack : Nat} {nak empty : Bool} {data : List Byte} (h : data.length ≤ 248) :
    (frameBody seq ack nak empty data).length = 252 := by
  simp only [frameBody, List.length_append, length_natLe, List.length_replicate]
  omega

/-- A frame is its body, the CRC-32 over the body, and the parity over both. -/
theorem frameBytes_eq (seq ack : Nat) (nak empty : Bool) {data : List Byte} (h : data.length ≤ 248) :
    let b := frameBody seq ack nak empty data
    let c := natLe 4 (frameCrc b)
    frameBytes seq ack nak empty data = b ++ (c ++ frameParity (b ++ c)) := by
  intro b c
  have hunits : (data ++ List.replicate 248 0#8).take 248 = data ++ List.replicate (248 - data.length) 0#8 :=
    take_append_zeros h (Nat.le_add_left ..)
  rw [← List.append_assoc]
  simp only [frameBytes, frameUnits, hunits, b, c, frameBody, frameControl]

theorem length_frameBytes (seq ack : Nat) (nak empty : Bool) {data : List Byte} (h : data.length ≤ 248) :
    (frameBytes seq ack nak empty data).length = 264 := by
  rw [frameBytes_eq _ _ _ _ h]
  simp only [List.length_append, length_frameBody h, length_natLe, length_frameParity, Nat.reduceAdd]

theorem take_frameBytes (seq ack : Nat) (nak empty : Bool) {data : List Byte} (h : data.length ≤ 248) :
    (frameBytes seq ack nak empty data).take 252 = frameBody seq ack nak empty data := by
  rw [frameBytes_eq _ _ _ _ h, List.take_left' (length_frameBody h)]

/-- The four bytes behind the body are its CRC-32. -/
theorem leNat_crc_frameBytes (seq ack : Nat) (nak empty : Bool) {data : List Byte} (h : data.length ≤ 248) :
    leNat (((frameBytes seq ack nak empty data).drop 252).take 4) = frameCrc (frameBody seq ack nak empty data) := by
  rw [frameBytes_eq _ _ _ _ h, List.drop_left' (length_frameBody h), List.take_left' (length_natLe ..), leNat_natLe_of_lt (frameCrc_lt _)]

theorem leNat_control_frameBytes (seq ack : Nat) (nak empty : Bool) {data : List Byte} (h : data.length ≤ 248) :
    leNat ((frameBytes seq ack nak empty data).take 4) = frameControl seq ack nak empty data := by
  rw [frameBytes_eq _ _ _ _ h, frameBody, List.append_assoc, List.take_left' (length_natLe ..), leNat_natLe_of_lt (frameControl_lt ..)]

theorem units_frameBytes (seq ack : Nat) (nak empty : Bool) {data : List Byte} (h : data.length ≤ 248) :
    ((frameBytes seq ack nak empty data).drop 4).take data.length = data := by
  rw [frameBytes_eq _ _ _ _ h, frameBody, List.append_assoc, List.drop_left' (length_natLe ..), List.append_assoc, List.take_left]

theorem drop_frameBody (seq ack : Nat) (nak empty : Bool) (data : List Byte) :
    (frameBody seq ack nak empty data).drop (4 + data.length) = List.replicate (248 - data.length) 0#8 := by
  rw [frameBody, ← List.append_assoc, List.drop_left' (by rw [List.length_append, length_natLe])]

/-! ## Control blocks (R322) -/

/-- Bytes 0 to 29 of a control block: TYPE, the fields and the zeros behind them. -/
def controlBody (kind : Nat) (fields : List Byte) : List Byte :=
  (BitVec.ofNat 8 kind :: fields) ++ List.replicate (29 - fields.length) 0#8

theorem length_controlBody (kind : Nat) {fields : List Byte} (h : fields.length ≤ 29) : (controlBody kind fields).length = 30 := by
  simp only [controlBody, List.length_append, List.length_cons, List.length_replicate]
  omega

theorem controlBlock_eq (kind : Nat) {fields : List Byte} (h : fields.length ≤ 29) :
    controlBlock kind fields = controlBody kind fields ++ natLe 2 (crc16 (controlBody kind fields)) := by
  have hbody : (BitVec.ofNat 8 kind :: fields ++ List.replicate 29 0#8).take 30 = controlBody kind fields := by
    rw [take_append_zeros (Nat.succ_le_succ h) (by rw [List.length_cons]; omega), List.length_cons, Nat.succ_sub_succ, controlBody]
  rw [controlBlock, hbody]

theorem length_controlBlock (kind : Nat) {fields : List Byte} (h : fields.length ≤ 29) : (controlBlock kind fields).length = 32 := by
  rw [controlBlock_eq kind h, List.length_append, length_controlBody kind h, length_natLe]

theorem take_controlBlock (kind : Nat) {fields : List Byte} (h : fields.length ≤ 29) :
    (controlBlock kind fields).take 30 = controlBody kind fields := by
  rw [controlBlock_eq kind h, List.take_left' (length_controlBody kind h)]

theorem fields_controlBlock (kind : Nat) {fields : List Byte} (h : fields.length ≤ 29) :
    (controlBlock kind fields).take (1 + fields.length) = BitVec.ofNat 8 kind :: fields := by
  rw [controlBlock_eq kind h, controlBody, List.append_assoc, List.take_left' (Nat.add_comm ..)]

theorem drop_controlBody (kind : Nat) (fields : List Byte) :
    (controlBody kind fields).drop (1 + fields.length) = List.replicate (29 - fields.length) 0#8 := by
  rw [controlBody, List.drop_left' (Nat.add_comm ..)]

theorem leNat_crc_controlBlock (kind : Nat) {fields : List Byte} (h : fields.length ≤ 29) :
    leNat ((controlBlock kind fields).drop 30) = crc16 (controlBody kind fields) := by
  rw [controlBlock_eq kind h, List.drop_left' (length_controlBody kind h), leNat_natLe_of_lt (crc16_lt _)]

/-! ## The formats -/

/-- Settles O45: a transaction, a frame and a control block are each a body padded with zeros behind which its check stands, and a header
field is the bits above those of the fields behind it. -/
theorem streamFollowsTheFormat : Obligations.StreamFollowsTheFormat := by
  unfold Obligations.StreamFollowsTheFormat
  intro s k seq ack kind nak empty x data fields b n h f y frame c ctl
  refine ⟨⟨length_txnBytes x, ?payload, ?padding⟩, fun hidle => ⟨?stream, ?out, ?units⟩,
    fun htype hcls hattr hstatus hseat hfn htag hlen hlast hep hoff => ?header, fun _ hdata hseq hack => ?frame, fun _ hfields => ?control⟩
  case payload =>
    rw [drop_txnBytes, List.take_left]
  case padding =>
    intro z hz
    rw [← List.drop_drop, drop_txnBytes, List.drop_left] at hz
    exact List.eq_of_mem_replicate hz
  case stream =>
    rw [nicenPut_of_not_linkSends hidle, physOf_physMod, if_pos rfl]
    rfl
  case out =>
    rw [nicenPut_of_not_linkSends hidle]
    rfl
  case units =>
    intro hwhole
    rw [List.length_append, length_txnBytes]
    omega
  case header =>
    have hpacked : h = packFields (headerFields x) := leNat_take_txnBytes x
    have hfit : ∀ p ∈ headerFields x, p.2 < 2 ^ p.1 := by
      simp only [headerFields, List.forall_mem_cons]
      exact ⟨htype, hcls, x.poison.toNat_lt, hattr, hstatus, hseat, hfn, htag, hlen, hlast, x.posted.toNat_lt, Nat.two_pow_pos 1,
        hep, hoff, nofun⟩
    simp only [f, hpacked]
    refine ⟨packFields_field (i := 0) rfl ?_ hfit, packFields_field (i := 1) rfl ?_ hfit, packFields_field (i := 2) rfl ?_ hfit,
      packFields_field (i := 3) rfl ?_ hfit, packFields_field (i := 4) rfl ?_ hfit, packFields_field (i := 5) rfl ?_ hfit,
      packFields_field (i := 6) rfl ?_ hfit, packFields_field (i := 7) rfl ?_ hfit, packFields_field (i := 8) rfl ?_ hfit,
      packFields_field (i := 9) rfl ?_ hfit, packFields_field (i := 10) rfl ?_ hfit, packFields_field (i := 11) rfl ?_ hfit,
      packFields_field (i := 12) rfl ?_ hfit, packFields_field (i := 13) rfl ?_ hfit⟩
    all_goals simp only [headerFields, List.drop_succ_cons, List.drop_zero, List.drop_nil, packWidth, Nat.zero_add, Nat.add_zero, Nat.reduceAdd]
  case frame =>
    rw [take_frameBytes seq ack nak empty hdata, drop_frameBody]
    exact ⟨length_frameBytes seq ack nak empty hdata,
      (leNat_control_frameBytes seq ack nak empty hdata).trans (frameControl_eq nak empty hdata hseq hack),
      units_frameBytes seq ack nak empty hdata, fun _ => List.eq_of_mem_replicate, leNat_crc_frameBytes seq ack nak empty hdata⟩
  case control =>
    rw [take_controlBlock kind hfields, drop_controlBody]
    exact ⟨length_controlBlock kind hfields, fields_controlBlock kind hfields, fun _ => List.eq_of_mem_replicate,
      leNat_crc_controlBlock kind hfields⟩

end Sys2Proof.Machine
end

section
/-! The laws of the Croupier's instructions: what an engine does when it fetches an instruction (R461, R467), the integers that 12-bit
values stand for (R471), and what each arithmetic instruction, shift, comparison and branch leaves (R468 to R471). -/

namespace Sys2Proof.Machine

open Sys2Proof.Spec

/-! ## Instruction words (R467) -/

/-- A mask keeps a word when it keeps its bits below `k` and its bits from `k` up. -/
theorem land_eq_self_of_split (k : Nat) {w m : Nat} (hhi : w / 2 ^ k &&& m / 2 ^ k = w / 2 ^ k) (hlo : w % 2 ^ k &&& m % 2 ^ k = w % 2 ^ k) :
    w &&& m = w := by
  rw [← Nat.div_add_mod (w &&& m) (2 ^ k), Nat.and_div_two_pow, Nat.and_mod_two_pow, hhi, hlo, Nat.div_add_mod]

theorem encR_eq_crpWord (op rd ra rb : Nat) : encR op rd ra rb = crpWord op rd (ra * 0x400 + rb * 0x40) := Nat.add_assoc ..

theorem encI_eq_crpWord (op rd imm : Nat) : encI op rd imm = crpWord op rd imm := rfl

theorem crpWord_land_useAll {op r low : Nat} (hop : op < 64) (hr : r < 16) (hlow : low < 0x4000) :
    crpWord op r low &&& useAll = crpWord op r low := by
  unfold crpWord useAll
  rw [Nat.and_two_pow_sub_one_eq_mod _ 24, Nat.mod_eq_of_lt (by omega)]

/-- The word of an instruction without Rb has zeros in Rb's place. -/
theorem crpWord_land_useRdRa {op rd ra : Nat} (hop : op < 64) (hrd : rd < 16) (hra : ra < 16) :
    crpWord op rd (ra * 0x400) &&& useRdRa = crpWord op rd (ra * 0x400) := by
  have hlow : crpWord op rd (ra * 0x400) % 2 ^ 10 = 0 := by unfold crpWord; omega
  refine land_eq_self_of_split 10 ?_ (by rw [hlow, Nat.zero_and])
  exact (Nat.and_two_pow_sub_one_eq_mod _ 14).trans (Nat.mod_eq_of_lt (by unfold crpWord; omega))

/-- The word of an instruction without Rd has zeros in Rd's place. -/
theorem crpWord_land_useRaRb {op low : Nat} (hop : op < 64) (hlow : low < 0x4000) : crpWord op 0 low &&& useRaRb = crpWord op 0 low := by
  refine land_eq_self_of_split 18 ?_ ?_
  · exact (Nat.and_two_pow_sub_one_eq_mod _ 6).trans (Nat.mod_eq_of_lt (by unfold crpWord; omega))
  · exact (Nat.and_two_pow_sub_one_eq_mod _ 14).trans (Nat.mod_eq_of_lt (by unfold crpWord; omega))

/-! ## One instruction of an engine (R461, R468) -/

/-- Engine state `y` after an instruction of `cyc` cycles that started from `x`: the next word, and the cycles counted. -/
def retired (x y : Eng) (cyc : Nat) : Eng := { y with pc := x.pc + 1, cycles := x.cycles + cyc }

theorem crpFetches_of_fetches {s : State} {e : Fin 16} {cyc w mask : Nat} (h : Fetches s e cyc w) (hmask : w &&& mask = w) :
    crpFetches s e.val cyc mask w = true := by
  obtain ⟨hrun, hcycles, hword⟩ := h
  simp [crpFetches, hrun, hcycles, hword, hmask]

theorem finish_engMod (s : State) (e : Fin 16) (f : Eng → Eng) : finish (engMod s e.val f) = .next (withEng s e (f (engOf s e.val))) := rfl

/-- An instruction that the engine fetches ends in its effect `y`, and nothing but the engine changes. -/
theorem finish_crpStep_of_fetches {s : State} {e : Fin 16} {cyc w mask : Nat} {f : Eng → Eng} {y : Eng} (h : Fetches s e cyc w)
    (hmask : w &&& mask = w) (hy : retired (engOf s e.val) (f (engOf s e.val)) cyc = y) :
    finish (crpStep s e.val cyc mask w f) = .next (withEng s e y) := by
  rw [crpStep, if_pos (crpFetches_of_fetches h hmask), finish_engMod, ← hy, retired]

section
variable {s : State} {e rd ra rb : Fin 16} {cyc op : Nat} {f : Eng → Eng} {y : Eng}

theorem step_of_format_R (hop : op < 64) (h : Fetches s e cyc (crpWord op rd.val (ra.val * 0x400 + rb.val * 0x40)))
    (hy : retired (engOf s e.val) (f (engOf s e.val)) cyc = y) :
    finish (crpStep s e.val cyc useAll (encR op rd.val ra.val rb.val) f) = .next (withEng s e y) := by
  rw [encR_eq_crpWord]
  exact finish_crpStep_of_fetches h (crpWord_land_useAll hop rd.isLt (by omega)) hy

theorem step_of_format_R_without_Rb (hop : op < 64) (h : Fetches s e cyc (crpWord op rd.val (ra.val * 0x400)))
    (hy : retired (engOf s e.val) (f (engOf s e.val)) cyc = y) :
    finish (crpStep s e.val cyc useRdRa (encR op rd.val ra.val 0) f) = .next (withEng s e y) := by
  rw [encR_eq_crpWord, Nat.zero_mul, Nat.add_zero]
  exact finish_crpStep_of_fetches h (crpWord_land_useRdRa hop rd.isLt ra.isLt) hy

theorem step_of_format_R_without_Rd (hop : op < 64) (h : Fetches s e cyc (crpWord op 0 (ra.val * 0x400 + rb.val * 0x40)))
    (hy : retired (engOf s e.val) (f (engOf s e.val)) cyc = y) :
    finish (crpStep s e.val cyc useRaRb (encR op 0 ra.val rb.val) f) = .next (withEng s e y) := by
  rw [encR_eq_crpWord]
  exact finish_crpStep_of_fetches h (crpWord_land_useRaRb hop (by omega)) hy

theorem step_of_format_I {imm : BitVec 12} (hop : op < 64) (h : Fetches s e cyc (crpWord op rd.val imm.toNat))
    (hy : retired (engOf s e.val) (f (engOf s e.val)) cyc = y) :
    finish (crpStep s e.val cyc useAll (encI op rd.val imm.toNat) f) = .next (withEng s e y) :=
  finish_crpStep_of_fetches h (crpWord_land_useAll hop rd.isLt (by omega)) hy

end

/-! ## 12-bit values (R471) -/

theorem toInt_ofInt_12 {i : Int} (hlo : -2048 ≤ i) (hhi : i ≤ 2047) : (BitVec.ofInt 12 i).toInt = i :=
  BitVec.toInt_ofInt_eq_self (by decide) hlo (by omega)

theorem toInt_nearest (i : Int) : (nearest i).toInt = max (-2048) (min i 2047) := toInt_ofInt_12 (by omega) (by omega)

/-- The model's saturation is the nearest value, marked where the integer is out of range. -/
theorem sat12_eq (i : Int) : sat12 i = (nearest i, decide (i < -2048 ∨ 2047 < i)) := by
  unfold sat12 nearest
  split
  next hhigh => rw [show max (-2048) (min i 2047) = 2047 by omega, decide_eq_true (.inr hhigh)]; rfl
  next hhigh =>
    split
    next hlow => rw [show max (-2048) (min i 2047) = -2048 by omega, decide_eq_true (.inl hlow)]; rfl
    next hlow => rw [show max (-2048) (min i 2047) = i by omega, decide_eq_false (by omega)]

theorem setZN_eq (x : Eng) (v : BitVec 12) : setZN x v = { x with z := decide (v = 0), n := decide (v.toInt < 0) } := by
  rw [setZN, BitVec.msb_eq_toInt]; rfl

/-- Z and N of a value are those of the integer that it stands for. -/
theorem setZN_of_toInt (x : Eng) {v : BitVec 12} {i : Int} (h : v.toInt = i) : setZN x v = { x with z := decide (i = 0), n := decide (i < 0) } := by
  have hzero : decide (v = 0) = decide (i = 0) := decide_eq_decide.mpr (by rw [← h, ← BitVec.toInt_inj]; rfl)
  rw [setZN_eq, h, hzero]

/-! ## Effects of the instructions (R468, R470, R471) -/

theorem retired_writeG (x : Eng) (r cyc : Nat) (v : BitVec 12) : retired x (writeG x r v) cyc = wrote x r v cyc := by
  rw [writeG, setZN_eq]; rfl

theorem retired_writeSat (x : Eng) (r cyc : Nat) (i : Int) : retired x (writeSat x r i) cyc = wroteSat x r i cyc := by
  rw [writeSat, writeG, sat12_eq, setZN_eq]; rfl

/-- A saturated value has the sign of the integer and is zero where the integer is. -/
theorem retired_compare (x : Eng) (cyc : Nat) (i : Int) :
    retired x (compare x i) cyc = { passed x cyc with z := decide (i = 0), n := decide (i < 0) } := by
  rw [compare, sat12_eq, setZN_of_toInt x (toInt_nearest i), decide_eq_decide.mpr (show max (-2048) (min i 2047) = 0 ↔ i = 0 by omega),
    decide_eq_decide.mpr (show max (-2048) (min i 2047) < 0 ↔ i < 0 by omega)]
  rfl

theorem retired_addMod (x : Eng) (rd cyc : Nat) (a b : BitVec 12) :
    retired x (addMod x rd a b) cyc =
      { wrote x rd (BitVec.ofNat 12 ((a.toNat + b.toNat) % 4096)) cyc with c := decide (4095 < a.toNat + b.toNat) } := by
  have hsum : a + b = BitVec.ofNat 12 ((a.toNat + b.toNat) % 4096) := BitVec.eq_of_toNat_eq (by simp)
  rw [addMod, hsum, ← retired_writeG]
  rfl

theorem retired_subMod (x : Eng) (rd cyc : Nat) (a b : BitVec 12) :
    retired x (subMod x rd a b) cyc =
      { wrote x rd (BitVec.ofNat 12 ((4096 + a.toNat - b.toNat) % 4096)) cyc with c := decide (a.toNat < b.toNat) } := by
  have hdiff : a - b = BitVec.ofNat 12 ((4096 + a.toNat - b.toNat) % 4096) := by
    apply BitVec.eq_of_toNat_eq
    rw [BitVec.toNat_sub, BitVec.toNat_ofNat]
    omega
  rw [subMod, hdiff, ← retired_writeG]
  rfl

/-- Rd holds `hi` and Rd+1 holds `lo`, the rest as in `y`. -/
def withPair (x y : Eng) (rd : Nat) (hi lo : BitVec 12) : Eng := { y with g := tabPut 0 (tabPut 0 x.g rd hi) (rd + 1) lo }

/-- The product of two 12-bit values needs 24 bits at most. -/
theorem toInt_product (a b : BitVec 12) : (BitVec.ofInt 24 (a.toInt * b.toInt)).toInt = a.toInt * b.toInt := by
  have hlo : -2 ^ 22 ≤ a.toInt * b.toInt := BitVec.le_toInt_mul_toInt
  have hhi : a.toInt * b.toInt ≤ 2 ^ 22 := BitVec.toInt_mul_toInt_le
  exact BitVec.toInt_ofInt_eq_self (by decide) (by omega) (by omega)

theorem ofNat_low_half (i : Int) : BitVec.ofNat 12 (BitVec.ofInt 24 i).toNat = BitVec.ofInt 12 i := by
  apply BitVec.eq_of_toNat_eq
  rw [BitVec.toNat_ofNat, BitVec.toNat_ofInt, BitVec.toNat_ofInt]
  omega

theorem ofNat_high_half (i : Int) : BitVec.ofNat 12 ((BitVec.ofInt 24 i).toNat / 4096) = BitVec.ofInt 12 (i / 4096) := by
  apply BitVec.eq_of_toNat_eq
  rw [BitVec.toNat_ofNat, BitVec.toNat_ofInt, BitVec.toNat_ofInt]
  omega

theorem retired_mulPair (x : Eng) (rd cyc : Nat) (a b : BitVec 12) :
    retired x (mulPair x rd a b) cyc =
      { withPair x (passed x cyc) rd (BitVec.ofInt 12 (a.toInt * b.toInt / 4096)) (BitVec.ofInt 12 (a.toInt * b.toInt)) with
        z := decide (a.toInt * b.toInt = 0), n := decide (a.toInt * b.toInt < 0) } := by
  have hzero : (BitVec.ofInt 24 (a.toInt * b.toInt) == 0) = decide (a.toInt * b.toInt = 0) :=
    decide_eq_decide.mpr (by rw [← BitVec.toInt_inj, toInt_product]; rfl)
  rw [mulPair, BitVec.msb_eq_toInt, toInt_product, hzero, ofNat_high_half, ofNat_low_half]
  rfl

/-- A quotient is a 12-bit value, but for −2,048 ÷ −1. -/
theorem toInt_quotient {a b : BitVec 12} (h : ¬ (a.toInt = -2048 ∧ b.toInt = -1)) :
    (BitVec.ofInt 12 (a.toInt.tdiv b.toInt)).toInt = a.toInt.tdiv b.toInt := by
  have hne : a ≠ BitVec.intMin 12 ∨ b ≠ -1#12 := by
    by_cases ha : a = BitVec.intMin 12
    · exact .inr fun hb => h ⟨congrArg BitVec.toInt ha, congrArg BitVec.toInt hb⟩
    · exact .inl ha
  rw [← BitVec.toInt_sdiv_of_ne_or_ne a b hne, BitVec.ofInt_toInt]

section
variable (x : Eng) (rd cyc : Nat) {a b : BitVec 12}

theorem retired_divPair (hzero : b.toInt ≠ 0) (hover : ¬ (a.toInt = -2048 ∧ b.toInt = -1)) :
    retired x (divPair x rd a b) cyc =
      { withPair x (passed x cyc) rd (BitVec.ofInt 12 (a.toInt.tdiv b.toInt)) (BitVec.ofInt 12 (a.toInt.tmod b.toInt)) with
        z := decide (a.toInt.tdiv b.toInt = 0), n := decide (a.toInt.tdiv b.toInt < 0) } := by
  have hb : b ≠ 0 := fun h => hzero (congrArg BitVec.toInt h)
  have hab : ¬ (a = 2048#12 ∧ b = 4095#12) := fun ⟨ha, hb⟩ => hover ⟨congrArg BitVec.toInt ha, congrArg BitVec.toInt hb⟩
  rw [divPair, if_neg hb, if_neg hab, writeG, setZN_of_toInt _ (toInt_quotient hover)]
  rfl

theorem retired_divPair_overflow (ha : a.toInt = -2048) (hb : b.toInt = -1) :
    retired x (divPair x rd a b) cyc = { withPair x (passed x cyc) rd 2047 0 with z := false, n := false, v := true } := by
  obtain rfl : a = 2048#12 := BitVec.eq_of_toInt_eq ha
  obtain rfl : b = 4095#12 := BitVec.eq_of_toInt_eq hb
  rfl

theorem retired_divPair_by_zero (hb : b.toInt = 0) :
    retired x (divPair x rd a b) cyc =
      { withPair x (passed x cyc) rd (BitVec.ofInt 12 (if a.toInt < 0 then -2048 else 2047)) (BitVec.ofInt 12 a.toInt) with
        z := false, n := decide (a.toInt < 0), d := true } := by
  rw [divPair, if_pos (BitVec.eq_of_toInt_eq hb), BitVec.ofInt_toInt]
  by_cases hneg : a.toInt < 0
  · rw [if_pos hneg, BitVec.msb_eq_toInt, decide_eq_true hneg]; rfl
  · rw [if_neg hneg, BitVec.msb_eq_toInt, decide_eq_false hneg]; rfl

end

/-! ## Shifts (R471) -/

theorem shl12_eq (a : BitVec 12) (k : Nat) :
    shl12 a k = (BitVec.ofNat 12 (a.toNat * 2 ^ k), decide (1 ≤ k ∧ k ≤ 11) && a.toNat.testBit (12 - k)) := by
  have hvalue : BitVec.ofNat 12 (a.toNat * 2 ^ k) = a <<< k :=
    BitVec.eq_of_toNat_eq (by rw [BitVec.toNat_ofNat, BitVec.toNat_shiftLeft, Nat.shiftLeft_eq])
  rw [hvalue, BitVec.testBit_toNat]
  unfold shl12
  split
  next hk => simp [hk]
  next hk =>
    split
    next hin => rw [decide_eq_true (by omega), Bool.true_and]
    next hout => rw [BitVec.shiftLeft_eq_zero (by omega), decide_eq_false (by omega), Bool.false_and]; rfl

theorem shr12_eq (a : BitVec 12) (k : Nat) :
    shr12 a k = (BitVec.ofNat 12 (a.toNat / 2 ^ k), decide (1 ≤ k ∧ k ≤ 11) && a.toNat.testBit (k - 1)) := by
  have hvalue : BitVec.ofNat 12 (a.toNat / 2 ^ k) = a >>> k := by
    rw [← Nat.shiftRight_eq_div_pow, ← BitVec.toNat_ushiftRight, BitVec.ofNat_toNat, BitVec.setWidth_eq]
  rw [hvalue, BitVec.testBit_toNat]
  unfold shr12
  split
  next hk => simp [hk]
  next hk =>
    split
    next hin => rw [decide_eq_true (by omega), Bool.true_and]
    next hout => rw [BitVec.ushiftRight_eq_zero (by omega), decide_eq_false (by omega), Bool.false_and]; rfl

/-- An arithmetic shift by 12 or more leaves the sign bit in every place. -/
theorem sshiftRight_of_width_le (a : BitVec 12) {k : Nat} (hk : 12 ≤ k) : a.sshiftRight k = if a.msb then 4095#12 else 0#12 := by
  cases hmsb : a.msb
  · rw [BitVec.sshiftRight_eq_of_msb_false hmsb, BitVec.ushiftRight_eq_zero hk]; rfl
  · rw [BitVec.sshiftRight_eq_of_msb_true hmsb, BitVec.ushiftRight_eq_zero hk]; rfl

theorem sar12_eq (a : BitVec 12) (k : Nat) :
    sar12 a k = (BitVec.ofInt 12 (a.toInt / 2 ^ k),
      if k = 0 then false else if k ≤ 11 then a.toNat.testBit (k - 1) else decide (a.toInt < 0)) := by
  have hvalue : BitVec.ofInt 12 (a.toInt / 2 ^ k) = a.sshiftRight k := by
    rw [BitVec.sshiftRight, Int.shiftRight_eq_div_pow]; norm_cast
  rw [hvalue, BitVec.testBit_toNat, ← BitVec.msb_eq_toInt]
  unfold sar12
  split
  next hk => simp [hk]
  next hk =>
    split
    next hin => rw [if_pos (show k ≤ 11 by omega)]
    next hout => rw [if_neg (show ¬ k ≤ 11 by omega), sshiftRight_of_width_le a (by omega)]

theorem retired_shiftG (x : Eng) (rd cyc : Nat) {p : BitVec 12 × Bool} {v : BitVec 12} {c : Bool} (hp : p = (v, c)) :
    retired x (shiftG x rd p) cyc = { wrote x rd v cyc with c := c } := by
  rw [hp, shiftG, ← retired_writeG]; rfl

/-! ## Branches (R469) -/

section
variable {s : State} {e : Fin 16} {cond t : Nat}

theorem finish_branch_of_holds (hcond : cond < 16) (ht : t < 4096) (hholds : condHolds (engOf s e.val) cond = true)
    (h : Fetches s e 2 (crpWord 0x22 cond t)) :
    finish (branch s e.val cond t) = .next (withEng s e { engOf s e.val with pc := t, cycles := (engOf s e.val).cycles + 2 }) := by
  have hfetches := crpFetches_of_fetches h (crpWord_land_useAll (by decide) hcond (by omega))
  simp only [branch, hholds, encI_eq_crpWord, if_true, hfetches, finish_engMod]

theorem finish_branch_of_fails (hcond : cond < 16) (ht : t < 4096) (hfails : condHolds (engOf s e.val) cond = false)
    (h : Fetches s e 1 (crpWord 0x22 cond t)) :
    finish (branch s e.val cond t) = .next (withEng s e (passed (engOf s e.val) 1)) := by
  have hfetches := crpFetches_of_fetches h (crpWord_land_useAll (by decide) hcond (by omega))
  simp only [branch, hfails, encI_eq_crpWord, Bool.false_eq_true, if_false, hfetches, if_true, finish_engMod, passed]

end

/-! ## The instructions -/

/-- Settles O3: the formats of R467 are fetched, and each of the four instructions has the effect of its row. -/
theorem croupierCompareAndBranchComplete : Obligations.CroupierCompareAndBranchComplete := by
  unfold Obligations.CroupierCompareAndBranchComplete
  intro s e rd ra rb cond imm target x g cmp holds
  have hholds : condHolds x cond.val = holds := rfl
  refine ⟨fun h => ?nop, fun h => ?cmp, fun h => ?cmpi, fun _ htrue h => ?taken, fun _ hfalse h => ?passed⟩
  case nop => exact finish_crpStep_of_fetches (w := encR 0x00 0 0 0) (f := id) h (Nat.zero_and _) rfl
  case cmp => exact step_of_format_R_without_Rd (by decide) h (retired_compare ..)
  case cmpi => exact step_of_format_I (by decide) h (retired_compare ..)
  case taken => exact finish_branch_of_holds cond.isLt target.isLt (hholds.trans htrue) h
  case passed => exact finish_branch_of_fails cond.isLt target.isLt (hholds.trans hfalse) h

/-- Settles O1: an instruction is fetched by its format, and its effect on the engine is that of R471, saturating, modulo 4,096, in a
register pair, or shifted. -/
theorem croupierArithmeticFollowsItsTable : Obligations.CroupierArithmeticFollowsItsTable := by
  unfold Obligations.CroupierArithmeticFollowsItsTable
  refine ⟨?saturating, ?modular, ?pairs, ?shifts⟩
  case saturating =>
    intro s e rd ra rb imm x a b d two three
    have habs : (a.natAbs : Int) = if a < 0 then -a else a := by split <;> omega
    refine ⟨fun h => ?add, fun h => ?sub, fun h => ?addi, fun h => ?neg, fun h => ?abs, fun h => ?muls⟩
    case addi => exact step_of_format_I (by decide) h (retired_writeSat ..)
    case neg => exact step_of_format_R_without_Rb (by decide) h (retired_writeSat ..)
    case abs => exact step_of_format_R_without_Rb (by decide) h (habs ▸ retired_writeSat ..)
    all_goals exact step_of_format_R (by decide) h (retired_writeSat ..)
  case modular =>
    intro s e rd ra rb x a b three
    exact ⟨fun h => step_of_format_R (by decide) h (retired_addMod ..), fun h => step_of_format_R (by decide) h (retired_subMod ..)⟩
  case pairs =>
    intro s e rd ra rb _ x a b three two
    refine ⟨fun h => ?mul, fun h hzero hover => ?div, fun h ha hb => ?overflow, fun h hb => ?byZero⟩
    case mul => exact step_of_format_R (by decide) h (retired_mulPair ..)
    case div => exact step_of_format_R (by decide) h (retired_divPair _ _ _ hzero hover)
    case overflow => exact step_of_format_R (by decide) h (retired_divPair_overflow _ _ _ ha hb)
    case byZero => exact step_of_format_R (by decide) h (retired_divPair_by_zero _ _ _ hb)
  case shifts =>
    intro s e rd ra rb x a k three inside
    exact ⟨fun h => step_of_format_R (by decide) h (retired_shiftG _ _ _ (shl12_eq a k)),
      fun h => step_of_format_R (by decide) h (retired_shiftG _ _ _ (shr12_eq a k)),
      fun h => step_of_format_R (by decide) h (retired_shiftG _ _ _ (sar12_eq a k))⟩

end Sys2Proof.Machine
end

section
/-! The laws of a step: every command ends by `finish`, so the block never stops and its pin is driven last (R430, R436). -/

namespace Sys2Proof.Machine

/-! ## The step -/

theorem step_nil (s : State) (h : s.pending = []) : step s = .next s := by rw [step, h]

theorem step_cons (s : State) {c : Instr} {l : List Instr} (h : s.pending = c :: l) : step s = exec c s.rest := by rw [step, h]

/-- Every command ends in a next state, with FAULT_N driven as its safety state has it. -/
theorem exec_eq_finish (i : Instr) (s : State) : ∃ u, exec i s = finish u := by
  cases i <;> exact ⟨_, rfl⟩

theorem drivePins_pinTellsTruth (s : State) : PinTellsTruth (drivePins s) := drivePins_tells s

/-- Settles O57: a step runs a command, which ends by driving the pin, or idles, which leaves the pin as it is. -/
theorem everyStepAnswersAndFaultNTellsTheTruth : Obligations.EveryStepAnswersAndFaultNTellsTheTruth := by
  unfold Obligations.EveryStepAnswersAndFaultNTellsTheTruth
  intro s htruth
  match hqueue : s.pending with
  | [] => exact ⟨s, step_nil s hqueue, htruth⟩
  | c :: l =>
    obtain ⟨u, hends⟩ := exec_eq_finish c s.rest
    exact ⟨drivePins u, (step_cons s hqueue).trans hends, drivePins_pinTellsTruth u⟩

/-- Settles O56: a command runs on the state that holds the rest of the queue; an empty queue leaves the state as it is. -/
theorem stepRunsTheFrontCommand : Obligations.StepRunsTheFrontCommand := by
  unfold Obligations.StepRunsTheFrontCommand
  exact fun c l s => ⟨step_cons { s with pending := c :: l } rfl, step_nil { s with pending := [] } rfl⟩

end Sys2Proof.Machine
end

section
/-! The laws of the Talon's accounts: what a table of counts adds up to after a write, and that every movement of cards between the free
cards, an account and the cards in flight keeps the Talon's identity (R258, R259, R260). -/

namespace Sys2Proof.Machine

/-! ## Sums of tables -/

/-- What the counts of a table add up to. -/
def tabSum (t : Tab Nat) : Nat := (t.map (fun p => p.2)).sum

theorem tabSum_tabIns {t : Tab Nat} {lo : Nat} (h : tabRising lo t = true) (k v : Nat) :
    tabSum (tabIns t k v) + tabGet 0 t k = tabSum t + v := by
  induction t generalizing lo with
  | nil => simp [tabIns, tabSum, tabGet]
  | cons p r ih =>
    obtain ⟨i, w⟩ := p
    simp only [tabRising, Bool.and_eq_true] at h
    have hr := ih h.2
    simp only [tabSum] at hr
    unfold tabIns
    split
    · simp only [tabSum, tabGet, List.map_cons, List.sum_cons, if_pos ‹i = k›]; omega
    · split
      · simp only [tabSum, tabGet, List.map_cons, List.sum_cons, if_neg ‹¬ i = k›, tabGet_of_lt 0 h.2 (show k < i + 1 by omega)]; omega
      · simp only [tabSum, tabGet, List.map_cons, List.sum_cons, if_neg ‹¬ i = k›]; omega

theorem tabSum_tabDel {t : Tab Nat} {lo : Nat} (h : tabRising lo t = true) (k : Nat) : tabSum (tabDel t k) + tabGet 0 t k = tabSum t := by
  induction t generalizing lo with
  | nil => rfl
  | cons p r ih =>
    obtain ⟨i, w⟩ := p
    simp only [tabRising, Bool.and_eq_true] at h
    have hr := ih h.2
    simp only [tabSum] at hr
    unfold tabDel
    split
    · simp only [tabSum, tabGet, List.map_cons, List.sum_cons, if_pos ‹i = k›, tabDel_of_lt h.2 (show k < i + 1 by omega)]; omega
    · simp only [tabSum, tabGet, List.map_cons, List.sum_cons, if_neg ‹¬ i = k›]; omega

theorem tabSum_tabPut {t : Tab Nat} (h : tabWf (fun _ => 0) t = true) (k v : Nat) : tabSum (tabPut 0 t k v) + tabGet 0 t k = tabSum t + v := by
  simp only [tabWf, Bool.and_eq_true] at h
  unfold tabPut
  split
  · rw [tabSum_tabDel h.1, ‹v = 0›, Nat.add_zero]
  · exact tabSum_tabIns h.1 k v

/-! ## The identity -/

/-- The Talon's cards add up to 262,144, and the accounts are in canonical form (R260). -/
structure Talon.Balanced (t : Talon) : Prop where
  total : t.free + (tabSum t.held + tabSum t.landing) + t.flight = talonCards
  held_wf : tabWf (fun _ => 0) t.held = true
  landing_wf : tabWf (fun _ => 0) t.landing = true

theorem Talon.balanced_iff (s : State) : s.talon.Balanced ↔
    BooksBalance s ∧ tabWf (fun _ => 0) s.talon.held = true ∧ tabWf (fun _ => 0) s.talon.landing = true :=
  ⟨fun h => ⟨h.total, h.held_wf, h.landing_wf⟩, fun ⟨h, hh, hl⟩ => ⟨h, hh, hl⟩⟩

section
variable {t t' : Talon} (hbal : t.Balanced)
include hbal

/-- Cards move between the free cards, the cards in flight and one function's account. -/
theorem Talon.Balanced.of_held {f h : Nat} (hheld : t'.held = tabPut 0 t.held f h) (hlanding : t'.landing = t.landing)
    (hcards : t'.free + h + t'.flight = t.free + tabGet 0 t.held f + t.flight) : t'.Balanced where
  total := by have := tabSum_tabPut hbal.held_wf f h; have := hbal.total; rw [hheld, hlanding]; omega
  held_wf := hheld ▸ tabWf_tabPut hbal.held_wf
  landing_wf := hlanding ▸ hbal.landing_wf

/-- Cards move between the free cards, the cards in flight and one port's landing reserve. -/
theorem Talon.Balanced.of_landing {p l : Nat} (hlanding : t'.landing = tabPut 0 t.landing p l) (hheld : t'.held = t.held)
    (hcards : t'.free + l + t'.flight = t.free + tabGet 0 t.landing p + t.flight) : t'.Balanced where
  total := by have := tabSum_tabPut hbal.landing_wf p l; have := hbal.total; rw [hheld, hlanding]; omega
  held_wf := hheld ▸ hbal.held_wf
  landing_wf := hlanding ▸ tabWf_tabPut hbal.landing_wf

/-- What the accounts hold stays; the free cards and those in flight keep their sum. -/
theorem Talon.Balanced.of_accounts_same (hheld : t'.held = t.held) (hlanding : t'.landing = t.landing)
    (hcards : t'.free + t'.flight = t.free + t.flight) : t'.Balanced where
  total := by have := hbal.total; rw [hheld, hlanding]; omega
  held_wf := hheld ▸ hbal.held_wf
  landing_wf := hlanding ▸ hbal.landing_wf

end

/-! ## The movements -/

section
variable {s : State} (hbal : s.talon.Balanced)
include hbal

theorem chargeFn_balanced (f n : Nat) : (chargeFn s f n).talon.Balanced :=
  hbal.of_held (f := f) (h := tabGet 0 s.talon.held f + min n s.talon.free) rfl rfl
    (show s.talon.free - min n s.talon.free + _ + s.talon.flight = _ by omega)

theorem chargeLanding_balanced (p n : Nat) : (chargeLanding s p n).talon.Balanced :=
  hbal.of_landing (p := p) (l := tabGet 0 s.talon.landing p + min n s.talon.free) rfl rfl
    (show s.talon.free - min n s.talon.free + _ + s.talon.flight = _ by omega)

theorem toFlight_fn_balanced (f n k : Nat) : (toFlight s (.fn f) n k).talon.Balanced :=
  hbal.of_held (f := f) (h := tabGet 0 s.talon.held f - min n (tabGet 0 s.talon.held f)) rfl rfl
    (show s.talon.free + _ + (s.talon.flight + min n (tabGet 0 s.talon.held f)) = _ by omega)

theorem toFlight_landing_balanced (p n k : Nat) : (toFlight s (.landing p) n k).talon.Balanced :=
  hbal.of_landing (p := p) (l := tabGet 0 s.talon.landing p - min n (tabGet 0 s.talon.landing p)) rfl rfl
    (show s.talon.free + _ + (s.talon.flight + min n (tabGet 0 s.talon.landing p)) = _ by omega)

/-- A re-charge is a movement out of the reserve into the flight, and one out of the flight into the account. -/
theorem recharge_balanced (p f n : Nat) : (recharge s p f n).talon.Balanced := by
  have hflight := toFlight_landing_balanced hbal p n 0
  exact hflight.of_held (f := f) (h := tabGet 0 s.talon.held f + min n (tabGet 0 s.talon.landing p)) rfl rfl
    (show s.talon.free + _ + s.talon.flight = s.talon.free + _ + (s.talon.flight + min n (tabGet 0 s.talon.landing p)) by
      rw [show tabGet 0 (toFlight s (.landing p) n 0).talon.held f = tabGet 0 s.talon.held f from rfl]; omega)

theorem releaseCards_balanced (f n k : Nat) : (releaseCards s f n k).talon.Balanced :=
  (toFlight_fn_balanced hbal f n k).of_accounts_same rfl rfl rfl

theorem reserveCards_balanced (f n : Nat) : (reserveCards s f n).talon.Balanced :=
  (chargeFn_balanced hbal f n).of_accounts_same rfl rfl rfl

end

/-- Closing the book frees the cards in flight; what else it does is no movement of cards. -/
theorem closeBooks_talon (s : State) : (closeBooks s).talon =
    { s.talon with free := s.talon.free + s.talon.flight, flight := 0, phantom := s.talon.phantom || s.talon.bookArm, bookArm := false } := by
  unfold closeBooks
  dsimp only
  split <;> rfl

theorem closeBooks_balanced {s : State} (hbal : s.talon.Balanced) : (closeBooks s).talon.Balanced := by
  rw [closeBooks_talon]
  exact hbal.of_accounts_same rfl rfl (Nat.add_zero _)

/-- Settles O60: each movement adds to one account what it takes from another. -/
theorem cardMovementsKeepTheBooks : Obligations.CardMovementsKeepTheBooks := by
  unfold Obligations.CardMovementsKeepTheBooks
  intro s f p n k hbooks hheld hlanding kept
  have hbal : s.talon.Balanced := (Talon.balanced_iff s).2 ⟨hbooks, hheld, hlanding⟩
  have hkept (t : State) (h : t.talon.Balanced) : kept t := (Talon.balanced_iff t).1 h
  refine ⟨hkept _ ?_, hkept _ ?_, hkept _ ?_, hkept _ ?_, hkept _ ?_, hkept _ ?_, hkept _ ?_, hkept _ ?_, ?_, ?_⟩
  · exact chargeFn_balanced hbal f n
  · exact chargeLanding_balanced hbal p n
  · exact toFlight_fn_balanced hbal f n k
  · exact toFlight_landing_balanced hbal p n k
  · exact recharge_balanced hbal p f n
  · exact releaseCards_balanced hbal f n k
  · exact reserveCards_balanced hbal f n
  · exact closeBooks_balanced hbal
  · rw [closeBooks_talon]
  · rw [closeBooks_talon]

end Sys2Proof.Machine
end

section
/-! The laws of the state after reset (R10, R587). -/

namespace Sys2Proof.Machine

/-- After reset a register holds its reset value, but the grade of the part (R46). -/
theorem regAt_reset {o : Nat} (h : o ≠ 0x104) : regAt State.reset o = regReset o := by
  simp [regAt, State.reset, tabGet, h.symm]

theorem safe_reset : Sys2Proof.Safe State.reset := by
  refine ⟨?_, ?_, ?_, ?_⟩
  · unfold BooksBalance; decide
  · unfold PinTellsTruth; decide
  · rfl
  · rfl

/-- After reset every entry of both tables is 0 (R230). -/
theorem entAt_reset (k : Nat) : entAt State.reset k = 0 := by
  unfold entAt; split <;> rfl

/-- Settles O58: the state after reset is a literal whose registers all stand at their reset values. -/
theorem resetStateIsTheManuals : Obligations.ResetStateIsTheManuals := by
  unfold Obligations.ResetStateIsTheManuals
  refine ⟨safe_reset, rfl, ?phase, rfl, rfl, rfl, rfl, ?ports, entAt_reset, fun _ => regAt_reset, rfl⟩
  case phase => decide
  case ports => decide

end Sys2Proof.Machine
end

section
/-! The laws of the deck commands: how a command written to DECK_CMD is judged (R636), what each accepted one does, and how CHECK,
COMMIT_CRC and SAVE go on (R88 to R106). -/

namespace Sys2Proof.Machine

open Sys2Proof.Spec

/-! ## The judgement of a command (R636) -/

section
variable {s : State} {d : Nat} {r : Req} {op tok : Nat}

/-- Only an accepted SAVE starts more than its judgement. -/
theorem deckWrite_of_ne_save (hop : op ≠ 7) : deckWrite s d r op tok = deckCmd s d r op tok := by
  simp [deckWrite, hop]

theorem deckCmd_of_busy (hbusy : deckBusy s d = true) : deckCmd s d r op tok = deckRefuse s d op 0x103 := by
  simp [deckCmd, hbusy]

theorem deckCmd_of_not_deckMay (hbusy : deckBusy s d = false) (hop : 1 ≤ op ∧ op ≤ 6) (hmay : deckMay s d r = false) :
    deckCmd s d r op tok = deckRefuse s d op 0x104 := by
  have hknown : ¬ (op = 0 ∨ 7 < op ∨ op = 7 ∧ d ≠ 0) := by omega
  simp only [deckCmd, hbusy, hmay, Bool.false_eq_true, if_false, if_neg hknown, Bool.not_false, Bool.true_or, if_true]

theorem deckCmd_open_of_deckMay (hbusy : deckBusy s d = false) (hmay : deckMay s d r = true) :
    deckCmd s d r 1 tok = if deckState s d = 0 then deckAct s d r 1 else deckRefuse s d 1 0x101 := by
  by_cases hst : deckState s d = 0 <;> simp [deckCmd, hbusy, hmay, hst, deckCond]

theorem deckCmd_of_no_session (hbusy : deckBusy s d = false) (hmay : deckMay s d r = true) (hop : 2 ≤ op ∧ op ≤ 5) (hst : deckState s d = 0) :
    deckCmd s d r op tok = deckRefuse s d op 0x103 := by
  have hknown : ¬ (op = 0 ∨ 7 < op ∨ op = 7 ∧ d ≠ 0) := by omega
  have hforce : (op == 6) = false := beq_false_of_ne (by omega)
  have hopen : ¬ (op = 1 ∧ deckState s d ≠ 0) := by omega
  have hsession : op ≠ 1 ∧ op ≠ 7 ∧ deckState s d = 0 := by omega
  simp only [deckCmd, hbusy, hmay, hforce, Bool.false_eq_true, if_false, if_neg hknown, Bool.not_true, Bool.false_and, Bool.or_self, if_neg hopen,
    if_pos hsession]

/-- The owner's commands CHECK, COMMIT_CRC, CUT_AT and ABANDON, in a session: first the token and the owner count, then the state. -/
theorem deckCmd_of_session (hbusy : deckBusy s d = false) (hmay : deckMay s d r = true) (hop : 2 ≤ op ∧ op ≤ 5) (hst : deckState s d ≠ 0) :
    deckCmd s d r op tok = if tok ≠ deckToken s d ∨ deckOwns s d r = false then deckRefuse s d op 0x102
      else if deckCond s d op = true then deckAct s d r op else deckRefuse s d op 0x103 := by
  have hknown : ¬ (op = 0 ∨ 7 < op ∨ op = 7 ∧ d ≠ 0) := by omega
  have hforce : (op == 6) = false := beq_false_of_ne (by omega)
  have hopen : ¬ (op = 1 ∧ deckState s d ≠ 0) := by omega
  have hsession : ¬ (op ≠ 1 ∧ op ≠ 7 ∧ deckState s d = 0) := by omega
  simp only [deckCmd, hbusy, hmay, hforce, Bool.false_eq_true, if_false, if_neg hknown, Bool.not_true, Bool.false_and, Bool.or_self, if_neg hopen,
    if_neg hsession, decide_eq_true hop, Bool.true_or, Bool.true_and]
  by_cases htok : tok ≠ deckToken s d ∨ deckOwns s d r = false
  · rw [if_pos htok, if_pos (by simpa using htok)]
  · rw [if_neg htok, if_neg (by simpa using htok)]
    cases deckCond s d op <;> rfl

end

section
variable {s : State} {d : Fin 7} {r : Req} {tok : BitVec 12} {op : Nat}

/-- A command of the owner whose state allows it acts. -/
theorem deckWrite_of_owner (howner : Owner s d r tok) (hop : 2 ≤ op ∧ op ≤ 5) (hst : deckState s d.val ≠ 0) (hcond : deckCond s d.val op = true) :
    deckWrite s d.val r op tok.toNat = deckAct s d.val r op := by
  obtain ⟨hmay, howns, htok, hbusy⟩ := howner
  rw [deckWrite_of_ne_save (by omega), deckCmd_of_session hbusy hmay hop hst, if_neg (by simp [htok, howns]), if_pos hcond]

end

/-! ## Refusals -/

/-- Settles O14: the branches of the judgement in R636's order, each of which only reports. -/
theorem deckRefusalsChangeOnlyTheReport : Obligations.DeckRefusalsChangeOnlyTheReport := by
  unfold Obligations.DeckRefusalsChangeOnlyTheReport
  intro s r d tok refused
  have hends {c : Instr} {op code t : Nat} (hexec : exec c s = finish (deckWrite s d.val r op t)) (hop : op ≠ 7)
      (h : deckCmd s d.val r op t = deckRefuse s d.val op code) : exec c s = .next (drivePins (refused op code)) := by
    rw [hexec, deckWrite_of_ne_save hop, h]; rfl
  refine ⟨fun hbusy => ?busy, fun hbusy hmay => ?notPermitted, fun hbusy hmay hst => ?opened, fun hbusy hmay hst => ?noSession,
    fun hbusy hmay hst htok => ?badToken⟩
  case busy =>
    exact ⟨hends rfl (by decide) (deckCmd_of_busy hbusy), hends rfl (by decide) (deckCmd_of_busy hbusy), hends rfl (by decide) (deckCmd_of_busy hbusy)⟩
  case notPermitted =>
    exact ⟨hends rfl (by decide) (deckCmd_of_not_deckMay hbusy (by decide) hmay), hends rfl (by decide) (deckCmd_of_not_deckMay hbusy (by decide) hmay)⟩
  case opened => exact hends rfl (by decide) ((deckCmd_open_of_deckMay hbusy hmay).trans (if_neg hst))
  case noSession =>
    exact ⟨hends rfl (by decide) (deckCmd_of_no_session hbusy hmay (by decide) hst), hends rfl (by decide) (deckCmd_of_no_session hbusy hmay (by decide) hst)⟩
  case badToken =>
    exact ⟨hends rfl (by decide) ((deckCmd_of_session hbusy hmay (by decide) hst).trans (if_pos htok)),
      hends rfl (by decide) ((deckCmd_of_session hbusy hmay (by decide) hst).trans (if_pos htok))⟩

/-! ## Sessions -/

theorem nextToken_eq (t : Nat) : nextToken t = if t % 4096 = 4095 then 1 else t % 4096 + 1 := by
  simp only [nextToken, show (t % 4096 + 1 = 4096) = (t % 4096 = 4095) from propext (by omega)]

/-- MGMT and House firmware may own every deck (R85). -/
theorem deckMay_of_mgmt_or_house {s : State} {d : Nat} {r : Req} (h : r.code.val = 6 ∨ r.code.val = 7) : deckMay s d r = true := by
  rcases h with h | h <;> simp [deckMay, trusted, h]

theorem deckCmd_forceAbandon {s : State} {d : Nat} {r : Req} {tok : Nat} (hr : r.code.val = 6 ∨ r.code.val = 7) (hbusy : deckBusy s d = false)
    (hst : deckState s d ≠ 0) (hdisarm : pastDisarm s d = false) : deckCmd s d r 6 tok = deckAct s d r 6 := by
  have hforce : ¬ (r.code.val ≠ 6 ∧ r.code.val ≠ 7) := by omega
  simp [deckCmd, hbusy, deckMay_of_mgmt_or_house hr, hforce, hst, deckCond, hdisarm]

/-- A deck that is not ARMED has no disarm deadline. -/
theorem pastDisarm_of_ne_armed {s : State} {d : Nat} (h : deckState s d ≠ 4) : pastDisarm s d = false := by
  simp [pastDisarm, h]

theorem deckIdle_of_session {s : State} {d : Nat} (h : 1 ≤ deckState s d ∧ deckState s d ≤ 3) :
    deckIdle s d = deckReport (deckClear s d) d 0 2 1 91 0x105 (deckReg d 0x1A0) := by
  have hdisarm : pastDisarm s d = false := pastDisarm_of_ne_armed (by omega)
  simp only [deckIdle, if_pos h, deckAbandon, hdisarm]
  rw [if_neg (by omega), if_neg (by decide)]

/-- The owner of an open session stages bits of a register of the deck's scope (R75, R86, R89). -/
theorem stage_of_owner {s : State} {d : Nat} {r : Req} {off : Nat} (m v : Word) (hscope : scopeOf s off = d) (howns : deckOwns s d r = true)
    (hst : 1 ≤ deckState s d ∧ deckState s d ≤ 3) :
    stage s r off m v = some (setDeckState (deckMod { s with parShadow := s.parShadow.filter (· != off) } d (fun x =>
      { x with shadow := tabIns x.shadow off (maskWrite (prospective s d off) m v), touched := deckBusy s d })) d 1) := by
  subst hscope
  have hopen : deckState s (scopeOf s off) = 1 ∨ deckState s (scopeOf s off) = 2 ∨ deckState s (scopeOf s off) = 3 := by omega
  exact if_pos ⟨hopen, howns⟩

/-- A write of DECK_IND_DATA by the owner of an open session stages its word (R94, R95). -/
theorem deckInd_of_owner {s : State} {d : Nat} {r : Req} {v : Word} {off : Nat} (hoff : fldAt s (deckReg d 0x1C0) 26 2 * 4 = off)
    (howns : deckOwns s d r = true) (hst : 1 ≤ deckState s d ∧ deckState s d ≤ 3) (hmask : stgMask off ≠ 0) (hscope : scopeOf s off = d) :
    deckInd s d r 0xFFFFFFFF#32 v = setDeckState (deckMod { s with parShadow := s.parShadow.filter (· != off) } d (fun x =>
      { x with shadow := tabIns x.shadow off (maskWrite (prospective s d off) (stgMask off) v), touched := deckBusy s d })) d 1 := by
  have hstages : (deckOwns s d r && decide (stgMask off ≠ 0) && (scopeOf s off == d)) = true := by
    rw [howns, decide_eq_true hmask, hscope, beq_self_eq_true]; rfl
  have hwrite : indWrite s d r 0xFFFFFFFF#32 v = stage s r off (0xFFFFFFFF#32 &&& stgMask off) v := by
    unfold indWrite
    rw [hoff]
    exact if_pos hstages
  rw [deckInd, hwrite, show 0xFFFFFFFF#32 &&& stgMask off = stgMask off from BitVec.allOnes_and, stage_of_owner _ _ hscope howns hst]

/-- Settles O12: the commands of a session pass the judgement, and each acts as its rule says. -/
theorem deckSessionCommandsComplete : Obligations.DeckSessionCommandsComplete := by
  unfold Obligations.DeckSessionCommandsComplete
  intro s r d tok v stat abandoned
  refine ⟨fun hmay hst hbusy => ?opens, fun howner hst => ?cuts, fun howner hst hdisarm => ?abandons, fun hr hbusy hst hdisarm => ?forces,
    fun hst => ?idles, fun off hoff howns hst hmask hscope => ?stages⟩
  case opens =>
    show finish (deckWrite s d.val r 1 0) = _
    rw [deckWrite_of_ne_save (by decide), deckCmd_open_of_deckMay hbusy hmay, if_pos hst]
    simp only [deckAct, nextToken_eq]
    rfl
  case cuts =>
    show finish (deckWrite s d.val r 4 tok.toNat) = _
    rw [deckWrite_of_owner howner (by decide) (by omega) (by simp [deckCond, hst])]
    unfold deckAct
    cases cutTarget s d.val <;> rfl
  case abandons =>
    show finish (deckWrite s d.val r 5 tok.toNat) = _
    rw [deckWrite_of_owner howner (by decide) hst (by simp [deckCond, hdisarm])]
    rfl
  case forces =>
    show finish (deckWrite s d.val r 6 tok.toNat) = _
    rw [deckWrite_of_ne_save (by decide), deckCmd_forceAbandon hr hbusy hst hdisarm]
    rfl
  case idles => exact congrArg finish (deckIdle_of_session hst)
  case stages => exact congrArg finish (deckInd_of_owner ((Nat.mul_comm ..).trans hoff.symm) howns hst hmask hscope)

/-! ## CHECK, COMMIT_CRC and SAVE -/

theorem withHouse_of_ready {s : State} (h : houseState s = 2) (d op : Nat) (f : State → State) : withHouse s d op f = f s := by
  simp [withHouse, h]

/-- A command in progress shows BUSY. -/
theorem deckBusy_deckSetBusy (s : State) (d op : Nat) : deckBusy (deckSetBusy s d op) d = true := by
  have hstat : deckReg d 0x1A4 ≠ deckReg d 0x1A0 := by unfold deckReg; omega
  simp only [deckBusy, deckSetBusy, flagAt, regAt_fldPut, if_neg hstat, if_true]
  exact bitOf_setBits _ _ _ _ _ (Nat.le_refl 0)

theorem deckCmd_save {s : State} {r : Req} {tok : Nat} (hmay : deckMay s 0 r = true) (hbusy : deckBusy s 0 = false) (hst : deckState s 0 = 0)
    (harmed : ∀ e < 7, deckState s e ≠ 4) (hhouse : houseRuns s = true) : deckCmd s 0 r 7 tok = deckSetBusy s 0 7 := by
  have hnone : (List.range 7).any (fun e => deckState s e == 4) = false := by simpa using harmed
  simp [deckCmd, hbusy, hmay, hst, deckCond, hnone, hhouse, deckAct]

/-- An accepted SAVE starts to write (R106). -/
theorem deckWrite_save {s : State} {r : Req} {tok : Nat} (hmay : deckMay s 0 r = true) (hbusy : deckBusy s 0 = false) (hst : deckState s 0 = 0)
    (harmed : ∀ e < 7, deckState s e ≠ 4) (hhouse : houseRuns s = true) : deckWrite s 0 r 7 tok = saveStart (deckSetBusy s 0 7) := by
  simp [deckWrite, deckCmd_save hmay hbusy hst harmed hhouse, hbusy, deckBusy_deckSetBusy]

theorem saveStart_of_ready {s : State} (hshed : s.boot.shed = false) (hready : s.store.ready = true) :
    saveStart s = (let c := (saveTarget s).1
      let seq := ((saveTarget s).2 + 1) % 2 ^ 32
      saveNext (storeMod s (fun x => { x with
        save := some (c, cutBatches (copyAddr c) 17 (copyImage s seq false) ++ [(copyAddr c, (copyImage s seq true).take 64)]) }))) := by
  simp [saveStart, hshed, hready]

/-- Settles O13: the owner's commands pass the judgement and set BUSY, SAVE asks for its first batch, and the other two end as their rules
say. -/
theorem deckChecksComplete : Obligations.DeckChecksComplete := by
  unfold Obligations.DeckChecksComplete
  intro s r d tok stat op gen busy free set x back
  refine ⟨fun howner hst hhouse => ?check, fun howner hst hhouse => ?commit, fun n rule code at_ hbusy hop hhouse hverdict => ?checked,
    fun hbusy hop hhouse => ?committed, fun hmay hbusy hst harmed hhouse hshed hready => ?save⟩
  case check =>
    show finish (deckWrite s d.val r 2 tok.toNat) = _
    rw [deckWrite_of_owner howner (by decide) (by omega) (by simp [deckCond, hst, hhouse])]
    rfl
  case commit =>
    show finish (deckWrite s d.val r 3 tok.toNat) = _
    rw [deckWrite_of_owner howner (by decide) (by omega) (by simp [deckCond, hst, hhouse])]
    rfl
  case checked =>
    show finish (checkDone s d.val) = _
    have hcheck : (deckBusy s d.val && fldAt s (deckReg d.val 0x1A0) 3 0 == 2) = true := by simp [hbusy, show fldAt s (deckReg d.val 0x1A0) 3 0 = 2 from hop]
    have hverdict : (deckOf s d.val).verdict = some (n, rule, code, at_) := hverdict
    simp only [checkDone, hcheck, hverdict, withHouse_of_ready hhouse]
    rfl
  case committed =>
    show finish (commitDone s d.val) = _
    have hcommit : (deckBusy s d.val && fldAt s (deckReg d.val 0x1A0) 3 0 == 3) = true := by simp [hbusy, show fldAt s (deckReg d.val 0x1A0) 3 0 = 3 from hop]
    simp only [commitDone, hcommit, withHouse_of_ready hhouse]
    rfl
  case save =>
    show finish (deckWrite s 0 r 7 tok.toNat) = _
    rw [deckWrite_save hmay hbusy hst harmed hhouse, saveStart_of_ready (s := deckSetBusy s 0 7) hshed hready]
    rfl

end Sys2Proof.Machine
end

section
/-! The laws of the Croupier's remaining instructions and of a pass: moves and logic, data memory, timers and inputs (R463 to R470), ACT,
HALT and the overrun (R461, R462, R472), LOAD and the engine watchdog (R427, R479). -/

namespace Sys2Proof.Machine

open Sys2Proof.Spec

/-! ## Moves, logic, memory, timers and inputs -/

section
variable {s : State} {e rd ra : Fin 16} {op low : Nat}

/-- An instruction of format M whose operand uses its whole field. -/
theorem step_of_format_M {cyc : Nat} {f : Eng → Eng} {y : Eng} (hop : op < 64) (hlow : low < 0x4000)
    (h : Fetches s e cyc (crpWord op rd.val low)) (hy : retired (engOf s e.val) (f (engOf s e.val)) cyc = y) :
    finish (crpStep s e.val cyc useAll (encM op rd.val low) f) = .next (withEng s e y) :=
  finish_crpStep_of_fetches h (crpWord_land_useAll hop rd.isLt hlow) hy

/-- The word of an instruction that uses Rd alone has zeros below it. -/
theorem crpWord_land_useRd (hop : op < 64) (rd : Fin 16) : crpWord op rd.val 0 &&& useRd = crpWord op rd.val 0 := by
  have h := rd.isLt
  unfold crpWord useRd
  refine land_eq_self_of_split 14 ?_ ?_
  · rw [show (op * 0x40000 + rd.val * 0x4000 + 0) / 2 ^ 14 = op * 16 + rd.val by omega, show 0xFFFC00 / 2 ^ 14 = 2 ^ 10 - 1 by decide,
      Nat.and_two_pow_sub_one_eq_mod, Nat.mod_eq_of_lt (by omega)]
  · rw [show (op * 0x40000 + rd.val * 0x4000 + 0) % 2 ^ 14 = 0 by omega, Nat.zero_and]

end

/-- Settles O2: each instruction is fetched by its format, and writes a register, the data memory or a timer. -/
theorem croupierMovesAndLogicComplete : Obligations.CroupierMovesAndLogicComplete := by
  unfold Obligations.CroupierMovesAndLogicComplete
  refine ⟨?logic, ?moves⟩
  case logic =>
    intro s e rd ra rb imm x a b two three
    refine ⟨fun h => ?mov, fun h => ?movi, fun h => ?and, fun h => ?or, fun h => ?xor, fun h => ?not⟩
    case mov => exact step_of_format_R_without_Rb (by decide) h (retired_writeG ..)
    case movi => exact step_of_format_I (by decide) h (retired_writeG ..)
    case not => exact step_of_format_R_without_Rb (by decide) h (retired_writeG ..)
    all_goals exact step_of_format_R (by decide) h (retired_writeG ..)
  case moves =>
    intro s e rd ra a t d i x u v port
    have hedge : (if x.edges.contains d.val = true then (1 : BitVec 12) else 0) = if d.val ∈ x.edges then 1 else 0 := by
      simp only [List.contains_iff_mem]
    refine ⟨fun h => ?ld, fun h => ?st, fun h => ?ldx, fun h => ?stx, fun h => ?inp, fun h => ?inx, fun h => ?hand, fun h => ?trd, fun h => ?tset,
      fun h => ?edge⟩
    case ld => exact step_of_format_M (by decide) (by omega) h (retired_writeG ..)
    case st => exact step_of_format_M (by decide) (by omega) h rfl
    case ldx => exact step_of_format_R_without_Rb (by decide) h (retired_writeG ..)
    case stx => exact step_of_format_R_without_Rb (by decide) h rfl
    case inp => exact step_of_format_M (by decide) (by omega) h (retired_writeG ..)
    case inx => exact step_of_format_R_without_Rb (by decide) h (retired_writeG ..)
    case hand => exact finish_crpStep_of_fetches h (crpWord_land_useRd (by decide) rd) (retired_writeG ..)
    case trd => exact step_of_format_M (by decide) (by omega) h (retired_writeG ..)
    case tset => exact step_of_format_M (by decide) (by omega) h rfl
    case edge => exact step_of_format_M (by decide) (by omega) h ((retired_writeG ..).trans (by rw [hedge]))

/-! ## The end of a pass -/

theorem sat16_eq (n : Nat) : sat16 n = min 65535 (n + 1) := by unfold sat16 satNat; split <;> omega

theorem engOf_engMod (s : State) (e : Nat) (f : Eng → Eng) : engOf (engMod s e f) e = f (engOf s e) :=
  (tabGet_tabMod ..).trans (if_pos rfl)

/-- An error whose severity bit is 0 only sets its bit (R57). -/
theorem raiseErr_of_not_severe {s : State} {pg i : Nat} (h : flagAt s (pg + 0x024) i = false) : raiseErr s pg i = setErrBit s pg i := by
  have hsev : flagAt (setErrBit s pg i) (pg + 0x024) i = false := by
    rw [flagAt, regAt_setErrBit, if_neg (by omega)]; exact h
  simp [raiseErr, raiseErrBy, hsev]

/-- ENG_STAT of an engine whose pass has ended: V, D and the cycles of the pass (R482). -/
def passShown (s : State) (e : Nat) (x : Eng) (cyc : Nat) : State :=
  regPut s (engStat e) (setBits (setBit (setBit (regAt s (engStat e)) 26 x.v) 25 x.d) 12 0 cyc)

theorem haltPass_of_fetches {s : State} {e : Fin 16} (h : Fetches s e 1 (crpWord 0x01 0 0)) :
    haltPass s e.val = (let x := engOf s e.val
      passShown (engMod s e.val (fun x => { x with
        run := false, cycles := x.cycles + 1, commit := x.pend, pend := [], passes := min 65535 (x.passes + 1), lastHand := handNo s % 2 ^ 32,
        since := if s.time.toNat < s.safe.passOff then x.since else 0 })) e.val x (x.cycles + 1)) := by
  have hfetches : crpFetches s e.val 1 useAll (encR 0x01 0 0 0) = true := crpFetches_of_fetches h (by decide)
  simp only [haltPass, hfetches, if_true, engOf_engMod, sat16_eq, ignores, decide_eq_true_eq]
  rfl

theorem overrunPass_of_run {s : State} {e : Nat} (hrun : (engOf s e).run = true) (hsev : flagAt s (crpPg + 0x024) 8 = false) :
    overrunPass s e = (let x := engOf s e
      setErrBit (hwSetBits (passShown (engMod s e (fun x => { x with
        run := false, cycles := 7680, pend := [], overruns := min 65535 (x.overruns + 1) })) e x 7680) (crpPg + 0x18C) (maskOf e e)) crpPg 8) := by
  rw [overrunPass, if_pos hrun]
  simp only [engOf_engMod, sat16_eq]
  refine (raiseErr_of_not_severe ?_).trans rfl
  rw [flagAt, regAt_hwSetBits, if_neg (by decide), regAt_regPut, if_neg (by unfold engStat crpPg; omega)]
  exact hsev

/-- Settles O4: an ACT is held or counted, HALT commits what is held, an overrun drops it. -/
theorem croupierPassEnds : Obligations.CroupierPassEnds := by
  unfold Obligations.CroupierPassEnds
  intro s e rd a x cfg owns stat shown eng
  refine ⟨fun h howns => ?act, fun h howns => ?rejected, fun h => ?halt, fun hrun hsev => ?overrun⟩
  case act =>
    have hmine : (bits (actCfg s a.val) 31 28 == e.val && actKind (actCfg s a.val) != 0) = true := by
      simpa [bne, actCfg, actKind] using howns
    refine step_of_format_M (f := fun x => if (bits (actCfg s a.val) 31 28 == e.val && actKind (actCfg s a.val) != 0) = true then _ else _)
      (by decide) (by omega) h ?_
    simp only [hmine, if_true]
    rfl
  case rejected =>
    have hmine : (bits (actCfg s a.val) 31 28 == e.val && actKind (actCfg s a.val) != 0) = false := by
      simpa [owns, cfg, bne, actCfg, actKind] using howns
    refine step_of_format_M (f := fun x => if (bits (actCfg s a.val) 31 28 == e.val && actKind (actCfg s a.val) != 0) = true then _ else _)
      (by decide) (by omega) h ?_
    simp only [hmine, Bool.false_eq_true, if_false, sat16_eq]
    rfl
  case halt => exact congrArg finish (haltPass_of_fetches h)
  case overrun => exact congrArg finish (overrunPass_of_run hrun hsev)

/-! ## LOAD and the watchdog -/

theorem crpLoad_of_free {s : State} {r : Req} {slot e : Nat} {b : Bool} (htrusted : trusted s r = true) (hfree : s.crp.load = none)
    (hhouse : fldAt s (hsePg + 0x120) 31 28 ≠ 4) (hbank : ¬ (engEn s e = true ∧ engBank s e = b)) (hnamed : bankNamed s e b = false) :
    crpLoad s r slot e b =
      fldPut (fldPut (putBank (crpMod s (fun c => { c with load := some (slot, e, b2n b) })) e b []) loadCmd 31 28 0) loadCmd 27 27 1 := by
  have hidle : (engEn s e && engBank s e == b) = false := by simpa using hbank
  simp only [crpLoad, htrusted, hfree, hnamed, hidle, beq_false_of_ne hhouse, Bool.not_true, Option.isSome_none, Bool.or_self, Bool.false_eq_true,
    if_false]

theorem storeRead_congr {s t : State} (hstore : t.store = s.store) (a n : Nat) : storeRead t a n = storeRead s a n := by
  rw [storeRead, hstore, storeRead]

/-- Which images are accepted depends on the life cycle alone (R528, R533, R534). -/
theorem blockOk_congr {s t : State} (hlcs : t.lcs = s.lcs) (type : Nat) (blk img : List Byte) : blockOk t type blk img = blockOk s type blk img := by
  unfold blockOk rootPermitted
  rw [hlcs]

/-- What a slot's check finds depends on the store and the life cycle alone. -/
theorem slotCheck_congr {s t : State} (hstore : t.store = s.store) (hlcs : t.lcs = s.lcs) (slot : Nat) : slotCheck t slot = slotCheck s slot := by
  have htorn : slotTorn t slot = slotTorn s slot := by unfold slotTorn; rw [hstore]
  have hsvn (type : Nat) (blk : List Byte) : svnOk t type blk = svnOk s type blk := by unfold svnOk; rw [hlcs]
  simp only [slotCheck, storeRead_congr hstore, blockOk_congr hlcs, htorn, hsvn]

theorem b2n_beq_one (b : Bool) : (b2n b == 1) = b := by cases b <;> rfl

/-- What the end of a LOAD makes of state `u` by what the check of its slot found; `blk` is the slot's signature block (R479). -/
def loadEnds (u : State) (blk : List Byte) (e : Nat) (b : Bool) : SlotCheck → State
  | .ok ws => loadEnd (putBank (svnSeen u 3 blk) e b ws) 0
  | .empty => loadEnd u 7
  | .badSig | .svn => loadEnd u 1
  | .badHeader => loadEnd u 2
  | .badCode => loadEnd u 3

/-- The end of a LOAD, in terms of the store as it stood: the check of its slot does not depend on what ends it. -/
theorem loadDone_of_load {s : State} {slot e b : Nat} (h : s.crp.load = some (slot, e, b)) :
    loadDone s = loadEnds (setEvt (crpMod s (fun c => { c with load := none })) crpPg 9) (storeRead s (slotAddr slot + 0x3800) 0x800) e (b == 1)
      (slotCheck s slot) := by
  have hstore : (setEvt (crpMod s (fun c => { c with load := none })) crpPg 9).store = s.store := setEvt_store ..
  have hlcs : (setEvt (crpMod s (fun c => { c with load := none })) crpPg 9).lcs = s.lcs := setEvt_lcs ..
  have hcheck := slotCheck_congr hstore hlcs slot
  have hread := storeRead_congr hstore (slotAddr slot + 0x3800) 0x800
  -- from here on the check and the read are any functions: nothing may evaluate them on an unknown store
  obtain ⟨check, hcheckIs⟩ : ∃ f, slotCheck = f := ⟨_, rfl⟩
  obtain ⟨read, hreadIs⟩ : ∃ f, storeRead = f := ⟨_, rfl⟩
  unfold loadDone
  rw [hcheckIs] at hcheck ⊢
  rw [hreadIs] at hread ⊢
  rw [h]
  dsimp only
  rw [hcheck, hread]
  cases check s slot <;> rfl

/-- Settles O5: LOAD and its end by the model's branches; the watchdog stops an engine and reports it. -/
theorem croupierLoadAndWatchdogComplete : Obligations.CroupierLoadAndWatchdogComplete := by
  unfold Obligations.CroupierLoadAndWatchdogComplete
  intro s r slot e bank cmd load
  refine ⟨fun htrusted hfree hhouse hbank hnamed => ?load, fun hload => ?done, fun hst hsince => ?watchdog⟩
  case load => exact congrArg finish (crpLoad_of_free htrusted hfree hhouse hbank hnamed)
  case done =>
    show finish (loadDone s) = _
    obtain ⟨check, hcheck⟩ : ∃ f, slotCheck = f := ⟨_, rfl⟩
    obtain ⟨read, hread⟩ : ∃ f, storeRead = f := ⟨_, rfl⟩
    rw [loadDone_of_load hload, b2n_beq_one, hcheck, hread]
    cases check s slot.val <;> rfl
  case watchdog =>
    show finish (crpWdog s e.val) = _
    rw [crpWdog, if_pos ⟨hst, hsince⟩]
    rfl

end Sys2Proof.Machine
end

section
/-! The laws of register writes: what a plain write does by access code (R7, R8, R9, R55), and the accesses that are such a write
(R53, R57, R60, R75). -/

namespace Sys2Proof.Machine

open Sys2Proof.Spec

/-! ## Plain writes -/

/-- The bits with a code of either list. -/
theorem bitsOf_append (off : Nat) (cs ds : List Acc) : bitsOf off (cs ++ ds) = bitsOf off cs ||| bitsOf off ds := by
  apply BitVec.eq_of_getLsbD_eq
  intro i _
  simp only [bitsOf, BitVec.getLsbD_or, getLsbD_accMask, List.contains_append, Bool.and_or_distrib_right]
  generalize (regFlds off).getD [] = fs
  induction fs with
  | nil => rfl
  | cons f fs ih => simp only [List.any_cons, ih]; ac_rfl

/-- What a write does to the RW, RWS and RWL bits of a register, in the bits `a` of them that it reaches. -/
def rwWrite (s : State) (off : Nat) (a v : Word) : State := if a = 0 then s else rwPut s off (maskWrite (regAt s off) a v)

/-- A write of a register without W1C, W1S and STG bits, whose page is not locked where it has RWL bits. -/
theorem plainWrite_of_rw_only {s : State} {off : Nat} (h : bitsOf off [.w1c, .w1s, .stg] = 0)
    (hlock : bitsOf off [.rwl] = 0 ∨ flagAt s (off / 0x1000 * 0x1000 + 0x008) 0 = false) (r : Req) (m v : Word) (first : Nat) :
    plainWrite s r off m v first = rwWrite s off (m &&& bitsOf off [.rw, .rws, .rwl]) v := by
  have hw1c : bitsOf off [.w1c] = 0 := bitsOf_eq_zero_of_subset h (by decide)
  have hw1s : bitsOf off [.w1s] = 0 := bitsOf_eq_zero_of_subset h (by decide)
  have hstg : bitsOf off [.stg] = 0 := bitsOf_eq_zero_of_subset h (by decide)
  have hsplit : bitsOf off [.rw, .rws, .rwl] = bitsOf off [.rw, .rws] ||| bitsOf off [.rwl] := bitsOf_append off [.rw, .rws] [.rwl]
  rcases hlock with hnone | hopen
  · simp [plainWrite, accMask_regFlds, rwWrite, hsplit, hw1c, hw1s, hstg, hnone]
  · simp [plainWrite, accMask_regFlds, rwWrite, hsplit, hw1c, hw1s, hstg, hopen, BitVec.and_or_distrib_left]

theorem regAt_rwWrite (s : State) (off p : Nat) (a v : Word) :
    regAt (rwWrite s off a v) p = if p = off then maskWrite (regAt s off) a v else regAt s p := by
  unfold rwWrite
  split
  next hnone =>
    split
    next hp => simpa [maskWrite, hnone, hp] using (BitVec.and_allOnes (x := regAt s off)).symm
    next => rfl
  next => exact regAt_regPut ..

/-- A write of RW bits touches the registers and their parity alone. -/
theorem rwWrite_frame (s : State) (off : Nat) (a v : Word) : { rwWrite s off a v with regs := s.regs, parLive := s.parLive } = s := by
  unfold rwWrite
  split <;> rfl

/-- A clear of W1C bits touches the registers alone. -/
theorem clearBits_frame (s : State) (off : Nat) (c : Word) : { clearBits s off c with regs := s.regs } = s :=
  clearBits_induction (P := fun t => { t with regs := s.regs } = s) s off c rfl fun _ _ ht _ => ht

/-- Settles O16: a register without W1C, W1S and STG bits takes its RW bits in one store; one whose software bits are all W1C is cleared,
which then only releases logs. -/
theorem plainWriteFollowsAccessCodes : Obligations.PlainWriteFollowsAccessCodes := by
  unfold Obligations.PlainWriteFollowsAccessCodes
  intro s r off first m v locked t
  refine ⟨fun hrw hlock => ?stores, fun hw1c => ⟨?clears, fun p hp hlog hsaf => ?others, ?frame⟩⟩
  case stores =>
    have ht : t = rwWrite s off (m &&& bitsOf off [.rw, .rws, .rwl]) v := plainWrite_of_rw_only hrw hlock r m v first
    rw [ht]
    exact ⟨(regAt_rwWrite ..).trans (if_pos rfl), fun p hp => (regAt_rwWrite ..).trans (if_neg hp), rwWrite_frame ..⟩
  case clears => exact regAt_plainWrite_of_w1c_only hw1c s r m v first
  case others =>
    have hkept : ¬ IsReleasedLog off p := by
      rintro (⟨i, hi⟩ | h)
      · exact hlog i hi
      · exact hsaf h
    rw [show t = _ from plainWrite_of_w1c_only hw1c s r m v first]
    split
    · rfl
    · rw [regAt_clearBits _ _ _ _ hkept, if_neg hp]
  case frame =>
    rw [show t = _ from plainWrite_of_w1c_only hw1c s r m v first]
    split
    · rfl
    · exact clearBits_frame ..

/-! ## Register accesses -/

/-- A whole word written to a plain register changes its fields by their access codes, and starts nothing. -/
theorem writeReg_of_plain {s : State} {r : Req} {o : Nat} (h : Plain s r o) (v : Word) :
    writeReg s r o 0xFFFFFFFF#32 v (o % 0x1000) = plainWrite s r o 0xFFFFFFFF#32 v (o % 0x1000) := by
  obtain ⟨-, -, hopen, hclaim, hset, hsnap, hdeck, hcmd, hguard⟩ := h
  simp only [List.mem_cons, List.not_mem_nil, or_false, not_or] at hguard
  obtain ⟨hxlt, hmsx, hdlr, hsaf, hpwr, hlcs⟩ := hguard
  have hquiet : quietWrite s r o 0xFFFFFFFF#32 v (o % 0x1000) = plainWrite s r o 0xFFFFFFFF#32 v (o % 0x1000) := by
    simp only [quietWrite, if_neg hxlt, if_neg hmsx, if_neg (not_or.2 ⟨hdlr, hsaf⟩), if_neg hpwr, if_neg hlcs]
  simp only [writeReg, hopen, hclaim, hquiet, (hcmd v).1, (hcmd v).2, if_neg hset, if_neg hsnap]
  have hnodeck (d : Nat) (hd : deckOfPage (o / 0x1000) = some d) : o % 0x1000 ≠ 0x1A0 ∧ o % 0x1000 ≠ 0x1C4 := by
    rcases hdeck with hnone | hother
    · rw [hnone] at hd; cases hd
    · exact hother
  rw [if_neg (by decide)]
  split
  next d hd hr => exact absurd hr (hnodeck d hd).1
  next d hd hr => exact absurd hr (hnodeck d hd).2
  next => split <;> rfl

/-- The answer to a write without an error (R60). -/
theorem registerWrite_of_plain {s : State} {r : Req} {o : Nat} (h : Plain s r o) (halign : o % 4 = 0) (v : Word) :
    registerWrite s r o (whole v) = answerWrite (plainWrite s r o 0xFFFFFFFF#32 v (o % 0x1000)) r false := by
  rw [registerWrite_word s r o v h.1 halign h.2.1, writeReg_of_plain h]

/-- A write of a register with STG bits alone, by the owner of the open session of its scope. -/
theorem plainWrite_of_stg_only {s : State} {r : Req} {off : Nat} (h : bitsOf off [.rw, .rws, .rwl, .w1c, .w1s] = 0) (hstg : bitsOf off [.stg] ≠ 0)
    (howns : deckOwns s (scopeOf s off) r = true) (hst : 1 ≤ deckState s (scopeOf s off) ∧ deckState s (scopeOf s off) ≤ 3) (v : Word) (first : Nat) :
    plainWrite s r off 0xFFFFFFFF#32 v first =
      setDeckState (deckMod { s with parShadow := s.parShadow.filter (· != off) } (scopeOf s off) (fun x =>
        { x with shadow := tabIns x.shadow off (maskWrite (prospective s (scopeOf s off) off) (bitsOf off [.stg]) v),
                 touched := deckBusy s (scopeOf s off) })) (scopeOf s off) 1 := by
  have hrw : bitsOf off [.rw, .rws] = 0 := bitsOf_eq_zero_of_subset h (by decide)
  have hrwl : bitsOf off [.rwl] = 0 := bitsOf_eq_zero_of_subset h (by decide)
  have hw1c : bitsOf off [.w1c] = 0 := bitsOf_eq_zero_of_subset h (by decide)
  have hw1s : bitsOf off [.w1s] = 0 := bitsOf_eq_zero_of_subset h (by decide)
  have hall : 0xFFFFFFFF#32 &&& bitsOf off [.stg] = bitsOf off [.stg] := BitVec.allOnes_and
  simp only [plainWrite, accMask_regFlds, hrw, hrwl, hw1c, hw1s, hall, if_neg hstg]
  simp [stage_of_owner _ _ rfl howns hst]

/-- A write of EVT_SET sets the events of its page (R57). -/
theorem writeReg_evtSet {s : State} {r : Req} {page : Nat} (hopen : openTo s r (page * 0x1000 + 0x018) = true) (v : Word) (first : Nat) :
    writeReg s r (page * 0x1000 + 0x018) 0xFFFFFFFF#32 v first = eventSet s (page * 0x1000) v := by
  have hoff : (page * 0x1000 + 0x018) % 0x1000 = 0x018 := by omega
  have hpage : (page * 0x1000 + 0x018) / 0x1000 * 0x1000 = page * 0x1000 := by omega
  have hall : 0xFFFFFFFF#32 &&& v = v := BitVec.allOnes_and
  simp [writeReg, hopen, hoff, hpage, hall]

theorem eventSet_eq (s : State) (pg : Nat) (v : Word) : eventSet s pg v =
    (List.range 32).foldl (fun s i => if v.getLsbD i && (bitsOf (pg + 0x010) [.w1c]).getLsbD i then setEvt s pg i else s) s := by
  have hmask : (regFlds (pg + 0x010)).elim 0 (fun fs => accMask fs [.w1c]) = bitsOf (pg + 0x010) [.w1c] := by
    unfold bitsOf
    cases regFlds (pg + 0x010) <;> rfl
  simp only [eventSet, hmask, bitOf_eq, BitVec.getLsbD_and]

/-- Settles O15: an access of a whole aligned word reaches its register once, and that write is plain, staged, or sets events. -/
theorem registerWritesComplete : Obligations.RegisterWritesComplete := by
  unfold Obligations.RegisterWritesComplete
  intro s r off page v o answer d stat
  refine ⟨fun hplain halign => ?write, fun hplain halign hcodes hstg hst howns => ?staged, fun hplain => ?lock, fun hmay hreg hopen => ?events⟩
  case write => exact congrArg finish (registerWrite_of_plain hplain halign v)
  case staged =>
    show finish (registerWrite s r o (whole v)) = _
    rw [registerWrite_of_plain hplain halign, plainWrite_of_stg_only hcodes hstg howns hst]
    rfl
  case lock =>
    have hoff : (page.val * 0x1000 + 0x008) % 0x1000 = 0x008 := by omega
    show finish (registerWrite s r (page.val * 0x1000 + 0x008) (whole 1)) = _
    rw [registerWrite_of_plain hplain (by omega), hoff]
    rfl
  case events =>
    show finish (registerWrite s r (page.val * 0x1000 + 0x018) (whole v)) = _
    rw [registerWrite_word _ _ _ _ hmay (by omega) hreg, writeReg_evtSet hopen, eventSet_eq]
    rfl

end Sys2Proof.Machine
end

section
/-! The laws of the safety monitor: parity mismatches (R76, R78), folds and their ends (R418, R420, R422, R438) and the injections (R271,
R274, R437, R439). -/

namespace Sys2Proof.Machine

open Sys2Proof.Spec

/-! ## Folds -/

theorem foldWrite_of_trusted {s : State} {r : Req} (h : trusted s r = true) (f : State → State) : foldWrite s r f = f s := if_pos h

theorem foldCommand_table (s : State) : foldCommand s 10 = foldTable (faultLog (fldPut s (safPg + 0x120) 31 28 0) 0x14 15 0 false) 0x14 := rfl

/-- The STATUS of SAF.FOLD_CMD is no fold register. -/
theorem portFolded_foldStatus (s : State) (p v : Nat) : portFolded (foldStatus s v) p = portFolded s p := by
  have hother : safPg + 0x140 + 4 * p ≠ safPg + 0x120 := by omega
  rw [portFolded, flagAt, foldStatus, regAt_fldPut, if_neg hother, portFolded, flagAt]

theorem clearCommand_of_refused {s : State} {p : Nat} (h : clearStatus s p ≠ 0) : clearCommand s p = foldStatus s (clearStatus s p) :=
  if_neg fun hgood => h hgood.1

theorem clearCommand_of_folded {s : State} {p : Nat} (hstatus : clearStatus s p = 0) (hfolded : portFolded s p = true) :
    clearCommand s p = { foldStatus s 0 with clearing := setIns p s.clearing } := by
  rw [clearCommand, hstatus]
  exact if_pos ⟨rfl, (portFolded_foldStatus s p 0).trans hfolded⟩

theorem foldDrained_of_drained {s : State} {p : Nat} (hfolded : portFolded s p = true) (hopen : flagAt s (foldReg p) 30 = false)
    (hdrained : isDrained s p = true) :
    foldDrained s p = if p < 6 then slotDrained (fldPut s (foldReg p) 30 30 1) p else fldPut s (foldReg p) 30 30 1 := by
  simp [foldDrained, hfolded, hopen, hdrained]

/-- A folded port that no fault of this trick folded keeps its cause. -/
theorem foldPort_of_old_fold {s : State} {p : Nat} (hfolded : portFolded s p = true) (hold : p ∉ s.foldFresh) (cause : Nat) :
    foldPort s p cause = s := by
  simp [foldPort, hfolded, hold]

/-- Of two causes of one trick the lower code stands. -/
theorem fldAt_foldPort_of_fresh_fold {s : State} {p cause : Nat} (hcause : cause < 32) (hfolded : portFolded s p = true)
    (hfresh : p ∈ s.foldFresh) : fldAt (foldPort s p cause) (foldReg p) 4 0 = min cause (fldAt s (foldReg p) 4 0) := by
  simp only [foldPort, hfolded, hfresh, List.contains_eq_mem, decide_true, if_true, true_and]
  split
  case isTrue hlower =>
    rw [fldAt, regAt_fldPut, if_pos rfl, bits_setBits_same _ 4 0 _ (by decide) (by decide)]
    exact (Nat.mod_eq_of_lt hcause).trans (Nat.min_eq_left (Nat.le_of_lt hlower)).symm
  case isFalse hnot => exact (Nat.min_eq_right (Nat.le_of_not_lt hnot)).symm

theorem foldTable_of_old_fold {s : State} (hfolded : tableFolded s = true) (hold : 10 ∉ s.foldFresh) (cause : Nat) :
    foldTable s cause = linksIdle s cause := by
  simp [foldTable, hfolded, hold]

theorem linksIdle_of_other_cause {cause : Nat} (h : cause < 0x08 ∨ 0x0B < cause) (s : State) : linksIdle s cause = s :=
  if_neg (by omega)

/-- Settles O20: each command is its fault or its refusal; the fold rules are those of `foldPort` and `foldTable`. -/
theorem foldsComplete : Obligations.FoldsComplete := by
  unfold Obligations.FoldsComplete
  refine ⟨?commands, ?rules⟩
  case commands =>
    intro s r p q cmd
    refine ⟨fun htrusted hport => ?_, fun htrusted htable => ?_, fun htrusted hfolded hstatus => ?_, fun htrusted hstatus => ?_,
      fun hfolded hopen hdrained hlink => ?_, fun hfolded hopen hdrained hseat => ?_, rfl, rfl, rfl⟩
    · show finish (foldWrite s r fun s => foldCommand s p.val) = _
      rw [foldWrite_of_trusted htrusted, foldCommand, if_pos hport]
      rfl
    · show finish (foldWrite s r fun s => foldCommand s p.val) = _
      rw [foldWrite_of_trusted htrusted, htable, foldCommand_table]
      rfl
    · show finish (foldWrite s r fun s => clearCommand s p.val) = _
      rw [foldWrite_of_trusted htrusted, clearCommand_of_folded hstatus hfolded]
      rfl
    · show finish (foldWrite s r fun s => clearCommand s p.val) = _
      rw [foldWrite_of_trusted htrusted, clearCommand_of_refused hstatus]
      rfl
    · show finish (foldDrained s q.val) = _
      rw [foldDrained_of_drained hfolded hopen hdrained, if_neg (by omega)]
      rfl
    · show finish (foldDrained s q.val) = _
      rw [foldDrained_of_drained hfolded hopen hdrained, if_pos hseat]
      rfl
  case rules =>
    intro s p cause _ hcause
    exact ⟨fun hfolded hold => foldPort_of_old_fold hfolded hold cause,
      fun hfolded hold hother => (foldTable_of_old_fold hfolded hold cause).trans (linksIdle_of_other_cause hother s),
      fun hfolded hold => foldTable_of_old_fold hfolded hold cause, fldAt_foldPort_of_fresh_fold hcause⟩

/-! ## Parity -/

theorem hasParity_of_bitsOf {o : Nat} (halign : o % 4 = 0) (h : bitsOf o [.rw, .rwl, .rws, .stg] ≠ 0) : hasParity o = true := by
  unfold hasParity
  unfold bitsOf at h
  cases hregs : regFlds o with
  | none => rw [hregs] at h; exact absurd rfl h
  | some fs => rw [hregs] at h; exact decide_eq_true ⟨halign, h⟩

theorem parityLive_of_fresh {s : State} {o : Nat} (halign : o % 4 = 0) (hcodes : bitsOf o [.rw, .rwl, .rws, .stg] ≠ 0) (hfresh : o ∉ s.parLive) :
    parityLive s o false = faultPage (parityReport { s with parLive := setIns o s.parLive } o false) 0x04 o 0 false := by
  simp [parityLive, hasParity_of_bitsOf halign hcodes, hfresh]

theorem stgMask_eq (o : Nat) : stgMask o = bitsOf o [.stg] := by
  unfold stgMask bitsOf
  cases regFlds o <;> rfl

theorem parityShadow_of_fresh {s : State} {o : Nat} (halign : o % 4 = 0) (hcodes : bitsOf o [.stg] ≠ 0) (hfresh : o ∉ s.parShadow) :
    parityShadow s o = parityReport { s with parShadow := setIns o s.parShadow } o true := by
  have hstg : stgMask o ≠ 0#32 := fun h => hcodes ((stgMask_eq o).symm.trans h)
  simp [parityShadow, halign, hstg, hfresh]

/-- Settles O19: a mismatch in a live value is reported and faults its page; one in a shadow is only reported. -/
theorem parityMismatchesComplete : Obligations.ParityMismatchesComplete := by
  unfold Obligations.ParityMismatchesComplete
  intro s off o pg report
  refine ⟨fun halign hcodes hfresh => ?live, fun halign hcodes hfresh => ?shadow⟩
  case live =>
    show finish (parityLive s o false) = _
    rw [parityLive_of_fresh halign hcodes hfresh]
    rfl
  case shadow =>
    show finish (parityShadow s o) = _
    rw [parityShadow_of_fresh halign hcodes hfresh]
    rfl

/-! ## Injections -/

theorem injector_of_enabled {s : State} (h : flagAt s (safPg + 0x174) 0 = true) (r : Req) (pg off : Nat) (f : State → State) :
    injector s r pg off f = f s := if_pos h

theorem injector_of_disabled {s : State} (h : flagAt s (safPg + 0x174) 0 = false) (r : Req) (pg off : Nat) (f : State → State) :
    injector s r pg off f = logAccess s pg r 7 true off := by rw [injector, h]; rfl

/-- The KIND of a word that a SAF injection writes. -/
theorem kind_injectWord {kind : Nat} (h : kind < 16) (target : Nat) (shadow : Bool) : bits (injectWord kind target shadow) 3 0 = kind := by
  simp only [bits, injectWord, BitVec.toNat_ofNat, Nat.shiftRight_zero]
  omega

/-- A SAF injection that is enabled waits for the boundary, in place of another. -/
theorem injectSaf_of_enabled {s : State} (h : flagAt s (safPg + 0x174) 0 = true) (r : Req) {kind : Nat} (hkind : 1 ≤ kind ∧ kind ≤ 9)
    (target : Nat) (shadow : Bool) : injectSaf s r (injectWord kind target shadow) =
      rwPut { s with safe := { s.safe with inj := [(kind, bits (injectWord kind target shadow) 31 4)] } } (safPg + 0x1E0)
        (injectWord kind target shadow) := by
  have hword : bits (injectWord kind target shadow) 3 0 = kind := kind_injectWord (by omega) target shadow
  rw [injectSaf, injector_of_enabled h, hword]
  exact if_pos hkind

theorem injectSaf_of_disabled {s : State} (h : flagAt s (safPg + 0x174) 0 = false) (r : Req) (v : Word) :
    injectSaf s r v = logAccess s safPg r 7 true 0x1E0 := injector_of_disabled h ..

/-- Settles O21: an injection is its unit's write under `injector`. -/
theorem injectionsComplete : Obligations.InjectionsComplete := by
  unfold Obligations.InjectionsComplete
  refine ⟨?saf, ?units⟩
  case saf =>
    intro s r shadow target k en waits
    refine ⟨fun hen => ?waiting, fun hen => ?dropped⟩
    case waiting =>
      have hwaits (kind : Nat) (hkind : 1 ≤ kind ∧ kind ≤ 9) (tgt : Nat) (sh : Bool) :
          finish (injectSaf s r (injectWord kind tgt sh)) = .next (waits kind tgt sh) := by
        rw [injectSaf_of_enabled hen r hkind]; rfl
      exact ⟨hwaits 1 (by decide) target.toNat shadow, hwaits 2 (by decide) 0 false, hwaits 3 (by decide) 0 false, hwaits 4 (by decide) 0 false,
        hwaits 5 (by decide) 0 false, hwaits 6 (by decide) 0 false, hwaits 7 (by decide) k.val false, hwaits 8 (by decide) 0 false,
        hwaits 9 (by decide) 0 false⟩
    case dropped =>
      intro dropped
      have hdrop (v : Word) : finish (injectSaf s r v) = .next dropped := congrArg finish (injectSaf_of_disabled hen r v)
      exact ⟨hdrop _, hdrop _, hdrop _, hdrop _, hdrop _, hdrop _, hdrop _, hdrop _, hdrop _⟩
  case units =>
    intro s r p t v hen dlr d
    have henabled (pg off : Nat) (f : State → State) : injector s r pg off f = f s := injector_of_enabled hen r pg off f
    refine ⟨fun hport => ?_, fun hnone => ?_, ?_, fun htile => ?_, fun hnone => ?_, ?_, ?_, fun hmode => ?_, fun hmode => ?_, ?_⟩
    · show finish (injectDlr s r 1 p.val) = _
      rw [injectDlr, henabled]
      exact congrArg finish (if_pos hport)
    · show finish (injectDlr s r 1 p.val) = _
      rw [injectDlr, henabled]
      exact congrArg finish (if_neg (by omega))
    · show finish (injectDlr s r 2 _) = _
      rw [injectDlr, henabled]
      rfl
    · show finish (injectDlr s r 3 t.val) = _
      rw [injectDlr, henabled]
      exact congrArg finish (if_pos htile)
    · show finish (injectDlr s r 3 t.val) = _
      rw [injectDlr, henabled]
      exact congrArg finish (if_neg (by omega))
    · show finish (injectTal s r 1) = _
      rw [injectTal, henabled]
      rfl
    · show finish (injectTal s r 2) = _
      rw [injectTal, henabled]
      rfl
    · show finish (injectXlt s r v) = _
      rw [injectXlt, henabled]
      simp only [if_pos hmode]
      rfl
    · show finish (injectXlt s r v) = _
      rw [injectXlt, henabled]
      simp only [hmode]
      rfl
    · show finish (injectMsx s r v) = _
      rw [injectMsx, henabled]
      rfl

end Sys2Proof.Machine
end

section
/-! The laws of committed entries (R27, R216, R219) and of the end of an FLR (R205 to R207). -/

namespace Sys2Proof.Machine

open Sys2Proof.Spec

/-! ## Committed entries -/

/-- A table that does not list key `k` is found to hold `k`'s new pair, and every other pair as before. -/
theorem find?_tabIns {α : Type} {t : Tab α} {k : Nat} (hnew : t.any (fun p => p.1 == k) = false) (v : α) (j : Nat) :
    (tabIns t k v).find? (fun p => p.1 == j) = if j = k then some (k, v) else t.find? (fun p => p.1 == j) := by
  induction t with
  | nil =>
    by_cases hjk : j = k
    · simp [tabIns, hjk]
    · simp [tabIns, hjk, Ne.symm hjk]
  | cons p r ih =>
    obtain ⟨i, w⟩ := p
    simp only [List.any_cons, Bool.or_eq_false_iff, beq_eq_false_iff_ne] at hnew
    obtain ⟨hik, hrest⟩ := hnew
    simp only [tabIns, if_neg hik]
    split
    · by_cases hjk : j = k
      · simp [hjk]
      · simp [hjk, Ne.symm hjk]
    · by_cases hij : i = j
      · have hjk : j ≠ k := hij ▸ hik
        simp [hij, hjk]
      · simp only [List.find?_cons, beq_eq_false_iff_ne.2 hij, ih hrest]

theorem entAt_commitEnt (s : State) (key j : Nat) (v : Dword) : entAt (commitEnt s key v) j = if j = key then v else entAt s j := by
  unfold entAt commitEnt
  by_cases hxt : key < 2 ^ 23 <;> by_cases hj : j < 2 ^ 23 <;> simp only [xltMod, hxt, hj, if_true, if_false, tabGet_tabPut]
  · rw [if_neg (by omega)]
  · rw [if_neg (by omega)]
  · have hsame : j - 2 ^ 23 = key - 2 ^ 23 ↔ j = key := by omega
    simp only [hsame]

theorem ecc_commitEnt (s : State) (key : Nat) (v : Dword) : (commitEnt s key v).xlt.ecc = tabDel s.xlt.ecc key := by
  unfold commitEnt xltMod
  dsimp only
  split <;> rfl

theorem pend_commitEnt (s : State) (key : Nat) (v : Dword) : (commitEnt s key v).xlt.pend =
    if s.xlt.pend.any (fun p => p.1 == key) then s.xlt.pend else tabIns s.xlt.pend key (entAt s key, tabGet 0 s.xlt.ecc key) := by
  unfold commitEnt xltMod
  dsimp only
  split <;> rfl

theorem entErrs_commitEnt (s : State) (key j : Nat) (v : Dword) : entErrs (commitEnt s key v) j = if j = key then 0 else entErrs s j := by
  rw [entErrs, ecc_commitEnt, tabGet_tabDel]
  split <;> rfl

/-- A look-up sees what it saw before the commit, until the boundary. -/
theorem entSeen_commitEnt (s : State) (key j : Nat) (v : Dword) : entSeen (commitEnt s key v) j = entSeen s j := by
  have hother (hj : j ≠ key) : (entAt (commitEnt s key v) j, entErrs (commitEnt s key v) j) = (entAt s j, entErrs s j) := by
    rw [entAt_commitEnt, entErrs_commitEnt, if_neg hj, if_neg hj]
  unfold entSeen
  rw [pend_commitEnt]
  cases hlisted : s.xlt.pend.any (fun p => p.1 == key) with
  | true =>
    rw [if_pos rfl]
    cases hfind : s.xlt.pend.find? (fun p => p.1 == j) with
    | some p => rfl
    | none =>
      refine hother fun hj => ?_
      subst hj
      rw [List.any_eq_true] at hlisted
      obtain ⟨p, hp, hkey⟩ := hlisted
      exact absurd hkey (List.find?_eq_none.1 hfind p hp)
  | false =>
    rw [if_neg Bool.false_ne_true, find?_tabIns hlisted]
    by_cases hj : j = key
    case pos =>
      have hnone : s.xlt.pend.find? (fun p => p.1 == j) = none := by
        rw [List.find?_eq_none]
        intro p hp hkey
        rw [hj] at hkey
        exact absurd hkey (List.any_eq_false.1 hlisted p hp)
      rw [hnone, if_pos hj, hj]
      rfl
    case neg =>
      rw [if_neg hj]
      cases hfind : s.xlt.pend.find? (fun p => p.1 == j) with
      | some p => rfl
      | none => exact hother hj

theorem entSeen_entForce (s : State) (j : Nat) : entSeen (entForce s) j = (entAt s j, entErrs s j) := rfl

/-- Settles O24: a commit stores the entry and its check, and keeps for look-ups the entry in force. -/
theorem committedEntryIsReadWhole : Obligations.CommittedEntryIsReadWhole := by
  unfold Obligations.CommittedEntryIsReadWhole
  intro s key other v t
  have hat : entAt t key = v := (entAt_commitEnt ..).trans (if_pos rfl)
  have herrs : entErrs t key = 0 := (entErrs_commitEnt ..).trans (if_pos rfl)
  refine ⟨hat, herrs, fun hother => ⟨?_, ?_⟩, entSeen_commitEnt .., fun _ => entSeen_commitEnt .., ?_⟩
  · exact (entAt_commitEnt ..).trans (if_neg hother)
  · exact (entErrs_commitEnt ..).trans (if_neg hother)
  · rw [entSeen_entForce, hat, herrs]

/-! ## The end of an FLR -/

/-- A configuration dword at offset `o` that held `v`, after an FLR (R206). -/
def afterFlr (o : Nat) (v : Word) : Word := (v &&& stickyCfg o) ||| (cfgReset o &&& ~~~ stickyCfg o)

theorem afterFlr_cfgReset (o : Nat) : afterFlr o (cfgReset o) = cfgReset o := by
  unfold afterFlr
  ext i hi
  simp only [BitVec.getElem_or, BitVec.getElem_and, BitVec.getElem_not]
  cases (cfgReset o)[i] <;> cases (stickyCfg o)[i] <;> rfl

/-- The dwords that an FLR leaves, of a canonical table. -/
theorem tabGet_flrWord {t : Tab Word} {lo : Nat} (h : tabRising lo t = true) (i : Nat) :
    tabGet (cfgReset (i * 4)) ((t.map flrWord).filter (fun p => p.2 != cfgReset (p.1 * 4))) i =
      afterFlr (i * 4) (tabGet (cfgReset (i * 4)) t i) := by
  induction t generalizing lo with
  | nil => exact (afterFlr_cfgReset _).symm
  | cons p r ih =>
    obtain ⟨k, v⟩ := p
    simp only [tabRising, Bool.and_eq_true] at h
    obtain ⟨-, hrest⟩ := h
    have hword : flrWord (k, v) = (k, afterFlr (k * 4) v) := rfl
    rw [List.map_cons, hword, List.filter_cons, tabGet]
    by_cases hk : k = i
    · subst hk
      rw [if_pos rfl]
      split
      case isTrue => rw [tabGet, if_pos rfl]
      case isFalse hreset =>
        rw [ih hrest, tabGet_of_lt _ hrest (Nat.lt_succ_self k), afterFlr_cfgReset]
        exact (by simpa using hreset : afterFlr (k * 4) v = cfgReset (k * 4)).symm
    · rw [if_neg hk]
      split
      case isTrue => rw [tabGet, if_neg hk, ih hrest]
      case isFalse => exact ih hrest

theorem fnOf_flrEnd (s : State) (f g : Nat) : fnOf (flrEnd s f) g = if g = f then
    { fnOf s f with cfg := ((fnOf s f).cfg.map flrWord).filter (fun p => p.2 != cfgReset (p.1 * 4)), d3 := false, msixOn := false, msixMsk := false,
                    flr := false, flrVfe := false, bench := (fnOf s f).bench || (fnOf s f).benchPend, benchPend := false } else fnOf s g := by
  have hevents (t : State) (c : Prop) [Decidable c] : fnOf (setEvt (if c then setEvt t (fnPg f) 13 else t) (fnPg f) 9) g = fnOf t g := by
    split <;> simp only [fnOf, setEvt_fns]
  rw [flrEnd, flrOff]
  dsimp only
  rw [hevents, fnOf_fnMod, cfgClear, fnOf_fnMod, fnOf_fnMod, if_pos rfl]
  split <;> rfl

theorem cfgAt_flrEnd {s : State} {f : Nat} (h : tabRising 0 (fnOf s f).cfg = true) (i : Nat) :
    cfgAt (flrEnd s f) f (4 * i) = afterFlr (4 * i) (cfgAt s f (4 * i)) := by
  have hkey : 4 * i / 4 = i := by omega
  rw [cfgAt, fnOf_flrEnd, if_pos rfl, cfgAt, hkey, Nat.mul_comm]
  exact tabGet_flrWord h i

theorem flagAt_setEvt_same (s : State) (pg : Nat) {i : Nat} (hi : i < 32) : flagAt (setEvt s pg i) (pg + 0x010) i = true := by
  rw [flagAt, regAt_setEvt, if_pos rfl, bitOf_eq, BitVec.getLsbD_or, getLsbD_maskOf]
  simp only [hi, decide_true, Bool.true_and, Nat.le_refl]
  rw [Bool.or_eq_true]
  exact Or.inr (decide_eq_true (by omega))

/-- The conditions of R205 as the model reads them. -/
theorem flrReady_iff (s : State) (f : Nat) : flrReady s f = true ↔
    heldBy s f = 0 ∧ (∀ k < 4, ∀ e ∈ (linkTxOf s k).exchs, e.isFold = true ∨ e.fn ≠ f) ∧ ∀ d ∈ s.xlt.lines, d.fn ≠ f := by
  have hor (b : Bool) (p : Prop) : (b = true ∨ p) ↔ (b = false → p) := by cases b <;> simp
  simp only [hor]
  simp [flrReady, fnCards, fnBurning, logPending, and_assoc]

section Vf

variable {s : State} {f n : Nat}

theorem isVf_of_le (hvf : 6 ≤ f) : isVf f = true := decide_eq_true hvf

theorem seatIsReady_of_seat (hseat : fnSeat s f = some n) (hready : flagAt s (linkPg n + 0x110) 1 = true) : seatIsReady s f = true := by
  rw [seatIsReady, hseat]; exact hready

theorem flrComplete_of_ready (hvf : 6 ≤ f) (hseat : seatIsReady s f = true) (hflr : (fnOf s f).flr = true) (hready : flrReady s f = true) :
    flrComplete s f = flrEnd s f := by
  simp [flrComplete, flrClear, hflr, hseat, hready, isVf_of_le hvf]

theorem flrComplete_of_not_ready (hready : ¬ flrReady s f = true) : flrComplete s f = s := by
  simp [flrComplete, flrClear, Bool.eq_false_iff.2 hready]

theorem flrDeadline_of_vf (hvf : 6 ≤ f) (hseat : seatIsReady s f = true) (hflr : (fnOf s f).flr = true) :
    flrDeadline s f = flrEnd (flrForce s f) f := by
  simp [flrDeadline, hflr, hseat, isVf_of_le hvf]

end Vf

/-- Settles O29: the model's conditions are R205's; the end of an FLR is read off its function. -/
theorem flrCompletionFollowsItsConditions : Obligations.FlrCompletionFollowsItsConditions := by
  unfold Obligations.FlrCompletionFollowsItsConditions
  refine ⟨?completes, ?leaves⟩
  case completes =>
    intro s f n hvf hseat hlink hflr cards burns clean
    have hready : seatIsReady s f.val = true := seatIsReady_of_seat hseat hlink
    have hconds : flrReady s f.val = true ↔ cards ∧ burns ∧ clean := flrReady_iff s f.val
    exact ⟨fun hcards hburns hclean => congrArg finish (flrComplete_of_ready hvf hready hflr (hconds.2 ⟨hcards, hburns, hclean⟩)),
      fun hnot => congrArg finish (flrComplete_of_not_ready (mt hconds.1 hnot)),
      congrArg finish (flrDeadline_of_vf hvf hready hflr)⟩
  case leaves =>
    intro s f t
    have hfn : fnOf t f = _ := (fnOf_flrEnd s f f).trans (if_pos rfl)
    refine ⟨by rw [hfn], by rw [hfn], by rw [hfn], fun hrising i => cfgAt_flrEnd hrising i, by rw [hfn], ?_, fun g hg => ?_⟩
    · exact flagAt_setEvt_same _ _ (by decide)
    · exact (fnOf_flrEnd s f g).trans (if_neg hg)

end Sys2Proof.Machine
end

section
/-! The laws of queue commands (R284) and of the limits of a fetch (R290). -/

namespace Sys2Proof.Machine

open Sys2Proof.Spec

theorem qCmdFits_iff (op st : Nat) : qCmdFits op st = true ↔
    (op = 1 ∧ st = 0) ∨ ((op = 2 ∨ op = 3) ∧ (st = 2 ∨ st = 4)) ∨ (op = 4 ∧ st = 4) := by
  simp [qCmdFits, or_assoc]

theorem queueOf_killFetch (s : State) (k j : Nat) : queueOf (killFetch s k) j = queueOf s j := rfl

section Commands

variable {s : State} {k op : Nat}

theorem qSampleCmd_of_refused (h : (queueOf s k).op ≠ 0 ∨ ¬ qCmdFits op (queueOf s k).st = true) : qSampleCmd s k op = badCmd s k := by
  rw [qSampleCmd]
  exact if_pos (h.imp_right (by simp))

theorem qSampleCmd_of_fits (hidle : (queueOf s k).op = 0) (hfits : qCmdFits op (queueOf s k).st = true) : qSampleCmd s k op =
    if qHeld (queueMod s k fun q => { q with op := op }) (queueOf s k) then queueMod s k fun q => { q with op := op }
    else qAct (queueMod s k fun q => { q with op := op }) k op := by
  rw [qSampleCmd]
  exact if_neg (by simp [hidle, hfits])

theorem qHeld_queueMod (g : Queue → Queue) (q : Queue) : qHeld (queueMod s k g) q = !(fnOf s q.fn).master := rfl

/-- A command that fits acts while the queue's function is master. -/
theorem qSampleCmd_of_master (hidle : (queueOf s k).op = 0) (hfits : qCmdFits op (queueOf s k).st = true)
    (hmaster : (fnOf s (queueOf s k).fn).master = true) : qSampleCmd s k op = qAct (queueMod s k fun q => { q with op := op }) k op := by
  rw [qSampleCmd_of_fits hidle hfits, qHeld_queueMod, hmaster]
  rfl

/-- A command that fits waits while it is not. -/
theorem qSampleCmd_of_held (hidle : (queueOf s k).op = 0) (hfits : qCmdFits op (queueOf s k).st = true)
    (hheld : (fnOf s (queueOf s k).fn).master = false) : qSampleCmd s k op = queueMod s k fun q => { q with op := op } := by
  rw [qSampleCmd_of_fits hidle hfits, qHeld_queueMod, hheld]
  rfl

theorem queueOf_queueMod_same (g : Queue → Queue) : queueOf (queueMod s k g) k = g (queueOf s k) := (queueOf_queueMod ..).trans (if_pos rfl)

/-- DISABLE of an ACTIVE queue drains it. -/
theorem qAct_disable_of_active (h : (queueOf s k).st = 2) : qAct s k 2 = killFetch (queueMod s k fun q => { q.unfetch with st := 3 }) k := by
  simp only [qAct, h]

/-- RESUME of a HALTED queue makes it ACTIVE. -/
theorem qAct_resume_of_halted (h : (queueOf s k).st = 4) :
    qAct s k 4 = killFetch (queueMod s k fun q => { q.unfetch with st := 2, op := 0 }) k := by
  simp only [qAct, h]

end Commands

/-- Settles O31: a sampled command is refused, waits, or acts by its state. -/
theorem sampledQueueCommandFollowsTheState : Obligations.SampledQueueCommandFollowsTheState := by
  unfold Obligations.SampledQueueCommandFollowsTheState
  intro s k op q
  refine ⟨fun hrefused => ?refused, fun hidle hactive hmaster => ?disable, fun hidle hhalted hmaster => ?resume,
    fun hidle hop hactive hheld => ?waits⟩
  case refused =>
    have hnofit : q.op ≠ 0 ∨ ¬ qCmdFits op q.st = true := hrefused.imp_right (mt (qCmdFits_iff ..).1)
    rw [qSampleCmd_of_refused hnofit]
    rfl
  case disable =>
    have hfits : qCmdFits 2 q.st = true := (qCmdFits_iff ..).2 (.inr (.inl ⟨.inl rfl, .inl hactive⟩))
    rw [qSampleCmd_of_master hidle hfits hmaster, qAct_disable_of_active (by rw [queueOf_queueMod_same]; exact hactive), queueOf_killFetch,
      queueOf_queueMod_same, queueOf_queueMod_same]
    exact ⟨rfl, rfl, rfl⟩
  case resume =>
    have hfits : qCmdFits 4 q.st = true := (qCmdFits_iff ..).2 (.inr (.inr ⟨rfl, hhalted⟩))
    rw [qSampleCmd_of_master hidle hfits hmaster, qAct_resume_of_halted (by rw [queueOf_queueMod_same]; exact hhalted), queueOf_killFetch,
      queueOf_queueMod_same, queueOf_queueMod_same]
    exact ⟨rfl, rfl, rfl⟩
  case waits =>
    have hfits : qCmdFits op q.st = true := (qCmdFits_iff ..).2 (.inr (.inl ⟨hop, .inl hactive⟩))
    rw [qSampleCmd_of_held hidle hfits hheld, queueOf_queueMod_same]
    exact ⟨rfl, hactive⟩

/-- Settles O33: the count of a fetch is the least of its limits, and its index is one of the ring. -/
theorem fetchStaysWithinItsLimits : Obligations.FetchStaysWithinItsLimits := by
  unfold Obligations.FetchStaysWithinItsLimits
  intro q hheld htaken i n
  have hn : n = min (min 8 (q.sqSize - i)) (min (q.rung - q.taken) (16 - q.fetched.length - q.fetching)) := rfl
  have hring : i < q.sqSize := Nat.mod_lt _ (Nat.two_pow_pos _)
  omega

end Sys2Proof.Machine
end

section
/-! The laws of what the lane cells report: losses and locks (R132, R133), Lane firmware (R118), the ROM baseline (R134) and margining
(R130, R131). -/

namespace Sys2Proof.Machine

open Sys2Proof.Spec

theorem laneUsed_of_lt {s : State} {p i : Nat} (h : i < portLanes s p) : laneUsed s p i = true := decide_eq_true h

/-! ## Lane firmware -/

section Firmware

variable {s : State} {p j : Nat}

theorem lfwStop_of_restart (hruns : fldAt s (lanePg p + 0x320 + 4 * j) 15 12 = 1) (hcount : lfwCount s (p * 4 + j) < 8) :
    lfwStop s p j =
      (let u := { emit s (.mgmt "LANE_FW_STOP" [p, j]) with
                  lfw := tabIns s.lfw (p * 4 + j) (s.time.toNat / (64 * handUnits), lfwCount s (p * 4 + j) + 1) }
       fldPut (fldPut u (lanePg p + 0x320 + 4 * j) 15 12 2) (lanePg p + 0x320 + 4 * j) 7 0
         (satNat 255 (fldAt s (lanePg p + 0x320 + 4 * j) 7 0 + 1))) := by
  simp only [lfwStop, hruns, ne_eq, not_true_eq_false, if_false, if_neg (Nat.not_le_of_lt hcount)]
  rfl

theorem lfwStop_of_halt (hruns : fldAt s (lanePg p + 0x320 + 4 * j) 15 12 = 1) (hcount : 8 ≤ lfwCount s (p * 4 + j)) :
    lfwStop s p j = fldPut (emit s (.mgmt "LANE_FW_STOP" [p, j])) (lanePg p + 0x320 + 4 * j) 15 12 4 := by
  simp only [lfwStop, hruns, ne_eq, not_true_eq_false, if_false, if_pos hcount]

end Firmware

/-! ## The ROM baseline -/

/-- The best of the codes up to `n` is the first of the highest, where one of them is. -/
theorem best_of_first_max {f : Nat → Nat} {b n : Nat} (hb : b < n) (hmax : ∀ c < n, f c ≤ f b) (hfirst : ∀ c < b, f c < f b) :
    (List.range n).foldl (fun b c => if f b < f c then c else b) 0 = b := by
  have hup (m : Nat) (hm : m ≤ n) (hbm : b < m) : (List.range m).foldl (fun b c => if f b < f c then c else b) 0 = b := by
    induction m with
    | zero => exact absurd hbm (Nat.not_lt_zero b)
    | succ m ih =>
      rw [List.range_succ, List.foldl_append, List.foldl_cons, List.foldl_nil]
      rcases Nat.lt_or_eq_of_le (Nat.le_of_lt_succ hbm) with hlt | heq
      · rw [ih (by omega) hlt, if_neg (Nat.not_lt_of_le (hmax m hm))]
      · subst heq
        have hbelow (k : Nat) (hk : k ≤ b) (hzero : 0 < b) : (List.range k).foldl (fun b c => if f b < f c then c else b) 0 < b := by
          refine List.foldlRecOn (motive := (· < b)) (List.range k) _ hzero fun x hx c hc => ?_
          have hcb : c < b := Nat.lt_of_lt_of_le (List.mem_range.1 hc) hk
          split
          · exact hcb
          · exact hx
        rcases Nat.eq_zero_or_pos b with hzero | hpos
        · subst hzero; simp
        · exact if_pos (hfirst _ (hbelow b (Nat.le_refl b) hpos))
  exact hup n (Nat.le_refl n) hb

theorem sweepBest_of_first_max {snr : List Nat} {b : Nat} (hb : b < 7) (hmax : ∀ c < 7, snr.getD c 0 ≤ snr.getD b 0)
    (hfirst : ∀ c < b, snr.getD c 0 < snr.getD b 0) : sweepBest snr = 8 * b := by
  rw [sweepBest, best_of_first_max (f := fun c => snr.getD c 0) hb hmax hfirst, Nat.mul_comm]

/-! ## Margining -/

section Margin

variable {s : State} {n i : Nat}

theorem marginReady_iff (s : State) (n : Nat) : marginReady s n = true ↔
    flagAt s (lanePg n + 0x300) 1 = false ∧ 4 ≤ seatRate s n ∧ ltssm s n = 3 := by
  simp [marginReady, ltssm, and_assoc]

theorem laneMargins_iff (s : State) (n i : Nat) : laneMargins s n i = true ↔
    bitOf (regAt s (laneStat n i)) 31 = true ∧ bitOf (regAt s (laneStat n i)) 29 = false := by
  simp [laneMargins]

theorem margin_of_not_ready (h : ¬ marginReady s n = true) (m : MarginCmd) : margin s n i m = emit s (.seatSig n "MARGIN_NOT_READY" i) :=
  if_pos (by simpa using h)

/-- A lane that is ready tells its answer on the seat. -/
theorem margin_of_ready (h : marginReady s n = true) (m : MarginCmd) : margin s n i m =
    emit (marginAnswer s n i m).2 (.seatSig n "MARGIN" (i * 65536 + (marginCode m).1 * 256 + (marginAnswer s n i m).1)) :=
  if_neg (by simp [h])

theorem marginAnswer_of_deaf (h : ¬ laneMargins s n i = true) (m : MarginCmd) : marginAnswer s n i m = (0xC0, s) :=
  if_pos (by simpa using h)

/-- The answer to a step that the lane takes: its errors are an open value. -/
def stepTaken (s : State) (n i ty pl : Nat) : Nat × State :=
  (stepAnswer (laneOf s n i).limit (Config.freeValue s.freeCtr % 64),
   laneMod { s with freeCtr := s.freeCtr + 1 } n i (fun x => { x with margin := some (ty, pl) }))

theorem marginAnswer_stepTiming (h : laneMargins s n i = true) (b : Bool) (k : Fin 64) :
    marginAnswer s n i (.stepTiming b k) = if 32 < k.val then (0xC0, s) else stepTaken s n i 3 (b2n b * 64 + k.val) := by
  simp only [marginAnswer, marginCode, h, Bool.not_true, Bool.false_eq_true, if_false, if_true]
  rfl

theorem marginAnswer_stepVoltage (h : laneMargins s n i = true) (b : Bool) (v : Fin 128) :
    marginAnswer s n i (.stepVoltage b v) = if 64 < v.val then (0xC0, s) else stepTaken s n i 4 (b2n b * 128 + v.val) := by
  simp only [marginAnswer, marginCode, h, Bool.not_true, Bool.false_eq_true, if_false, Nat.reduceEqDiff]
  rfl

end Margin

/-- Settles O37: each event is the write of its lane; a margin command is answered by `marginAnswer`. -/
theorem laneEventsComplete : Obligations.LaneEventsComplete := by
  unfold Obligations.LaneEventsComplete
  refine ⟨?events, ?margins⟩
  case events =>
    intro s p i j snr o cnt lfw key limp loops told wd
    refine ⟨fun hused hsig => ?_, fun hused hlock => ?_, fun hused hgood hlost => ?_, fun hused hlock => ?_, fun hruns hcount => ?_,
      fun hruns hcount => ?_, fun hrestarts => ?_, fun b hb hused hlimp hmax hfirst => ?_⟩
    · exact congrArg finish (if_pos (by rw [laneUsed_of_lt hused]; exact hsig))
    · exact congrArg finish (if_pos (by rw [laneUsed_of_lt hused]; exact hlock))
    · have hnot : (bitOf (regAt s o) 31 && bitOf (regAt s o) 30) = false := Bool.and_eq_false_iff.2 hlost
      refine congrArg finish (if_pos ?_)
      rw [laneUsed_of_lt hused, show bitOf (regAt s (laneStat p.val i.val)) 27 = false from hgood, hnot]
      rfl
    · refine congrArg finish (if_pos ?_)
      rw [laneUsed_of_lt hused, show flagAt s (laneStat p.val i.val) 31 = false from hlock]
      rfl
    · exact congrArg finish (lfwStop_of_restart hruns hcount)
    · exact congrArg finish (lfwStop_of_halt hruns hcount)
    · exact congrArg finish (if_pos hrestarts)
    · have hbest : sweepBest (snr.map fun x => x.val) = 8 * b := sweepBest_of_first_max hb hmax hfirst
      have hgate : (laneUsed s p.val i.val && laneLimp s p.val i.val) = true := by rw [laneUsed_of_lt hused]; exact hlimp
      show finish (if _ then _ else _) = _
      rw [if_pos hgate, laneSweep, hbest]
      rfl
  case margins =>
    intro s n i m w k v b st ready able tells step
    have hready : marginReady s n.val = true ↔ ready := marginReady_iff s n.val
    have hmargins (h : able) : marginReady s n.val = true ∧ laneMargins s n.val i.val = true :=
      ⟨hready.2 h.1, (laneMargins_iff s n.val i.val).2 h.2⟩
    have hanswers (h : able) (m : MarginCmd) {ty pl : Nat} {t : State} (hty : (marginCode m).1 = ty)
        (hanswer : marginAnswer s n.val i.val m = (pl, t)) : exec (.marginCommand n ⟨i, m⟩) s = tells t ty pl := by
      show finish (margin s n.val i.val m) = _
      rw [margin_of_ready (hmargins h).1, hanswer, hty]
      rfl
    refine ⟨fun hnot => ?_, fun hr hnot => ?_, fun h => ?_⟩
    · exact congrArg finish (margin_of_not_ready (mt hready.1 hnot) m)
    · have hdeaf : ¬ laneMargins s n.val i.val = true := fun hl => hnot ⟨hr, (laneMargins_iff s n.val i.val).1 hl⟩
      show finish (margin s n.val i.val m) = _
      rw [margin_of_ready (hready.2 hr), marginAnswer_of_deaf hdeaf]
      rfl
    · have hlane : laneMargins s n.val i.val = true := (hmargins h).2
      have hhears : (!laneMargins s n.val i.val) = false := by rw [hlane]; rfl
      refine ⟨hanswers h _ rfl ?_, hanswers h _ rfl ?_, hanswers h _ rfl ?_, hanswers h _ rfl ?_, fun hin => ?_, fun hout => ?_, fun hin => ?_,
        fun hout => ?_⟩
      · simp only [marginAnswer, hhears]; rfl
      · simp only [marginAnswer, hhears]; rfl
      · simp only [marginAnswer, hhears]; rfl
      · simp only [marginAnswer, hhears]; rfl
      · exact hanswers h (.stepTiming b k) rfl ((marginAnswer_stepTiming hlane b k).trans (if_neg (Nat.not_lt_of_le hin)))
      · exact hanswers h (.stepTiming b k) rfl ((marginAnswer_stepTiming hlane b k).trans (if_pos hout))
      · exact hanswers h (.stepVoltage b v) rfl ((marginAnswer_stepVoltage hlane b v).trans (if_neg (Nat.not_lt_of_le hin)))
      · exact hanswers h (.stepVoltage b v) rfl ((marginAnswer_stepVoltage hlane b v).trans (if_pos hout))

end Sys2Proof.Machine
end

section
/-! The laws of the training of a Nicen Link (R321, R324 to R331, R349). -/

namespace Sys2Proof.Machine

open Sys2Proof.Spec

/-! ## What the lane cells of a link follow from -/

section Cells

variable {s t : State} {k : Nat} (hgroups : ∀ m, linkGroups t m = linkGroups s m)

include hgroups

theorem portLanes_congr : portLanes t (6 + k) = portLanes s (6 + k) := by
  rw [portLanes, portLanes, if_neg (by omega), if_neg (by omega), hgroups]

theorem laneOf_congr (hlanes : t.lanes = s.lanes) (i : Nat) : laneOf t (6 + k) i = laneOf s (6 + k) i := by
  have hports : portGroups t (6 + k) = portGroups s (6 + k) := by
    rw [portGroups, portGroups, if_neg (by omega), if_neg (by omega), hgroups]
  rw [laneOf, laneCell, laneUsed, portLanes_congr hgroups, hports, hlanes]
  rfl

end Cells

/-! ## What the control-block counter leaves alone -/

section Counter

variable {s t : State} {k : Nat}

/-- `t` has the registers of `s`, but for one at or above 0x200 in a link page. -/
def SameBelowCounters (s t : State) (k : Nat) : Prop := ∀ o, o ≠ linkPg (6 + k) + 0x42C → regAt t o = regAt s o

theorem linkGroups_congr (h : SameBelowCounters s t k) (j : Nat) : linkGroups t j = linkGroups s j := by
  unfold linkGroups
  refine List.filter_congr fun g hg => ?_
  have hlow : 0x140 + 4 * g ≠ linkPg (6 + k) + 0x42C := by
    have := List.mem_range.1 hg
    unfold linkPg portPg
    omega
  rw [lgRole, lgLink, fldAt, fldAt, h _ hlow, lgRole, lgLink, fldAt, fldAt]

theorem rxOk_congr (h : SameBelowCounters s t k) (hlanes : t.lanes = s.lanes) (hskewed : (physOf t k).skewed = (physOf s k).skewed) :
    rxOk t k = rxOk s k := by
  have hgroups : ∀ m, linkGroups t m = linkGroups s m := linkGroups_congr h
  have hcount : portLanes t (6 + k) = portLanes s (6 + k) := portLanes_congr hgroups
  have hwire (i : Nat) : wireLane t k i = wireLane s k i := by
    rw [wireLane, flagAt, h _ (by unfold nlkStat; omega), nlkLanes, hcount]
    rfl
  have hlane (i : Nat) : laneOf t (6 + k) i = laneOf s (6 + k) i := laneOf_congr hgroups hlanes i
  have hstat (i : Nat) : flagAt t (laneStat (6 + k) i) 31 = flagAt s (laneStat (6 + k) i) 31 := by
    rw [flagAt, h _ (by unfold laneStat lanePg linkPg portPg; omega)]
    rfl
  refine congrArg mapOf (funext fun i => ?_)
  dsimp only
  rw [hwire, hlane, hstat, hskewed, nlkLanes, nlkLanes, hcount]

end Counter

/-- Discarded control blocks are only counted. -/
theorem ctrlBad_sameBelowCounters (s : State) (k n : Nat) : SameBelowCounters s (ctrlBad s k n) k := by
  intro o ho
  unfold ctrlBad
  split
  · rfl
  · rw [bumpBy, regAt_regPut, if_neg ho]

theorem ctrlBad_lanes (s : State) (k n : Nat) : (ctrlBad s k n).lanes = s.lanes := by unfold ctrlBad; split <;> rfl
theorem ctrlBad_phys (s : State) (k n : Nat) : (ctrlBad s k n).phys = s.phys := by unfold ctrlBad; split <;> rfl
theorem ctrlBad_pwr (s : State) (k n : Nat) : (ctrlBad s k n).pwr = s.pwr := by unfold ctrlBad; split <;> rfl

theorem nlkState_ctrlBad (s : State) (k n : Nat) : nlkState (ctrlBad s k n) k = nlkState s k := by
  rw [nlkState, fldAt, ctrlBad_sameBelowCounters s k n _ (by omega)]
  rfl

theorem rxAwake_of_awake {s : State} {k : Nat} (h : flagAt s (nlkStat k) 8 = false) : rxAwake s k = s := by rw [rxAwake, h]; rfl

/-! ## DETECT and PROBE -/

theorem wakeRx_of_not_sleep {s : State} (h : s.pwr.state ≠ 2) (w : Nat) : wakeRx s w = s := if_neg h

/-- A link that may train. -/
def LinkFree (s : State) (k : Nat) : Prop :=
  portPresent s (6 + k) = true ∧ portDown s (6 + k) = false ∧ lanesFolded s = false ∧ asleep s = false ∧ isOff s = false

section Probe

variable {s : State} {k : Nat}

theorem toProbe_of_signal (h : LinkFree s k) (hst : nlkState s k = 0) {lanes up : List Nat}
    (hup : lanes.filter (fun i => decide (i < nlkLanes s k)) = up) (hsome : up ≠ []) (hmin : minLanes s k ≤ up.length) :
    toProbe s k lanes =
      (let c := (List.range (nlkLanes s k)).foldl (fun s i => laneBegin s (6 + k) i (up.contains i)) s
       let d := physMod c k (fun x => { x with
         cfg := regAt c (linkPg (6 + k) + 0x100), spare := regAt c (linkPg (6 + k) + 0x104), slip := regAt c (linkPg (6 + k) + 0x11C), misses := 0 })
       let e := regPut d (lanePg (6 + k) + 0x304) (regAt d (lanePg (6 + k) + 0x304) &&& 0x40000000#32 ||| 0x08000000#32)
       sendTs (setNlk e k 1) k 0 (physOf e k).cfg (physOf e k).spare (List.range (nlkLanes e k))) := by
  obtain ⟨hpresent, hdown, hfolded, -, -⟩ := h
  have hgate : ¬ (!portPresent s (6 + k) || portDown s (6 + k) || lanesFolded s || nlkState s k != 0 || decide (up.length < minLanes s k) || up.isEmpty) = true := by
    simp [hpresent, hdown, hfolded, hst, hmin, hsome]
  unfold toProbe
  dsimp only
  rw [hup, if_neg hgate]
  rfl

theorem b2n_lanePol (s : State) (p i : Nat) (seen : Bool) : b2n (lanePol s p i seen) =
    if bits (laneOf s p i).cfg 31 30 = 1 then 0 else if bits (laneOf s p i).cfg 31 30 = 2 then 1 else b2n seen := by
  unfold lanePol
  dsimp only
  split
  · rfl
  · split <;> rfl

end Probe

/-! ## AM rows -/

section Am

variable {s : State} {k : Nat} {a : AmRow}

/-- What an aligned row without skewed lanes leaves in ALIGN, before ALIGN is left. -/
def amCounted (s : State) (k : Nat) (a : AmRow) : State :=
  physMod (ctrlBad s k a.bad.val) k (fun x => { x with peerOk := a.rxOk.toNat, amCnt := x.amCnt + 1 })

theorem physOf_ctrlBad (s : State) (k n j : Nat) : physOf (ctrlBad s k n) j = physOf s j := by rw [physOf, ctrlBad_phys]; rfl

theorem physOf_amCounted : physOf (amCounted s k a) k = { physOf s k with peerOk := a.rxOk.toNat, amCnt := (physOf s k).amCnt + 1 } := by
  rw [amCounted, physOf_physMod, if_pos rfl, physOf_ctrlBad]

theorem rxOk_amCounted : rxOk (amCounted s k a) k = rxOk s k :=
  rxOk_congr (t := amCounted s k a) (ctrlBad_sameBelowCounters s k a.bad.val) (ctrlBad_lanes ..) (by rw [physOf_amCounted])

theorem amRx_of_align (hawake : flagAt s (nlkStat k) 8 = false) (hst : nlkState s k = 3) (hskewed : a.skewed = []) (haligned : a.aligned = true) :
    amRx s k a = if 8 ≤ (physOf s k).amCnt + 1 ∧ rxOk s k ≠ 0 then alignDone (amCounted s k a) k (Nat.land (rxOk s k) a.rxOk.toNat)
      else amCounted s k a := by
  have hmod : physMod (ctrlBad s k a.bad.val) k (fun x => { x with
      skewed := a.skewed.foldl (fun l i => setIns i.val l) x.skewed, peerOk := a.rxOk.toNat, amCnt := if a.aligned = true then x.amCnt + 1 else 0 }) =
        amCounted s k a := by
    simp only [hskewed, haligned, List.foldl_nil, if_true]
    rfl
  unfold amRx
  dsimp only
  rw [rxAwake_of_awake hawake, nlkState_ctrlBad, hst, if_pos rfl, hmod, hskewed, List.isEmpty_nil, if_pos rfl, physOf_amCounted, rxOk_amCounted]

theorem amRx_of_active (hawake : flagAt s (nlkStat k) 8 = false) (hst : nlkState s k = 5) :
    amRx s k a = if a.posOk = true then ctrlBad s k a.bad.val
      else pump (physMod (ctrlBad s k a.bad.val) k (fun x => { x with nak := true, drop := true })) k := by
  unfold amRx
  dsimp only
  rw [rxAwake_of_awake hawake, nlkState_ctrlBad, hst, if_neg (by decide)]
  cases a.posOk <;> rfl

end Am

/-! ## Blocks on a lane -/

section Blocks

variable {s : State} {k i : Nat}

theorem eqRx_of_active {b : EqBlock} (hactive : linkActive s k = true) (huse : i < nlkLanes s k) (hgood : b.bad = false) :
    eqRx s k i b =
      (let u := physMod s k (fun x => { x with eqAct := setIns i x.eqAct })
       if minLanes u k ≤ (setIns i (physOf s k).eqAct).length then retrain u k else u) := by
  unfold eqRx
  dsimp only
  rw [hgood, if_neg Bool.false_ne_true, if_neg (Nat.not_le_of_lt huse), if_pos hactive, physOf_physMod, if_pos rfl]

/-- The coefficients that an EQ request asks for are set, or refused with the lane as it is. -/
def eqAsked (s : State) (k i : Nat) (b : EqBlock) : Bool × State :=
  if b.mode.val = 1 then (true, setPreset s (6 + k) i (fldAt s (nlkStat k) 27 24) b.preset.val)
  else eqRequest s (6 + k) i (fldAt s (nlkStat k) 27 24) b.pre.val (48 - b.pre.val - b.post.val) b.post.val

/-- An EQ request has not been answered, and asks for something. -/
abbrev EqAsks (s : State) (k i : Nat) (b : EqBlock) : Prop :=
  b.mode.val ≠ 0 ∧ (physOf s k).eqId.any (fun q => q.1 == i && q.2 == b.id.val) = false

theorem b2n_not (b : Bool) : b2n (!b) = if b = true then 0 else 1 := by cases b <;> rfl

theorem eqRx_of_train {b : EqBlock} (hst : nlkState s k = 2) (huse : i < nlkLanes s k) (hgood : b.bad = false) : eqRx s k i b =
    (let u := if EqAsks s k i b then sendEq (eqAsked s k i b).2 k i b.id.val (b2n (!(eqAsked s k i b).1)) else s
     let v := physMod u k (fun x => { x with
       eqId := if EqAsks s k i b then tabIns x.eqId i b.id.val else x.eqId,
       eqDone := tabPut 0 x.eqDone i (if b.done then tabGet 0 x.eqDone i + 1 else 0) })
     let locked := (List.range (nlkLanes v k)).filter (fun i => (laneOf v (6 + k) i).block)
     if !locked.isEmpty && locked.all (fun i => decide (16 ≤ tabGet 0 (physOf v k).eqDone i)) then
       sendAm (setNlk (physMod v k (fun x => { x with amCnt := 0, skewed := [], amSent := 0 })) k 3) k
     else v) := by
  have hnot : ¬ linkActive s k = true := by rw [linkActive, hst]; decide
  unfold eqRx
  dsimp only
  rw [hgood, if_neg Bool.false_ne_true, if_neg (Nat.not_le_of_lt huse), if_neg hnot, if_neg (Classical.not_not.2 hst)]
  by_cases hasks : EqAsks s k i b
  · have hfresh : (!((physOf s k).eqId.any (fun q => q.1 == i && q.2 == b.id.val)) && b.mode.val != 0) = true := by simp [hasks.1, hasks.2]
    simp only [hfresh, if_pos hasks, if_true]
    rfl
  · have hfresh : (!((physOf s k).eqId.any (fun q => q.1 == i && q.2 == b.id.val)) && b.mode.val != 0) = false := by
      rw [Bool.eq_false_iff]
      intro h
      simp only [Bool.and_eq_true, Bool.not_eq_true', bne_iff_ne] at h
      exact hasks ⟨h.2, h.1⟩
    simp only [hfresh, if_neg hasks, Bool.false_eq_true, if_false]

/-- The lane cells of a port do not follow from a lane's status. -/
theorem laneOf_fldPut_laneStat (s : State) (k i j hi lo v : Nat) : laneOf (fldPut s (laneStat (6 + k) i) hi lo v) (6 + k) j = laneOf s (6 + k) j := by
  have hgroups (m : Nat) : linkGroups (fldPut s (laneStat (6 + k) i) hi lo v) m = linkGroups s m := by
    unfold linkGroups
    refine List.filter_congr fun g hg => ?_
    have hlow : 0x140 + 4 * g ≠ laneStat (6 + k) i := by
      have := List.mem_range.1 hg
      unfold laneStat lanePg portPg
      omega
    rw [lgRole, lgLink, fldAt, fldAt, regAt_fldPut, if_neg hlow, lgRole, lgLink, fldAt, fldAt]
  exact laneOf_congr hgroups rfl j

theorem adaptOn_fldPut_laneStat {i : Nat} (h : i < 32) (s : State) (k hi lo v : Nat) (locked : Bool) :
    adaptOn (fldPut s (laneStat (6 + k) i) hi lo v) (6 + k) i locked = adaptOn s (6 + k) i locked := by
  have hother : lanePg (6 + k) + 0x320 + 4 * laneGroupAt i ≠ laneStat (6 + k) i := by
    unfold laneStat laneGroupAt
    omega
  rw [adaptOn, laneLimp, fldAt, regAt_fldPut, if_neg hother, laneOf_fldPut_laneStat]
  rfl

theorem blockLock_of_use (huse : i < nlkLanes s k) (hi : i < 32) : blockLock s k i =
    (let u := fldPut (laneMod s (6 + k) i (fun x => { x with
       block := true, gained := if flagAt s (laneStat (6 + k) i) 31 then x.gained else s.time.toNat })) (laneStat (6 + k) i) 31 31 1
     setAdapt u (6 + k) i (adaptOn u (6 + k) i true)) := by
  unfold blockLock
  dsimp only
  rw [if_pos huse, adaptOn_fldPut_laneStat hi]

theorem slipLane_of_mode (huse : i < nlkLanes s k) (hst : nlkState s k ≤ 1)
    (hmode : (if nlkState s k = 0 then flagAt s (linkPg (6 + k) + 0x11C) 0 else bitOf (physOf s k).slip 0) = true) :
    slipLane s k i = laneMod s (6 + k) i (fun y => { y with slip := (y.slip + 1) % 258 }) := by
  unfold slipLane
  dsimp only
  rw [hmode, decide_eq_true hst, decide_eq_true huse]
  rfl

theorem stateTimeout_probe (h : nlkState s k = 1) :
    stateTimeout s k = trainFail s k (if (physOf s k).tsLane.length < minLanes s k then 5 else 1) := by simp only [stateTimeout, h]
theorem stateTimeout_train (h : nlkState s k = 2) : stateTimeout s k = trainFail s k (if flagAt s (nlkStat k) 10 then 9 else 6) := by
  simp only [stateTimeout, h]
theorem stateTimeout_align (h : nlkState s k = 3) : stateTimeout s k = trainFail s k (if flagAt s (nlkStat k) 10 then 9 else 7) := by
  simp only [stateTimeout, h]
theorem stateTimeout_linkup (h : nlkState s k = 4) : stateTimeout s k = trainFail s k 8 := by simp only [stateTimeout, h]

end Blocks

/-- Settles O41: each command is its state's branch. -/
theorem nicenTrainingCompletes : Obligations.NicenTrainingCompletes := by
  unfold Obligations.NicenTrainingCompletes
  intro s k i t b a lanes p x o st use free up ts
  refine ⟨fun hfree hst => ?burst, fun hfree hst hsome hmin => ?detect, fun hquiet => ?quiet, fun hbad => ?tsBad, fun hst huse hgood => ?ts,
    fun hbad => ?eqBad, fun hst huse hgood => ?eqTrain, fun hactive huse hgood => ?eqActive, fun hawake => ?am, ?timeout, fun hst => ?down,
    fun huse => ?lock, fun hblock => ?lockLoss, fun huse hst hmode => ?slipDetect, fun huse hst hmode => ?slipProbe⟩
  case burst =>
    obtain ⟨hpresent, hdown, hfolded, hawake, hon⟩ := hfree
    refine congrArg finish (if_pos ?_)
    rw [show nlkState s k.val = 0 from hst, hpresent, hdown, hfolded, hawake, hon]
    rfl
  case detect =>
    obtain ⟨hpresent, hdown, hfolded, hawake, hon⟩ := hfree
    have hsleep : s.pwr.state ≠ 2 := fun h => by simp [asleep, h] at hawake
    have hrx : (if lanes.isEmpty then s else wakeRx s (13 + k.val)) = s := by rw [wakeRx_of_not_sleep hsleep, ite_self]
    have hgate : ¬ (asleep s || isOff s) = true := by simp [hawake, hon]
    show finish _ = _
    rw [hrx, if_neg hgate, toProbe_of_signal ⟨hpresent, hdown, hfolded, hawake, hon⟩ hst (up := up) rfl hsome hmin]
    rfl
  case quiet =>
    have hsleep : s.pwr.state ≠ 2 := by
      rcases hquiet with h | h
      · omega
      · simp only [isOff, beq_iff_eq] at h; omega
    have hgate : (asleep s || isOff s) = true := by
      rcases hquiet with h | h
      · simp [asleep, h]
      · simp [h]
    have hrx : (if lanes.isEmpty then s else wakeRx s (13 + k.val)) = s := by rw [wakeRx_of_not_sleep hsleep, ite_self]
    refine ⟨congrArg finish (if_neg fun h => ?_), ?_⟩
    · simp only [Bool.and_eq_true, Bool.not_eq_true'] at h
      simp [h.1.2, h.2] at hgate
    · show finish _ = _
      rw [hrx, if_pos hgate]
      rfl
  case tsBad =>
    show finish (tsRx s k.val i.val t) = _
    rw [tsRx, if_pos hbad]
    rfl
  case ts =>
    have hplace : ¬ (nlkState s k.val ≠ 1 ∨ nlkLanes s k.val ≤ i.val) := by omega
    have hbad : ¬ t.bad = true := by rw [hgood]; exact Bool.false_ne_true
    have hrx : exec (.tsBlockRx k i t) s = finish (tsRx s k.val i.val t) := rfl
    refine ⟨fun hlanes => ?_, fun hlanes hspares => ?_, fun hlanes hspares hversion => ?_, fun hlanes hspares hversion => ?_⟩
    · rw [hrx, tsRx, if_neg hbad, if_neg hplace, if_pos hlanes]
      rfl
    · rw [hrx, tsRx, if_neg hbad, if_neg hplace, if_neg (Classical.not_not.2 hlanes), if_pos hspares]
      rfl
    · rw [hrx, tsRx, if_neg hbad, if_neg hplace, if_neg (Classical.not_not.2 hlanes), if_neg (Classical.not_not.2 hspares), if_pos hversion]
      rfl
    · rw [hrx, tsRx, if_neg hbad, if_neg hplace, if_neg (Classical.not_not.2 hlanes), if_neg (Classical.not_not.2 hspares), if_neg (Classical.not_not.2 hversion), b2n_lanePol]
      rfl
  case eqBad =>
    show finish (eqRx s k.val i.val b) = _
    rw [eqRx, if_pos hbad]
    rfl
  case eqTrain =>
    have hstatus : sendEq (eqAsked s k.val i.val b).2 k.val i.val b.id.val (b2n (!(eqAsked s k.val i.val b).1)) =
        if b.mode.val = 1 then sendEq (setPreset s p i.val (fldAt s (nlkStat k.val) 27 24) b.preset.val) k.val i.val b.id.val 0
        else
          let q := eqRequest s p i.val (fldAt s (nlkStat k.val) 27 24) b.pre.val (48 - b.pre.val - b.post.val) b.post.val
          sendEq q.2 k.val i.val b.id.val (if q.1 = true then 0 else 1) := by
      rw [b2n_not]
      unfold eqAsked
      split <;> rfl
    show finish (eqRx s k.val i.val b) = _
    rw [eqRx_of_train hst huse hgood, hstatus]
    rfl
  case eqActive => exact congrArg finish (eqRx_of_active hactive huse hgood)
  case am =>
    refine ⟨fun hst hskewed haligned hfew => ?_, fun hst hskewed haligned hmany hok => ?_, fun hst hpos => ?_, fun hst hpos => ?_⟩
    · show finish (amRx s k.val a) = _
      rw [amRx_of_align hawake hst hskewed haligned, if_neg (fun h => absurd h.1 (Nat.not_le_of_lt hfew))]
      rfl
    · show finish (amRx s k.val a) = _
      rw [amRx_of_align hawake hst hskewed haligned, if_pos ⟨hmany, hok⟩]
      rfl
    · show finish (amRx s k.val a) = _
      rw [amRx_of_active hawake hst, if_pos hpos]
      rfl
    · show finish (amRx s k.val a) = _
      rw [amRx_of_active hawake hst, if_neg (by rw [hpos]; exact Bool.false_ne_true)]
      rfl
  case timeout =>
    refine ⟨fun hst => ?_, fun hst => ?_, fun hst => ?_, fun hst => ?_⟩ <;> refine congrArg finish ?_
    · exact stateTimeout_probe hst
    · exact stateTimeout_train hst
    · exact stateTimeout_align hst
    · exact stateTimeout_linkup hst
  case down => exact congrArg finish (if_neg hst)
  case lock => exact congrArg finish (blockLock_of_use huse i.isLt)
  case lockLoss => exact congrArg finish (if_pos hblock)
  case slipDetect => exact congrArg finish (slipLane_of_mode huse (by omega) (by rw [if_pos hst]; exact hmode))
  case slipProbe => exact congrArg finish (slipLane_of_mode huse (by omega) (by rw [if_neg (by omega)]; exact hmode))

end Sys2Proof.Machine
end

section
/-! The laws of the time unit's measurements (R445, R446) and of the AVS loop and the votes (R490, R500). -/

namespace Sys2Proof.Machine

open Sys2Proof.Spec

/-! ## Measurements -/

section Measure

variable {s : State} {th : Int}

theorem timState_fldPut_same (s : State) (v : Nat) (hv : v < 8) : timState (setTimState s v) = v := by
  rw [timState, fldAt, setTimState, regAt_fldPut, if_pos rfl, bits_setBits_same _ 31 29 _ (by decide) (by decide)]
  exact Nat.mod_eq_of_lt hv

theorem timState_of_sourceOk (s : State) (v : Nat) : timState (fldPut s (timPg + 0x140) 24 24 v) = timState s := by
  rw [timState, fldAt, regAt_fldPut, if_pos rfl, bits_setBits_other _ 24 24 _ _ _ (by decide) (by decide)]
  rfl

theorem timState_setEvt (s : State) (i : Nat) : timState (setEvt s timPg i) = timState s := by
  rw [timState, fldAt, regAt_setEvt, if_neg (by decide)]
  rfl

/-- The state of a unit that loses a used source by outliers while it is LOCKED. -/
theorem sourceLost_of_outliers (hlocked : timState s = 2) (hsource : timSource s ≠ 0) (hused : s.tim.used = true) :
    sourceLost s true = setEvt (setEvt (setTimState (timMod (fldPut s (timPg + 0x140) 24 24 0)
      (fun x => { x with good := 0, outs := 0, steady := 0, fault := true })) 3) timPg 9) timPg 11 := by
  have hsource' : timSource (fldPut s (timPg + 0x140) 24 24 0) ≠ 0 := by
    rw [timSource, fldAt, regAt_fldPut, if_neg (by decide)]
    exact hsource
  have hgate : ¬ (timSource (fldPut s (timPg + 0x140) 24 24 0) = 0 ∨ (!(fldPut s (timPg + 0x140) 24 24 0).tim.used) = true ∨
      timState (fldPut s (timPg + 0x140) 24 24 0) = 3) := by
    rw [fldPut_tim, timState_of_sourceOk, hlocked, hused]
    simp [hsource']
  unfold sourceLost
  dsimp only
  rw [if_neg hgate, if_pos rfl]

/-- The unit with its latest measurement noted. -/
def withMeasurement (s : State) (th : Int) : State := timMod s (fun x => { x with used := true, last := th })

theorem measure_of_locked (hlocked : timState s = 2) : measure s th =
    if th.natAbs ≤ 6400 then timMod (sourceOk (withMeasurement s th)) (fun x => { x with outs := 0 })
    else if 3 ≤ s.tim.outs then sourceLost (withMeasurement s th) true
    else timMod (withMeasurement s th) (fun x => { x with outs := x.outs + 1 }) := by
  unfold measure
  dsimp only
  rw [if_pos hlocked]
  rfl

end Measure

/-- Settles O48: the branches of a LOCKED unit, read. -/
theorem lockedMeasurementsFollowTheRule : Obligations.LockedMeasurementsFollowTheRule := by
  unfold Obligations.LockedMeasurementsFollowTheRule
  intro s th hlocked hsource t
  have ht : t = _ := measure_of_locked hlocked
  refine ⟨fun hin => ?inside, fun hout hfew => ?outside, fun hout hmany => ?fourth⟩
  case inside =>
    rw [ht, if_pos hin]
    exact ⟨(timState_of_sourceOk ..).trans hlocked, rfl⟩
  case outside =>
    rw [ht, if_neg (Nat.not_le_of_lt hout), if_neg (Nat.not_le_of_lt hfew)]
    exact ⟨hlocked, rfl⟩
  case fourth =>
    rw [ht, if_neg (Nat.not_le_of_lt hout), if_pos hmany, sourceLost_of_outliers (s := withMeasurement s th) hlocked hsource rfl]
    refine ⟨?_, ?_, ?_, flagAt_setEvt_same _ _ (by decide)⟩
    · rw [timState_setEvt, timState_setEvt, timState_fldPut_same _ 3 (by decide)]
    · rw [setEvt_tim, setEvt_tim]
      rfl
    · rw [flagAt, regAt_setEvt, if_pos rfl, bitOf_eq, BitVec.getLsbD_or, ← bitOf_eq]
      rw [show bitOf (regAt _ (timPg + 0x010)) 9 = true from flagAt_setEvt_same _ timPg (by decide)]
      rfl

/-! ## The AVS loop and the votes -/

theorem clampTo_bounds {x lo hi a b : Nat} (hlo : a ≤ lo ∧ lo ≤ b) (hhi : a ≤ hi ∧ hi ≤ b) : a ≤ clampTo x lo hi ∧ clampTo x lo hi ≤ b := by
  unfold clampTo
  omega

theorem foldl_min_le (l : List Nat) (a : Nat) : l.foldl min a ≤ a ∧ ∀ v ∈ l, l.foldl min a ≤ v := by
  induction l generalizing a with
  | nil => exact ⟨Nat.le_refl a, fun v hv => absurd hv List.not_mem_nil⟩
  | cons w l ih =>
    obtain ⟨hstart, hmem⟩ := ih (min a w)
    refine ⟨Nat.le_trans hstart (Nat.min_le_left a w), fun v hv => ?_⟩
    rcases List.mem_cons.1 hv with rfl | hv
    · exact Nat.le_trans hstart (Nat.min_le_right a v)
    · exact hmem v hv

theorem foldl_min_mem (l : List Nat) (a : Nat) : l.foldl min a = a ∨ l.foldl min a ∈ l := by
  induction l generalizing a with
  | nil => exact .inl rfl
  | cons w l ih =>
    rw [List.foldl_cons]
    rcases ih (min a w) with h | h
    · rcases Nat.le_total a w with haw | hwa
      · exact .inl (h.trans (Nat.min_eq_left haw))
      · exact .inr (List.mem_cons.2 (.inl (h.trans (Nat.min_eq_right hwa))))
    · exact .inr (List.mem_cons_of_mem w h)

theorem pwr_ite_emit (c : Prop) [Decidable c] (t : State) (e : Emit) : (if c then t else emit t e).pwr = t.pwr := by split <;> rfl

/-- Where the loop does not hold, it commands what it did or a value clamped to the range. -/
theorem avsStep_cmd_bounds (s : State) (slack mv : Nat) (hlo : 650 ≤ s.pwr.cmd) (hhi : s.pwr.cmd ≤ 850) :
    650 ≤ (avsStep s slack mv).pwr.cmd ∧ (avsStep s slack mv).pwr.cmd ≤ 850 := by
  have hlimit (x : Nat) : 650 ≤ clampTo x 650 850 ∧ clampTo x 650 850 ≤ 850 := clampTo_bounds (by omega) (by omega)
  unfold avsStep
  dsimp only
  split
  · exact ⟨hlo, hhi⟩
  · split
    · exact ⟨hlo, hhi⟩
    · rw [pwr_ite_emit]
      exact clampTo_bounds (hlimit _) (hlimit _)

/-- Settles O50: a command is kept or clamped; the vote is a least element. -/
theorem powerRulesHold : Obligations.PowerRulesHold := by
  unfold Obligations.PowerRulesHold
  refine ⟨avsStep_cmd_bounds, fun s => ⟨(foldl_min_le (votes s) 3).2, foldl_min_mem (votes s) 3, ?count, fun hnone => ?none⟩⟩
  case count => simp [votes]
  case none =>
    rcases foldl_min_mem (votes s) 3 with h | h
    · exact h
    · have hfour : voteLevel s = 4 := hnone _ h
      have hthree : voteLevel s ≤ 3 := (foldl_min_le (votes s) 3).1
      omega

end Sys2Proof.Machine
end

section
/-! What the handling of a link down, of a lost deck, of an ended request and of a fold leaves alone: table time, the ECC patterns that are armed,
the registers with a parity mismatch, and House firmware. A table soft reset (R587, R589) is made of the first three. -/

namespace Sys2Proof.Machine

open Sys2Proof.Spec

/-- Table time, the armed ECC patterns, the registers with a parity mismatch, and House firmware. -/
def steady (s : State) : BitVec 64 × List (Nat × Nat) × List Nat × House := (s.time, s.xlt.inject, s.parLive, s.house)

theorem steady_foldl {α : Type} {f : State → α → State} (h : ∀ s a, steady (f s a) = steady s) (l : List α) (s : State) :
    steady (l.foldl f s) = steady s := by
  induction l generalizing s with
  | nil => rfl
  | cons a l ih => exact (ih (f s a)).trans (h s a)

/-! ## Basic updates -/

@[simp] theorem steady_regPut (s : State) (o : Nat) (v : Word) : steady (regPut s o v) = steady s := rfl
@[simp] theorem steady_fldPut (s : State) (o hi lo v : Nat) : steady (fldPut s o hi lo v) = steady s := rfl
@[simp] theorem steady_bump (s : State) (o : Nat) : steady (bump s o) = steady s := rfl
@[simp] theorem steady_hwSetBits (s : State) (o : Nat) (m : Word) : steady (hwSetBits s o m) = steady s := rfl
@[simp] theorem steady_setEvt (s : State) (pg i : Nat) : steady (setEvt s pg i) = steady s := rfl
@[simp] theorem steady_emit (s : State) (e : Emit) : steady (emit s e) = steady s := rfl
@[simp] theorem steady_seatMod (s : State) (n : Nat) (f : Seat → Seat) : steady (seatMod s n f) = steady s := rfl
@[simp] theorem steady_linkTxMod (s : State) (k : Nat) (f : LinkTx → LinkTx) : steady (linkTxMod s k f) = steady s := rfl
@[simp] theorem steady_fnMod (s : State) (f : Nat) (g : Fn → Fn) : steady (fnMod s f g) = steady s := rfl
@[simp] theorem steady_cfgPut (s : State) (f o : Nat) (v : Word) : steady (cfgPut s f o v) = steady s := rfl
@[simp] theorem steady_queueMod (s : State) (k : Nat) (g : Queue → Queue) : steady (queueMod s k g) = steady s := rfl
@[simp] theorem steady_runMod (s : State) (k i : Nat) (g : Run → Run) : steady (runMod s k i g) = steady s := rfl
@[simp] theorem steady_talonMod (s : State) (g : Talon → Talon) : steady (talonMod s g) = steady s := rfl
@[simp] theorem steady_physMod (s : State) (k : Nat) (g : LinkPhy → LinkPhy) : steady (physMod s k g) = steady s := rfl
@[simp] theorem steady_deckMod (s : State) (d : Nat) (g : Deck → Deck) : steady (deckMod s d g) = steady s := rfl
@[simp] theorem steady_crpMod (s : State) (g : Croupier → Croupier) : steady (crpMod s g) = steady s := rfl
@[simp] theorem steady_engMod (s : State) (e : Nat) (g : Eng → Eng) : steady (engMod s e g) = steady s := rfl
@[simp] theorem steady_storeMod (s : State) (g : Store → Store) : steady (storeMod s g) = steady s := rfl
@[simp] theorem steady_intrMod (s : State) (g : Intr → Intr) : steady (intrMod s g) = steady s := rfl
@[simp] theorem steady_lcsMod (s : State) (g : LifeCycle → LifeCycle) : steady (lcsMod s g) = steady s := rfl

@[simp] theorem steady_laneMod (s : State) (p i : Nat) (g : Lane → Lane) : steady (laneMod s p i g) = steady s := by
  unfold laneMod
  cases laneCell s p i <;> rfl

/-! ## Cards and transactions -/

@[simp] theorem steady_toFlight (s : State) (a : Acct) (n k : Nat) : steady (toFlight s a n k) = steady s := by cases a <;> rfl
@[simp] theorem steady_releaseCards (s : State) (f n k : Nat) : steady (releaseCards s f n k) = steady s := rfl
@[simp] theorem steady_useReserve (s : State) (f n : Nat) : steady (useReserve s f n) = steady s := rfl

@[simp] theorem steady_freeCredits (s : State) (p : Nat) (l : Option (Nat × Nat)) : steady (freeCredits s p l) = steady s := by
  unfold freeCredits
  split
  · rfl
  · split <;> rfl

@[simp] theorem steady_enqueue (s : State) (x : Xact) : steady (enqueue s x) = steady s := by
  unfold enqueue
  dsimp only
  split <;> rfl

@[simp] theorem steady_creditMove (s : State) (x : Xact) (spend : Bool) : steady (creditMove s x spend) = steady s := by
  unfold creditMove
  dsimp only
  split
  · rfl
  · split <;> rfl

@[simp] theorem steady_burnXact (s : State) (x : Xact) : steady (burnXact s x) = steady s := by
  have hgone (t : State) (ht : steady t = steady s) :
      steady (toFlight t x.acct (x.cards - x.dealt) x.kit) = steady s := (steady_toFlight ..).trans ht
  have hcards : steady (if x.dealt = 0 then s else creditMove s x false) = steady s := by split <;> simp
  unfold burnXact
  dsimp only
  split <;> simp [hgone _ hcards]

@[simp] theorem steady_burnXacts (s : State) (p : Xact → Bool) : steady (burnXacts s p) = steady s :=
  steady_foldl steady_burnXact _ _

/-! ## What leaves on a link -/

@[simp] theorem steady_frameOut (s : State) (k seq : Nat) (empty : Bool) (data : List Byte) : steady (frameOut s k seq empty data) = steady s := by
  unfold frameOut
  dsimp only
  split <;> rfl

@[simp] theorem steady_sendFrame (s : State) (k : Nat) : steady (sendFrame s k) = steady s := by simp [sendFrame]

@[simp] theorem steady_sendFrames (n : Nat) (s : State) (k : Nat) : steady (sendFrames n s k) = steady s := by
  induction n generalizing s with
  | zero => rfl
  | succ n ih => rw [sendFrames, ih, steady_sendFrame]

@[simp] theorem steady_pump (s : State) (k : Nat) : steady (pump s k) = steady s := by
  unfold pump
  dsimp only
  split
  · split <;> simp
  · rfl

@[simp] theorem steady_nicenPut (s : State) (k : Nat) (x : Txn) : steady (nicenPut s k x) = steady s := by simp [nicenPut]

@[simp] theorem steady_sendTlp (s : State) (n : Nat) (t : Tlp) : steady (sendTlp s n t) = steady s := by
  unfold sendTlp sentFlit
  exact (steady_foldl (fun t b => steady_seatMod ..) _ _).trans (steady_emit ..)

@[simp] theorem steady_errCpl (s : State) (n f tag status src : Nat) (a : Acct) (kit : Nat) (l : Option (Nat × Nat)) :
    steady (errCpl s n f tag status src a kit l) = steady s := by
  unfold errCpl
  dsimp only
  split
  · simp
  · split <;> simp

@[simp] theorem steady_linkAnswer (s : State) (k src f : Nat) (a : Acct) (kit : Nat) (l : Option (Nat × Nat)) (y : Txn) :
    steady (linkAnswer s k src f a kit l y) = steady s := by
  unfold linkAnswer
  dsimp only
  split
  · simp
  · split <;> simp

/-! ## Reports -/

@[simp] theorem steady_aerFirst (s : State) (f : Nat) (e : AerErr) : steady (aerFirst s f e) = steady s := by
  unfold aerFirst
  dsimp only
  split <;> rfl

@[simp] theorem steady_aer (s : State) (f : Nat) (e : AerErr) : steady (aer s f e) = steady s := by
  unfold aer
  dsimp only
  cases aerLevel s f e <;> simp

@[simp] theorem steady_deckReport (s : State) (d op result viol rule code at_ : Nat) :
    steady (deckReport s d op result viol rule code at_) = steady s := rfl

@[simp] theorem steady_deckUnbusy (s : State) (d : Nat) : steady (deckUnbusy s d) = steady s := rfl

@[simp] theorem steady_deckClear (s : State) (d : Nat) : steady (deckClear s d) = steady s := by
  unfold deckClear
  dsimp only
  split <;> rfl

@[simp] theorem steady_deckAbandon (s : State) (d op : Nat) : steady (deckAbandon s d op) = steady s := by
  unfold deckAbandon
  split
  · rfl
  · split
    · rfl
    · simp

@[simp] theorem steady_deckLoseSeat (s : State) (n : Nat) : steady (deckLoseSeat s n) = steady s :=
  steady_foldl (fun s d => by split <;> simp) _ _

/-! ## Requests end -/

@[simp] theorem steady_endCards (s : State) (e : TagEnt) : steady (endCards s e) = steady s := by unfold endCards; split <;> rfl

@[simp] theorem steady_keepCard (s : State) (e : TagEnt) : steady (keepCard s e).2 = steady s := by unfold keepCard; split <;> rfl

@[simp] theorem steady_hrdHold (s : State) (k tag : Nat) (e : TagEnt) : steady (hrdHold s k tag e) = steady s := by unfold hrdHold; split <;> simp

@[simp] theorem steady_hrdAnswer (s : State) (k tag f status reason : Nat) : steady (hrdAnswer s k tag f status reason) = steady s := by
  unfold hrdAnswer
  split <;> simp

@[simp] theorem steady_runErr (s : State) (k i o status reason : Nat) : steady (runErr s k i o status reason) = steady s := by simp [runErr]

@[simp] theorem steady_framesLost (s : State) (k : Nat) : steady (framesLost s k) = steady s :=
  steady_foldl (fun _ _ => steady_foldl (fun _ _ => by split <;> simp) _ _) _ _

@[simp] theorem steady_fetchFail (s : State) (k i cnt : Nat) : steady (fetchFail s k i cnt) = steady s := by unfold fetchFail; split <;> rfl

@[simp] theorem steady_logLost (s : State) (f : Nat) : steady (logLost s f) = steady s := rfl

@[simp] theorem steady_loseSer (s : State) (f ser : Nat) : steady (loseSer s f ser) = steady s := by unfold loseSer; split <;> rfl

@[simp] theorem steady_loseLine (s : State) (d : DirtyLine) : steady (loseLine s d) = steady s := by simp [loseLine]

@[simp] theorem steady_endSeatReq (s : State) (e : TagEnt) (x : Ending) : steady (endSeatReq s e x) = steady s := by
  unfold endSeatReq
  split
  case h_1 => cases x <;> simp
  case h_2 => cases x <;> simp
  case h_3 => cases x <;> simp
  case h_4 => cases x <;> simp
  case h_5 => exact steady_endCards s e
  case h_6 => exact steady_endCards s e

@[simp] theorem steady_endLinkReq (s : State) (e : TagEnt) (x : Ending) : steady (endLinkReq s e x) = steady s := by
  unfold endLinkReq
  split
  case h_1 => cases x <;> simp
  case h_2 => simp
  case h_3 => cases x <;> simp
  case h_4 => exact steady_endCards s e

@[simp] theorem steady_burnAfter (s : State) (x : Xact) (e : Ending) : steady (burnAfter s x e) = steady s := by
  unfold burnAfter
  dsimp only
  split
  case h_7 => split <;> simp
  all_goals simp

@[simp] theorem steady_burnAll (s : State) (p : Xact → Bool) (e : Ending) : steady (burnAll s p e) = steady s := by
  have hone (s : State) (x : Xact) : steady (burnAfter (match x.ask with
      | some a => if x.dst < 6 then endSeatReq s { a with cards := 0, kit := 0 } e else endLinkReq s { a with cards := 0, kit := 0 } e
      | none => s) x e) = steady s := by
    rw [steady_burnAfter]
    cases x.ask with
    | none => rfl
    | some a => dsimp only; split <;> simp
  exact (steady_foldl hone _ _).trans (steady_burnXacts s p)

/-! ## Links go down -/

@[simp] theorem steady_downSeatTags (s : State) (n : Nat) : steady (downSeatTags s n) = steady s := by
  unfold downSeatTags freeTag
  exact steady_foldl (fun _ _ => (steady_endSeatReq ..).trans (steady_seatMod ..)) _ _

@[simp] theorem steady_downLinkTags (s : State) (k : Nat) : steady (downLinkTags s k) = steady s := by
  unfold downLinkTags freeLinkTag
  exact steady_foldl (fun _ _ => (steady_endLinkReq ..).trans (steady_linkTxMod ..)) _ _

@[simp] theorem steady_seatAlert (s : State) (n : Nat) : steady (seatAlert s n) = steady s := rfl
@[simp] theorem steady_ideZeroize (s : State) (n : Nat) : steady (ideZeroize s n) = steady s := rfl
@[simp] theorem steady_ptmStale (s : State) (n : Nat) : steady (ptmStale s n) = steady s := by unfold ptmStale; dsimp only; split <;> rfl

@[simp] theorem steady_seatLinkDown (s : State) (n c : Nat) : steady (seatLinkDown s n c) = steady s := by
  unfold seatLinkDown
  dsimp only
  split
  · split <;> simp
  · rfl

@[simp] theorem steady_lanesDown (s : State) (p : Nat) : steady (lanesDown s p) = steady s :=
  (steady_regPut ..).trans (steady_foldl (fun _ _ => by split <;> simp) _ _)

@[simp] theorem steady_nlkDown (s : State) (k why : Nat) : steady (nlkDown s k why) = steady s := by
  unfold nlkDown
  show steady (if _ then setEvt (physMod (linkTxMod (fldPut (framesLost _ _) _ _ _ _) _ _) _ _) _ _
    else physMod (linkTxMod (fldPut (framesLost _ _) _ _ _ _) _ _) _ _) = _
  split <;> simp

theorem steady_sendRow (s : State) (k kind : Nat) (fields : List Byte) : steady (sendRow s k kind fields) = steady s := rfl

@[simp] theorem steady_sendDown (s : State) (k why : Nat) : steady (sendDown s k why) = steady s := by
  rw [sendDown, steady_foldl]
  intro t _
  exact steady_sendRow t k 0x24 (natLe 1 why)

@[simp] theorem steady_toDetect (s : State) (k why : Nat) : steady (toDetect s k why) = steady s := by simp [toDetect]
@[simp] theorem steady_driveRst (s : State) (k : Nat) (a : Bool) : steady (driveRst s k a) = steady s := by unfold driveRst; split <;> rfl

/-! ## The parts of a soft reset -/

@[simp] theorem steady_indEnd (s : State) (n st : Nat) : steady (indEnd s n st) = steady s := rfl
@[simp] theorem steady_showEng (s : State) (e st : Nat) : steady (showEng s e st) = steady s := rfl
@[simp] theorem steady_loadEnd (s : State) (st : Nat) : steady (loadEnd s st) = steady s := rfl
@[simp] theorem steady_releaseClaims (s : State) (t : Nat) : steady (releaseClaims s t) = steady s := rfl

@[simp] theorem steady_softSeat (s : State) (n : Nat) : steady (softSeat s n) = steady s := by
  rw [softSeat, steady_seatMod, steady_releaseClaims, steady_regPut, steady_lanesDown, steady_seatLinkDown]
@[simp] theorem steady_softLink (s : State) (k : Nat) : steady (softLink s k) = steady s := by
  rw [softLink, steady_driveRst, steady_toDetect]
  split
  · rfl
  · exact steady_sendDown s k 0

/-! ## Folds -/

@[simp] theorem steady_endSeatTags (s : State) (n : Nat) (p : TagEnt → Bool) (x : Ending) : steady (endSeatTags s n p x) = steady s := by
  unfold endSeatTags quarTag
  exact steady_foldl (fun _ _ => (steady_endSeatReq ..).trans (steady_seatMod ..)) _ _

@[simp] theorem steady_endLinkTags (s : State) (k : Nat) (p : TagEnt → Bool) (x : Ending) : steady (endLinkTags s k p x) = steady s := by
  unfold endLinkTags quarLinkTag
  exact steady_foldl (fun _ _ => (steady_endLinkReq ..).trans (steady_linkTxMod ..)) _ _

@[simp] theorem steady_burnTags (s : State) (k i : Nat) (pick : TagEnt → Bool) (x : Ending) : steady (burnTags s k i pick x) = steady s :=
  (steady_linkTxMod ..).trans (steady_endLinkTags ..)

@[simp] theorem steady_foldBurn (s : State) (n : Nat) : steady (foldBurn s n) = steady s :=
  steady_foldl (fun _ _ => by split <;> simp) _ _

@[simp] theorem steady_sendFold (s : State) (seat scope state : Nat) (only : Option Nat) : steady (sendFold s seat scope state only) = steady s := by
  rw [sendFold, steady_foldl]
  intro t k
  split
  · rw [steady_nicenPut]
    split
    · rw [steady_bump, steady_linkTxMod]
    · rw [steady_linkTxMod]
  · rfl

@[simp] theorem steady_foldQueues (s : State) (n : Nat) : steady (foldQueues s n) = steady s := rfl
@[simp] theorem steady_faultRec (s : State) : steady (faultRec s) = steady s := rfl

@[simp] theorem steady_foldWork (s : State) (p : Nat) : steady (foldWork s p) = steady s := by
  unfold foldWork
  dsimp only
  split <;> simp

@[simp] theorem steady_foldPort (s : State) (p cause : Nat) : steady (foldPort s p cause) = steady s := by
  unfold foldPort
  split
  · split <;> rfl
  · dsimp only
    rw [steady_faultRec, steady_foldWork]
    rfl

@[simp] theorem steady_linksIdle (s : State) (cause : Nat) : steady (linksIdle s cause) = steady s := by
  unfold linksIdle
  split
  · exact steady_foldl (fun t p => by split <;> simp) _ _
  · rfl

@[simp] theorem steady_tableWork (s : State) (p : Nat) : steady (tableWork s p) = steady s := by
  unfold tableWork
  dsimp only
  split <;> simp

@[simp] theorem steady_foldTable (s : State) (cause : Nat) : steady (foldTable s cause) = steady s := by
  unfold foldTable
  split
  · rw [steady_linksIdle]
    split <;> rfl
  · dsimp only
    rw [steady_faultRec, steady_foldl (fun t p => steady_tableWork t p), steady_sendFold, steady_linksIdle, steady_foldl (fun t p => ?_)]
    · rfl
    · rfl

@[simp] theorem steady_faultLog (s : State) (cause port off : Nat) (inj : Bool) : steady (faultLog s cause port off inj) = steady s := by
  have hhold (u : State) (o ovf : Nat) (held : Bool) (v : Word) : steady (logHold u o ovf held v) = steady u := by
    unfold logHold
    split <;> rfl
  have hoff (u : State) (held : Bool) (o : Nat) (v : Word) : steady (if held then u else regPut u o v) = steady u := by split <;> rfl
  have hbump (u : State) (o : Nat) : steady (if inj then bump u o else u) = steady u := by split <;> rfl
  unfold faultLog
  dsimp only
  rw [hbump, steady_hwSetBits, hoff, hhold]

@[simp] theorem steady_faultPage (s : State) (cause off i : Nat) (inj : Bool) : steady (faultPage s cause off i inj) = steady s := by
  have hcause (old t : State) (p cause pg : Nat) : steady (foldCause old t p cause pg i) = steady t := by
    unfold foldCause
    split <;> rfl
  unfold faultPage faultTable faultPort
  dsimp only
  split
  · simp
  · rw [hcause]
    simp

@[simp] theorem steady_raiseErr (s : State) (pg i : Nat) : steady (raiseErr s pg i) = steady s := by
  unfold raiseErr raiseErrBy
  dsimp only
  split
  · rw [steady_faultPage]
    rfl
  · split <;> rfl

end Sys2Proof.Machine
end

section
/-! The laws of resets (R529, R530, R573, R574, R587 to R589). -/

namespace Sys2Proof.Machine

open Sys2Proof.Spec

/-- Driving FAULT_N touches the pins and what is reported alone. -/
theorem drivePins_eq (s : State) : ∃ p o, drivePins s = { s with pins := p, out := o } := by
  unfold drivePins
  split
  · exact ⟨s.pins, s.out, rfl⟩
  · exact ⟨_, _, rfl⟩

/-! ## What the pins and a torn batch leave alone -/

/-- `t` has the life cycle, the store and the queue of `s`, the grade of the part and the ring's place. -/
structure PartKept (s t : State) : Prop where
  lcs : t.lcs = s.lcs
  store : t.store = s.store
  pending : t.pending = s.pending
  regs : ∀ o ∈ [0x104, pstPg + 0x144, pstPg + 0x148], regAt t o = regAt s o

theorem PartKept.refl (s : State) : PartKept s s := ⟨rfl, rfl, rfl, fun _ _ => rfl⟩

theorem PartKept.trans {s t u : State} (h : PartKept s t) (k : PartKept t u) : PartKept s u :=
  ⟨k.lcs.trans h.lcs, k.store.trans h.store, k.pending.trans h.pending, fun o ho => (k.regs o ho).trans (h.regs o ho)⟩

theorem PartKept.emit {s t : State} (h : PartKept s t) (e : Emit) : PartKept s (emit t e) :=
  ⟨(emit_lcs ..).trans h.lcs, (emit_store ..).trans h.store, (emit_pending ..).trans h.pending, fun o ho => (regAt_emit ..).trans (h.regs o ho)⟩

theorem PartKept.foldl {α : Type} {f : State → α → State} (h : ∀ s a, PartKept s (f s a)) (l : List α) (s : State) : PartKept s (l.foldl f s) := by
  induction l generalizing s with
  | nil => exact .refl s
  | cons a l ih => exact (h s a).trans (ih (f s a))

theorem partKept_pwrEn (s : State) (n : Nat) (on : Bool) : PartKept s (pwrEn s n on) := by
  unfold pwrEn
  split
  · exact .refl s
  · have hfld : PartKept s (fldPut s (slotStat n) 26 26 on.toNat) := by
      refine ⟨fldPut_lcs .., fldPut_store .., fldPut_pending .., fun o ho => ?_⟩
      have hlow : o < 0x13000 := by revert o; decide
      rw [regAt_fldPut, if_neg (by unfold slotStat slotPg portPg; omega)]
    exact hfld.emit _

theorem partKept_driveRst (s : State) (k : Nat) (a : Bool) : PartKept s (driveRst s k a) := by
  unfold driveRst
  split
  · exact .refl s
  · exact ⟨rfl, rfl, rfl, fun _ _ => rfl⟩

theorem partKept_pinsLow (s : State) : PartKept s (pinsLow s) := by
  have hslots : PartKept s ((List.range 6).foldl (fun s n => pwrEn s n false) s) := .foldl (fun s n => partKept_pwrEn s n false) _ _
  have hlinks (t : State) : PartKept t ((List.range 4).foldl (fun s k => driveRst s k true) t) := .foldl (fun s k => partKept_driveRst s k true) _ _
  have hpps (t : State) : PartKept t (if t.tim.pps = 0 then t else emit t (.pin "PPS_OUT" 0)) := by
    split
    · exact .refl t
    · exact (PartKept.refl t).emit _
  have halert (t : State) : PartKept t (if pendingFor t 7 then emit t (.pin "MGMT_ALERT_N" 1) else t) := by
    split
    · exact (PartKept.refl t).emit _
    · exact .refl t
  exact ((hslots.trans (hlinks _)).trans (hpps _)).trans (halert _)

theorem batchTorn_lcs (s : State) : (batchTorn s).lcs = s.lcs := by unfold batchTorn; split <;> rfl
theorem batchTorn_pending (s : State) : (batchTorn s).pending = s.pending := by unfold batchTorn; split <;> rfl
theorem batchTorn_flash (s : State) : (batchTorn s).store.flash = s.store.flash := by unfold batchTorn; split <;> rfl
theorem regAt_batchTorn (s : State) (o : Nat) : regAt (batchTorn s) o = regAt s o := by unfold batchTorn; split <;> rfl
theorem batchTorn_of_idle {s : State} (h : s.store.busy = none) : batchTorn s = s := by unfold batchTorn; rw [h]

/-! ## Cold reset and RESET_N -/

/-- The registers of a state after reset in which three of them are kept, and the cause is shown. -/
theorem regAt_kept_registers {s u t : State} (ht : t.regs = State.reset.regs) (hkept : ∀ p ∈ [0x104, pstPg + 0x144, pstPg + 0x148], regAt u p = regAt s p) (cause o : Nat) :
    regAt (fldPut ([0x104, pstPg + 0x144, pstPg + 0x148].foldl (fun t p => regPut t p (regAt u p)) t) bootStat 17 16 cause) o =
      if o = 0x1D4 then setBits (regReset 0x1D4) 17 16 cause
      else if o ∈ [0x104, pstPg + 0x144, pstPg + 0x148] then regAt s o else regReset o := by
  have hstart (p : Nat) (hp : p ≠ 0x104) : regAt t p = regReset p := by
    rw [regAt, ht]
    exact regAt_reset hp
  simp only [List.foldl, regAt_fldPut, regAt_regPut, bootStat, pstPg, List.mem_cons, List.not_mem_nil, or_false, Nat.reduceAdd,
    hkept 0x104 (by decide), hkept 0x12144 (by decide), hkept 0x12148 (by decide)]
  by_cases hboot : o = 0x1D4
  · rw [if_pos hboot, if_pos hboot, if_neg (by decide), if_neg (by decide), if_neg (by decide), hstart _ (by decide)]
  · rw [if_neg hboot, if_neg hboot]
    by_cases hseq : o = 0x12148
    · simp [hseq]
    · by_cases hhead : o = 0x12144
      · simp [hhead]
      · by_cases hgrade : o = 0x104
        · simp [hgrade]
        · simp [hseq, hhead, hgrade, hstart]

/-- The registers after a restart (R587). -/
theorem regAt_restart (s : State) (cause : Nat) (cold : Bool) (o : Nat) : regAt (restart s cause cold) o =
    if o = 0x1D4 then setBits (regReset 0x1D4) 17 16 cause
    else if o ∈ [0x104, pstPg + 0x144, pstPg + 0x148] then regAt s o else regReset o := by
  have hkept (p : Nat) (hp : p ∈ [0x104, pstPg + 0x144, pstPg + 0x148]) : regAt (batchTorn (pinsLow s)) p = regAt s p :=
    (regAt_batchTorn ..).trans ((partKept_pinsLow s).regs p hp)
  unfold restart
  refine regAt_kept_registers ?_ hkept cause o
  rfl

/-- The state after reset with the registers `regs`, and with what is kept of `u` (R587). -/
def afterRestart (u : State) (regs : Tab Word) (cause : Nat) (cold : Bool) : State :=
  { State.reset with
    regs := regs, store := { State.reset.store with mem := u.store.mem, flash := u.store.flash, torn := u.store.torn },
    lcs := { u.lcs with fuse := (if u.lcs.next = 0 then u.lcs.fuse else u.lcs.next), next := 0, svnNext := [0, 0, 0],
                        fails := (if cold then 0 else u.lcs.fails), nonce := u.lcs.nonce + 1, debugLeft := none },
    pins := { State.reset.pins with faultN := u.pins.faultN, tripN := u.pins.tripN, gpio := u.pins.gpio },
    boot := { State.reset.boot with cause := cause }, freeCtr := u.freeCtr, out := u.out, pending := u.pending }

theorem restart_eq (s : State) (cause : Nat) (cold : Bool) : ∃ u regs, u = batchTorn (pinsLow s) ∧ restart s cause cold = afterRestart u regs cause cold := by
  unfold restart
  generalize batchTorn (pinsLow s) = u
  exact ⟨u, _, rfl, rfl⟩

theorem afterReset_restart (s : State) {cause : Nat} (hcause : cause < 4) (cold : Bool) : AfterReset s (restart s cause cold) cause := by
  have hlcs : (batchTorn (pinsLow s)).lcs = s.lcs := (batchTorn_lcs _).trans (partKept_pinsLow s).lcs
  have hflash : (batchTorn (pinsLow s)).store.flash = s.store.flash :=
    (batchTorn_flash _).trans (congrArg Store.flash (partKept_pinsLow s).store)
  have hmem (h : s.store.busy = none) : (batchTorn (pinsLow s)).store.mem = s.store.mem := by
    rw [batchTorn_of_idle (by rw [(partKept_pinsLow s).store, h]), (partKept_pinsLow s).store]
  have hpending : (batchTorn (pinsLow s)).pending = s.pending := (batchTorn_pending _).trans (partKept_pinsLow s).pending
  have hphase : fldAt (restart s cause cold) 0x1D4 31 28 = 1 := by
    rw [fldAt, regAt_restart, if_pos rfl, bits_setBits_other _ 17 16 _ _ _ (by decide) (by decide)]
    decide
  have hshown : fldAt (restart s cause cold) 0x1D4 17 16 = cause := by
    rw [fldAt, regAt_restart, if_pos rfl, bits_setBits_same _ 17 16 _ (by decide) (by decide)]
    exact Nat.mod_eq_of_lt hcause
  have hreset (o : Nat) (ho : o ∉ [0x104, 0x1D4, pstPg + 0x144, pstPg + 0x148]) : regAt (restart s cause cold) o = regReset o := by
    simp only [List.mem_cons, List.not_mem_nil, or_false, not_or] at ho
    obtain ⟨hgrade, hboot, hhead, hseq⟩ := ho
    rw [regAt_restart, if_neg hboot, if_neg (by simp [hgrade, hhead, hseq])]
  have hkept (o : Nat) (ho : o ∈ [0x104, pstPg + 0x144, pstPg + 0x148]) : regAt (restart s cause cold) o = regAt s o := by
    have hboot : o ≠ 0x1D4 := by rintro rfl; revert ho; decide
    rw [regAt_restart, if_neg hboot, if_pos ho]
  obtain ⟨u, regs, hu, heq⟩ := restart_eq s cause cold
  rw [← hu] at hlcs hflash hmem hpending
  rw [heq] at hphase hshown hreset hkept ⊢
  refine ⟨hphase, hshown, rfl, rfl, rfl, rfl, rfl, rfl, rfl, rfl, rfl, rfl, rfl, rfl, hreset, hkept, ?_, rfl, hflash, hpending, hmem⟩
  rw [← hlcs]
  rfl

theorem restart_fails (s : State) (cause : Nat) (cold : Bool) : (restart s cause cold).lcs.fails = if cold then 0 else s.lcs.fails := by
  obtain ⟨u, regs, hu, heq⟩ := restart_eq s cause cold
  have hlcs : u.lcs = s.lcs := by rw [hu, batchTorn_lcs, (partKept_pinsLow s).lcs]
  rw [heq, ← hlcs]
  rfl

theorem afterReset_pwrMod {s t : State} {c : Nat} (h : AfterReset s t c) (g : Power → Power) : AfterReset s (pwrMod t g) c := h

/-- FAULT_N is no part of what a reset leaves. -/
theorem afterReset_drivePins {s t : State} {c : Nat} (h : AfterReset s t c) : AfterReset s (drivePins t) c := by
  obtain ⟨p, o, heq⟩ := drivePins_eq t
  rw [heq]
  exact h

/-! ## SOFT_RESET -/

section SoftReset

variable {s : State} {r : Req}

theorem softReset_of_trusted (h : trusted s r = true) : softReset s r =
    if fldAt s 0x1D0 15 4 ≠ 0x5EA then resetEnd s 1
    else if s.boot.soft = true ∨ fldAt s 0x1D4 31 28 ≠ 7 then resetEnd s 2
    else if s.boot.shed = true then resetEnd s 3
    else resetEnd { s with boot := { s.boot with soft := true } } 0 := if_neg (by simp [h])

end SoftReset

/-! ## The soft-reset instant -/

/-- What the instant leaves of the state that its work on the units gave (R587). -/
def softEnd (v : State) : State :=
  let s := fldPut (fldPut v bootStat 31 28 4) bootStat 17 16 3
  let h := s.house
  { s with
    parLive := s.parLive.filter (fun o => stgMask o == 0), parShadow := [], talon := { Talon.full with waited := s.talon.waited },
    dealer := { Dealer.fresh with dealtCnt := s.dealer.dealtCnt, stamp := s.dealer.stamp }, xacts := [],
    lfw := s.lfw.filter (fun p => decide (64 ≤ p.1)), fns := [], queues := [], cells := { s.cells with now := [], last := [], load := [] },
    intr := { s.intr with pool := [], fired := [] }, xlt := { Xlt.fresh with inject := s.xlt.inject },
    house := { House.idle with cmd := h.cmd, args := h.args, began := h.began, record := h.record, seq := h.seq },
    pwr := { s.pwr with hot := false }, boot := { s.boot with soft := false, cause := 3, gone := [] }, foldFresh := [], foldBy := [], clearing := [] }

/-- What a table soft reset keeps: table time, the armed ECC patterns, and the registers with a parity mismatch. -/
def timed (s : State) : BitVec 64 × List (Nat × Nat) × List Nat := (s.time, s.xlt.inject, s.parLive)

theorem timed_of_steady {s t : State} (h : steady t = steady s) : timed t = timed s := by
  simp only [steady, Prod.mk.injEq] at h
  obtain ⟨htime, hinject, hpar, -⟩ := h
  rw [timed, timed, htime, hinject, hpar]

theorem timed_softHouse (s : State) : timed (softHouse s) = timed s := by
  have hsave (t : State) : steady (if t.store.save.isSome then
      deckReport (deckUnbusy (storeMod t fun x => { x with save := none }) 0) 0 7 2 1 91 0x105 (deckReg 0 0x1A0) else t) = steady t := by
    split <;> rfl
  have hload (t : State) : steady (if t.crp.load.isSome then setEvt (loadEnd (crpMod t fun c => { c with load := none }) 6) crpPg 9 else t) = steady t := by
    split <;> rfl
  have hend (t : State) (c : Prop) [Decidable c] : timed (if c then hseEnd t 0xE else t) = timed t := by split <;> rfl
  unfold softHouse
  dsimp only
  rw [hend]
  exact timed_of_steady (by rw [steady_storeMod, hload, hsave])

/-- Once no batch is being written the instant does its work, which keeps table time, and ends. -/
theorem softInstant_of_due {s : State} (hsoft : s.boot.soft = true) (hidle : s.store.busy = none) :
    ∃ v, softInstant s = softEnd v ∧ timed v = timed s := by
  have hdue : ¬ ((!s.boot.soft) = true ∨ s.store.busy.isSome = true) := by simp [hsoft, hidle]
  refine ⟨_, if_neg hdue, ?_⟩
  have hfolds (t : State) : steady (if t.boot.shed then t else (List.range 11).foldl (fun s p => regPut s (foldReg p) 0) t) = steady t := by
    split
    · rfl
    · exact steady_foldl (fun s p => steady_regPut s (foldReg p) 0) _ _
  have hdecks (s : State) (d : Nat) :
      steady (if deckState s d = 0 then s else deckReport (deckClear s d) d 0 2 1 91 0x105 (deckReg d 0x1A0)) = steady s := by
    split
    · rfl
    · rw [steady_deckReport, steady_deckClear]
  refine Eq.trans (timed_of_steady ?_) (timed_softHouse s)
  rw [steady_fldPut, steady_lcsMod, steady_regPut, steady_releaseClaims, steady_crpMod,
    steady_foldl (fun s e => (steady_engMod ..).trans (steady_showEng ..)), hfolds, steady_foldl hdecks,
    steady_foldl (fun s n => steady_indEnd s n 0), steady_foldl steady_loseLine, steady_burnAll, steady_foldl steady_softLink,
    steady_foldl steady_softSeat]

/-- Settles O51: a cold reset is `restart`; a soft reset is judged, and its instant ends in `softEnd`. -/
theorem resetsComplete : Obligations.ResetsComplete := by
  unfold Obligations.ResetsComplete
  intro s r
  refine ⟨?resetN, ?cold, fun hoff => ?wakes, fun hon => ?stays, fun htrusted => ?soft, fun hsoft hidle => ?instant, fun hnone => ?none⟩
  case resetN =>
    have hafter : AfterReset s (drivePins (restart s 1 false)) 1 := afterReset_drivePins (afterReset_restart s (by decide) false)
    obtain ⟨p, o, heq⟩ := drivePins_eq (restart s 1 false)
    refine ⟨_, rfl, hafter, ?_⟩
    rw [heq]
    exact restart_fails s 1 false
  case cold =>
    have hcold : coldReset s false = pwrMod (restart s 0 true) (fun p => { p with wake := (0, 0, 7, 0) }) := by rw [coldReset, if_pos (by decide)]
    have hafter : AfterReset s (drivePins (coldReset s false)) 0 := by
      rw [hcold]
      exact afterReset_drivePins (afterReset_pwrMod (afterReset_restart s (by decide) true) _)
    obtain ⟨p, o, heq⟩ := drivePins_eq (coldReset s false)
    refine ⟨_, rfl, hafter, ?_⟩
    rw [heq, hcold]
    exact restart_fails s 0 true
  case wakes =>
    have hcold : coldReset s true = pwrMod (restart s 2 true) (fun p => { p with wake := (0, 0x1E0, 4, 0) }) := by
      rw [coldReset, if_neg (by decide), if_pos hoff]
    have hafter : AfterReset s (drivePins (coldReset s true)) 2 := by
      rw [hcold]
      exact afterReset_drivePins (afterReset_pwrMod (afterReset_restart s (by decide) true) _)
    obtain ⟨p, o, heq⟩ := drivePins_eq (coldReset s true)
    refine ⟨_, rfl, hafter, ?_, ?_⟩
    · rw [heq, hcold]
      exact restart_fails s 2 true
    · rw [heq, hcold]
      rfl
  case stays =>
    have hcold : coldReset s true = s := by rw [coldReset, if_neg (by decide), if_neg (by rw [hon]; decide)]
    exact congrArg finish hcold
  case soft =>
    intro ends
    refine ⟨fun hword => ?_, fun hword hbusy => ?_, fun hword hidle hphase hshed => ?_, fun hword hidle hphase hshed => ?_⟩ <;>
      refine congrArg finish ((softReset_of_trusted htrusted).trans ?_)
    · exact if_pos hword
    · rw [if_neg (Classical.not_not.2 hword), if_pos hbusy]; rfl
    · rw [if_neg (Classical.not_not.2 hword), if_neg (by simp [hidle, hphase]), if_pos hshed]; rfl
    · rw [if_neg (Classical.not_not.2 hword), if_neg (by simp [hidle, hphase]), if_neg (by simp [hshed])]; rfl
  case instant =>
    obtain ⟨v, hv, htimed⟩ := softInstant_of_due hsoft hidle
    obtain ⟨htime, hinject, hpar⟩ : v.time = s.time ∧ v.xlt.inject = s.xlt.inject ∧ v.parLive = s.parLive := by
      simpa only [timed, Prod.mk.injEq] using htimed
    obtain ⟨p, o, heq⟩ := drivePins_eq (softEnd v)
    refine ⟨drivePins (softEnd v), congrArg finish hv, ?_⟩
    rw [heq]
    refine ⟨rfl, ?_, ?_, rfl, rfl, rfl, rfl, rfl, ?_, fun a ha => ?_, htime⟩
    · show bits (regAt (fldPut (fldPut v bootStat 31 28 4) bootStat 17 16 3) bootStat) 31 28 = 4
      rw [regAt_fldPut, if_pos rfl, bits_setBits_other _ 17 16 _ _ _ (by decide) (by decide), regAt_fldPut, if_pos rfl]
      exact bits_setBits_same _ 31 28 _ (by decide) (by decide)
    · show bits (regAt (fldPut (fldPut v bootStat 31 28 4) bootStat 17 16 3) bootStat) 17 16 = 3
      rw [regAt_fldPut, if_pos rfl]
      exact bits_setBits_same _ 17 16 _ (by decide) (by decide)
    · exact congrArg (fun l => { Xlt.fresh with inject := l }) hinject
    · have hmem : a ∈ v.parLive.filter (fun o => stgMask o == 0) := ha
      rw [List.mem_filter, hpar] at hmem
      exact ⟨by simpa using hmem.2, hmem.1⟩
  case none => exact congrArg finish (if_pos (.inl (by rw [hnone]; rfl)))

end Sys2Proof.Machine
end

section
/-! The laws of doorbells (R280, R281, R284, R416), of queue loads and fetches (R284, R285, R290) and of descriptors that start (R289, R291,
R293, R295). -/

namespace Sys2Proof.Machine

open Sys2Proof.Spec

/-! ## Doorbells -/

section Doorbell

variable {s : State} {f q n : Nat}

theorem doorbell_of_folded (hseat : fnSeat s f = some n) (hfolded : folded s n = true) (w v : Nat) : doorbell s f q w v = s := by
  simp [doorbell, hseat, hfolded]

/-- Doorbell word `w` of queue q of function f with value `v`, noted in its queue. -/
def noteWord (f q w v : Nat) (x : Queue) : Queue :=
  let x := if x.st = 0 then { x with fn := f, q := q } else x
  match w with
  | 0 => { x with pTail := some (v % 65536) }
  | 1 => { x with pHead := some (v % 65536) }
  | 2 => { x with pCmd := some (v % 16) }
  | _ => x

/-- A word of a queue that exists is noted in its queue pair. -/
theorem doorbell_of_open (hseat : fnSeat s f = some n) (hopen : folded s n = false) (hq : q < queueCount s f) (w v : Nat) :
    doorbell s f q w v = queueMod s (pairOf s f q) (noteWord f q w v) := by
  have hgate : (folded s n || decide (queueCount s f ≤ q)) = false := by simp [hopen, hq]
  simp only [doorbell, hseat, hgate, Bool.false_eq_true, if_false]
  rfl

end Doorbell

/-- Settles O30: a word of an open seat's queue is noted, one of a folded seat's dropped. -/
theorem doorbellsComplete : Obligations.DoorbellsComplete := by
  unfold Obligations.DoorbellsComplete
  intro s f q v n hseat hq k x
  refine ⟨fun hopen => ?noted, fun hfolded => ?dropped⟩
  case noted =>
    have hword (w u : Nat) : finish (doorbell s f.val q.val w u) = _ := congrArg finish (doorbell_of_open hseat hopen hq w u)
    exact ⟨hword 0 v.toNat, hword 1 v.toNat, hword 2 1, hword 2 2, hword 2 3, hword 2 4⟩
  case dropped =>
    have hword (w u : Nat) : finish (doorbell s f.val q.val w u) = finish s := congrArg finish (doorbell_of_folded hseat hfolded w u)
    exact ⟨hword 0 v.toNat, hword 1 v.toNat, hword 2 1, hword 2 2, hword 2 3, hword 2 4⟩

/-! ## Loads and fetches -/

/-- The fields of configuration entry `d` are in their ranges (R285). -/
def entryGood (s : State) (q : Queue) (d : List Byte) : Bool :=
  let x := { q with entry := d }
  let size (c : Nat) : Bool := decide (6 ≤ c ∧ c ≤ 16)
  size (bits x.ctl 4 0) && size (bits x.ctl 12 8) && decide (x.sqBase % 4096 = 0 ∧ x.cqBase % 4096 = 0) &&
    (!bitOf x.ctl 31 || decide (bits x.ctl 26 16 < vectorCount s q.fn))

section Load

variable {s : State} {k : Nat}

theorem configLoaded_of_entry {d : List Byte} (hst : (queueOf s k).st = 1) (hloaded : (queueOf s k).loaded = some (some d)) : configLoaded s k =
    (let q := queueOf s k
     let x := { q with entry := d }
     if !entryGood s q d then withQueue s k { q with st := 0, op := 0, loaded := none, lastErr := 0x10 }
     else if x.irqEn && deckPending s q.fn q.q (some x.vector) then withQueue s k { q with st := 0, op := 0, loaded := none, lastErr := 0x11 }
     else withQueue s k { Queue.idle with fn := q.fn, q := q.q, st := 2, entry := d, cell := idlestCell s, pTail := q.pTail, pHead := q.pHead, pCmd := q.pCmd }) := by
  unfold configLoaded
  dsimp only
  split
  case h_1 heq => rw [hloaded] at heq; cases heq
  case h_2 heq => rw [hloaded] at heq; cases heq; rfl
  case h_3 hno => exact absurd hloaded (hno d hst)

theorem fetch_of_able (hst : (queueOf s k).st = 2) (hmore : 0 < (nextFetch (queueOf s k)).2) (hidle : (queueOf s k).fetching = 0)
    (hgood : (queueOf s k).badFetch = none) (hmaster : (fnOf s (queueOf s k).fn).master = true) (hopen : qFolded s (queueOf s k) = false)
    (hruns : (queueOf s k).halting = false) : fetch s k =
      (let q := queueOf s k
       askRead (withQueue s k { q with fetching := (nextFetch q).2 }) q.fn (q.sqBase + 64 * (nextFetch q).1) (64 * (nextFetch q).2) 0 15 1
         (.fetch k (nextFetch q).1 (nextFetch q).2)) := by
  have hheld : qHeld s (queueOf s k) = false := by rw [qHeld, hmaster]; rfl
  have hgate : ¬ ((queueOf s k).st ≠ 2 ∨ (nextFetch (queueOf s k)).2 = 0 ∨ (queueOf s k).fetching ≠ 0 ∨ (queueOf s k).badFetch.isSome = true ∨
      qHeld s (queueOf s k) = true ∨ qFolded s (queueOf s k) = true ∨ (queueOf s k).halting = true) := by
    simp [hst, hidle, hgood, hheld, hopen, hruns, Nat.ne_of_gt hmore]
  exact if_neg hgate

theorem qFolded_of_seat {q : Queue} {n : Nat} (hseat : fnSeat s q.fn = some n) : qFolded s q = folded s n := by rw [qFolded, hseat]

theorem fetchDone_of_data {i : Nat} {b : List Byte} (h : (queueOf s k).arrived = some (i, some b)) : fetchDone s k =
    (let q := queueOf s k
     withQueue s k { q with arrived := none, fetching := 0, fetched := q.fetched ++ splitDescs q.sqSize (b.length / 64) i b }) := by
  simp only [fetchDone, h]
  rfl

theorem fetchDone_of_error {i : Nat} (h : (queueOf s k).arrived = some (i, none)) : fetchDone s k =
    withQueue { s with freeCtr := s.freeCtr + 1 } k { queueOf s k with
      arrived := none, fetching := 0,
      badFetch := some { idx := i, status := 0x0D, time := (s.time + 40).toNat, cookie := Config.freeValue s.freeCtr % 2 ^ 64 } } := by
  simp only [fetchDone, h]
  rfl

end Load

/-- Settles O32: each command is one branch of its function. -/
theorem queueLoadAndFetchComplete : Obligations.QueueLoadAndFetchComplete := by
  unfold Obligations.QueueLoadAndFetchComplete
  intro s k d q x size good
  have hgood_eq : entryGood s q d = good := rfl
  refine ⟨fun hst hloaded hgood hdeck => ?active, fun hst hloaded hbad => ?bad, fun hst hrunning hburnt => ?drained,
    fun n hseat hst hmore hidle hfetch hmaster hopen hruns => ?fetch, fun i b harrived => ?data, fun i harrived => ?error⟩
  case active =>
    have hpend : ¬ (x.irqEn && deckPending s q.fn q.q (some x.vector)) = true := by
      intro h
      rw [Bool.and_eq_true] at h
      exact Bool.false_ne_true ((hdeck h.1).symm.trans h.2)
    show finish (configLoaded s k.val) = _
    rw [configLoaded_of_entry hst hloaded]
    dsimp only
    rw [hgood_eq, hgood, if_neg (by decide), if_neg hpend]
    rfl
  case bad =>
    show finish (configLoaded s k.val) = _
    rw [configLoaded_of_entry hst hloaded]
    dsimp only
    rw [hgood_eq, hbad, if_pos (by decide)]
    rfl
  case drained => exact congrArg finish (if_pos ⟨hst, hrunning, hburnt⟩)
  case fetch => exact congrArg finish (fetch_of_able hst hmore hidle hfetch hmaster ((qFolded_of_seat hseat).trans hopen) hruns)
  case data => exact congrArg finish (fetchDone_of_data harrived)
  case error => exact congrArg finish (fetchDone_of_error harrived)

/-! ## Descriptors start -/

section Start

variable {s : State} {k : Nat} {d : Desc}

theorem startIf_of_canStart (h : canStart s k = some d) {p : Desc → Bool} (hp : p d = true) : startIf s k p = startDesc s k d := by
  simp only [startIf, h, hp, if_true]

/-- A descriptor that starts, with the status `e` of one that ends as it starts. -/
theorem startDesc_eq {e : Option Nat} (he : startEnds (queueOf s k) d = e) : startDesc s k d =
    withQueue s k { queueOf s k with
      fetched := (queueOf s k).fetched.drop 1, erred := if d.op = 4 && startCheck d == 0 then false else (queueOf s k).erred,
      running := (queueOf s k).running ++ [{
        desc := d, start := s.time.toNat, issued := 0, moved := 0, status := e.getD 0, reason := 0, mark := s.xlt.lineSer,
        done := e.map (fun _ => s.time.toNat) }] } := by
  subst he
  rfl

theorem startEnds_of_bad {q : Queue} (h : startCheck d ≠ 0) : startEnds q d = some (startCheck d) := if_pos h

theorem startEnds_of_nop {q : Queue} (h : startCheck d = 0) (hop : d.op = 0) : startEnds q d = some 0 := by
  unfold startEnds
  dsimp only
  rw [if_neg (Classical.not_not.2 h), if_pos hop]

theorem startEnds_of_fence {q : Queue} (h : startCheck d = 0) (hop : d.op = 4) :
    startEnds q d = some (if bitOf (BitVec.ofNat 32 (d.num 0 4)) 10 && q.erred then 0x0B else 0) := by
  unfold startEnds
  dsimp only
  rw [if_neg (Classical.not_not.2 h), if_neg (by omega), if_pos hop]

theorem startEnds_of_work {q : Queue} (h : startCheck d = 0) (hop : d.op = 1 ∨ d.op = 2 ∨ d.op = 3 ∨ d.op = 5) : startEnds q d = none := by
  unfold startEnds
  dsimp only
  rw [if_neg (Classical.not_not.2 h), if_neg (by omega), if_neg (by omega)]

end Start

/-- Settles O34: a descriptor starts with the status of `startEnds`. -/
theorem descriptorStartCompletes : Obligations.DescriptorStartCompletes := by
  unfold Obligations.DescriptorStartCompletes
  intro s k d hstart q now run started bad
  have hkeeps (h : ¬ (d.op = 4 ∧ bad = 0)) : (if d.op = 4 && startCheck d == 0 then false else q.erred) = q.erred := if_neg (by simpa using h)
  refine ⟨fun hbad => ?bad, fun hgood hop => ?nop, fun hgood hop => ?fence, fun hgood hop => ?work⟩
  case bad =>
    show finish (startIf s k.val fun _ => true) = _
    rw [startIf_of_canStart hstart rfl, startDesc_eq (startEnds_of_bad hbad), hkeeps (fun h => hbad h.2)]
    rfl
  case nop =>
    show finish (startIf s k.val fun d => d.op == 0) = _
    rw [startIf_of_canStart hstart (p := fun d => d.op == 0) (beq_iff_eq.2 hop), startDesc_eq (startEnds_of_nop hgood hop), hkeeps (by omega)]
    rfl
  case fence =>
    have herred : (d.op = 4 && startCheck d == 0) = true := by simpa using ⟨hop, hgood⟩
    show finish (startIf s k.val fun d => d.op == 4) = _
    rw [startIf_of_canStart hstart (p := fun d => d.op == 4) (beq_iff_eq.2 hop), startDesc_eq (startEnds_of_fence hgood hop), if_pos herred]
    simp only [Bool.and_eq_true]
    rfl
  case work =>
    show finish (startIf s k.val fun _ => true) = _
    rw [startIf_of_canStart hstart rfl, startDesc_eq (startEnds_of_work hgood hop), hkeeps (by omega)]
    rfl

end Sys2Proof.Machine
end

section
/-! The laws of a started descriptor's parts and its end (R238, R292, R293, R308), and of the reports of a queue (R294, R297, R300, R305). -/

namespace Sys2Proof.Machine

open Sys2Proof.Spec

/-! ## Parts of a started descriptor -/

section Parts

variable {s : State} {k i : Nat} {r : Run}

theorem find_running_single (hrun : (queueOf s k).running = [r]) (hi : r.desc.idx = i) :
    (queueOf s k).running.find? (fun r => r.desc.idx == i) = some r := by
  simp [hrun, hi]

/-- A queue's only started descriptor may issue: its function masters, its seat is open, it has not ended, and its cell has room. -/
theorem mayIssue_of_free {dir : Nat} (hrun : (queueOf s k).running = [r]) (hi : r.desc.idx = i) (hdone : r.done = none)
    (hmaster : (fnOf s (queueOf s k).fn).master = true) (hopen : qFolded s (queueOf s k) = false) (hstop : r.stop = none)
    (hroom : tabGet 0 s.cells.load (2 * (queueOf s k).cell + dir) < 20) : mayIssue s k i dir = some r := by
  have hgate : (qHeld s (queueOf s k) || qFolded s (queueOf s k) || decide (20 ≤ tabGet 0 s.cells.load (2 * (queueOf s k).cell + dir))) = false := by
    simp [qHeld, hmaster, hopen, hroom]
  unfold mayIssue
  dsimp only
  rw [hgate, if_neg (by decide), find_running_single hrun hi]
  simp [liveRun, hrun, hi, hdone, hstop]

theorem dmaPath_of_active {f o ep off l : Nat} {p : Perm} {trump : Bool} {u : State} (hlook : lookup s f o p = (.ok ep off trump, u))
    (hlink : linkFor u ep = some l) (hopen : folded u (6 + l) = false) (hactive : linkActive u l = true) :
    dmaPath s f o p = (.inl (l, ep, off, trump), u) := by
  simp [dmaPath, hlook, hlink, hopen, hactive]

theorem barrierDone_of_fresh {f mark : Nat} (h : ∀ x ∈ s.xlt.lines, x.fn = f → mark ≤ x.ser) : barrierDone s f mark = true := by
  simp only [barrierDone, List.all_eq_true, Bool.not_eq_true', Bool.and_eq_false_iff, beq_eq_false_iff_ne, decide_eq_false_iff_not]
  intro x hx
  by_cases hf : x.fn = f
  · exact Or.inr (Nat.not_lt.2 (h x hx hf))
  · exact Or.inl hf

end Parts

/-- Settles O35: each command is one branch of its function, for the descriptor that is found at its index. -/
theorem descriptorTransfersComplete : Obligations.DescriptorTransfersComplete := by
  unfold Obligations.DescriptorTransfersComplete
  intro s k i r hrun hi hdone q len attr free room o
  have hmay (dir : Nat) (hfree : free) (hroom : room dir) : mayIssue s k.val i.val dir = some r :=
    mayIssue_of_free hrun hi hdone hfree.1 hfree.2.1 hfree.2.2 hroom
  refine ⟨fun hfree hroom hop hleft => ?out, fun ep off trump u l hfree hroom hop hleft hlook hlink hopen hactive => ?back,
    fun ep off trump u l hfree hroom hop hleft hlook hlink hopen hactive => ?msg, fun hop hall hframes hidle hlast => ?ends,
    fun hop hlines => ?barrier⟩
  case out =>
    show finish (copyToFabric s k.val i.val) = _
    simp only [copyToFabric, hmay 0 hfree hroom]
    rw [if_neg (by omega)]
    rfl
  case back =>
    show finish (copyFromFabric s k.val i.val) = _
    simp only [copyFromFabric, hmay 1 hfree hroom]
    rw [if_neg (by omega), dmaPath_of_active hlook hlink hopen hactive]
    rfl
  case msg =>
    show finish (msgSend s k.val i.val) = _
    simp only [msgSend, hmay 0 hfree hroom]
    rw [if_neg (by omega), dmaPath_of_active hlook hlink hopen hactive]
    rfl
  case ends =>
    have hcond : r.done.isNone ∧ (r.desc.op = 1 ∨ r.desc.op = 2 ∨ r.desc.op = 3) ∧ (r.issued = r.desc.num 4 4 ∨ r.stop.isSome) ∧ r.frames = [] ∧
        !runBusy s k.val i.val r.stop ∧ r.last ≤ s.time.toNat := by
      refine ⟨by simp [hdone], hop, ?_, hframes, by simp [hidle], hlast⟩
      rwa [Option.isSome_iff_ne_none]
    show finish (descComplete s k.val i.val) = _
    simp only [descComplete, find_running_single hrun hi]
    rw [if_pos hcond]
    rfl
  case barrier =>
    have hfind : (queueOf s k.val).running.find? (fun r => r.desc.op == 5 && r.done.isNone) = some r := by simp [hrun, hop, hdone]
    show finish (logBarrier s k.val) = _
    simp only [logBarrier, hfind]
    rw [if_pos (barrierDone_of_fresh hlines), hi]
    rfl

/-! ## Reports -/

/-- The report of a completed descriptor (R297). -/
def runReport (r : Run) (t : Nat) : Report :=
  { idx := r.desc.idx, status := r.status, reason := r.reason, bytes := r.moved, time := t, cookie := r.desc.num 8 8,
    irq := bitOf (BitVec.ofNat 32 (r.desc.num 0 4)) 8, fence := r.desc.op == 4 && startCheck r.desc == 0 }

section Reports

variable {s : State} {k : Nat} {r : Run} {t n : Nat}

theorem nextReport_of_done {q : Queue} (hfind : q.running.find? (fun r => r.desc.idx == q.sqHead) = some r) (hdone : r.done = some t) :
    nextReport q = some (runReport r t) := by
  simp only [nextReport, hfind, hdone]
  rfl

theorem recordTlp_of_report {p : Report} (h : nextReport (queueOf s k) = some p) (x : Tlp) : recordTlp s k x =
    (let q := queueOf s k
     { x with addr := q.cqBase + 32 * q.cqW, data := recordBytes q p.idx p.status p.reason p.bytes p.time p.cookie }) := by
  simp only [recordTlp, h]

theorem qFolded_eq_false (hseat : fnSeat s (queueOf s k).fn = some n) (hopen : folded s n = false) : qFolded s (queueOf s k) = false :=
  (qFolded_of_seat hseat).trans hopen

theorem any_isRecord_eq_false (hnone : ∀ x ∈ s.xacts, x.isRecord k = false) : s.xacts.any (fun x => x.isRecord k) = false := by simpa using hnone

theorem completionRecord_of_none (hseat : fnSeat s (queueOf s k).fn = some n) (hopen : folded s n = false)
    (hnone : ∀ x ∈ s.xacts, x.isRecord k = false) (h : nextReport (queueOf s k) = none) : completionRecord s k = s := by
  simp only [completionRecord, qFolded_eq_false hseat hopen, any_isRecord_eq_false hnone, h]
  rfl

/-- A started descriptor that has succeeded and wants no record. -/
def silentRun (r : Run) : Prop := bitOf (BitVec.ofNat 32 (r.desc.num 0 4)) 9 = true ∧ r.desc.op < 4 ∧ r.status = 0

theorem completionRecord_of_silent (hfind : (queueOf s k).running.find? (fun r => r.desc.idx == (queueOf s k).sqHead) = some r)
    (hdone : r.done = some t) (hseat : fnSeat s (queueOf s k).fn = some n) (hopen : folded s n = false)
    (hnone : ∀ x ∈ s.xacts, x.isRecord k = false) (hsilent : silentRun r) :
    completionRecord s k = queueMod s k (fun q => q.pass r.desc.idx) := by
  obtain ⟨hnorec, hop, hstatus⟩ := hsilent
  have hcond : (runReport r t).status = 0 ∧ (bitOf (BitVec.ofNat 32 (r.desc.num 0 4)) 9 && decide (r.desc.op < 4)) = true :=
    ⟨hstatus, by simp [hnorec, hop]⟩
  simp only [completionRecord, qFolded_eq_false hseat hopen, any_isRecord_eq_false hnone, nextReport_of_done hfind hdone, hseat, hfind]
  rw [if_neg (by decide)]
  exact if_pos hcond

theorem completionRecord_of_report (hfind : (queueOf s k).running.find? (fun r => r.desc.idx == (queueOf s k).sqHead) = some r)
    (hdone : r.done = some t) (hseat : fnSeat s (queueOf s k).fn = some n) (hopen : folded s n = false)
    (hnone : ∀ x ∈ s.xacts, x.isRecord k = false) (hmaster : (fnOf s (queueOf s k).fn).master = true) (hloud : ¬ silentRun r) :
    completionRecord s k =
      (let q := queueOf s k
       enqueue s { xact0 n q.fn 3 1 (.tlp n { tlp0 .memWr q.fn (q.cqBase + 32 * q.cqW) 32 with attr := hostAttr s q.fn (r.desc.attr / 4 * 4) }) with
         posted := true, after := .record k r.desc.idx }) := by
  have hcond : ¬ ((runReport r t).status = 0 ∧ (bitOf (BitVec.ofNat 32 (r.desc.num 0 4)) 9 && decide (r.desc.op < 4)) = true) := by
    rw [Bool.and_eq_true, decide_eq_true_iff]
    exact fun h => hloud ⟨h.2.1, h.2.2, h.1⟩
  have hheld : ¬ (qHeld s (queueOf s k) = true ∨ ((some r.desc).isNone = true ∧ (queueOf s k).cqFree = 0)) := by simp [qHeld, hmaster]
  simp only [completionRecord, qFolded_eq_false hseat hopen, any_isRecord_eq_false hnone, nextReport_of_done hfind hdone, hseat, hfind]
  rw [if_neg (by decide)]
  exact (if_neg hcond).trans (if_neg hheld)

/-- No Snoop is bit 2 of a descriptor's attributes. -/
theorem attr_noSnoop (d : Desc) : d.attr / 4 * 4 = 4 * (d.num 0 4 / 4096 % 2) := by
  have h : d.attr = d.num 0 4 / 2048 % 2 + 4 * (d.num 0 4 / 4096 % 2) := rfl
  omega

/-! ## A record that has been dealt -/

/-- What a halt, an interrupt and a count leave of a queue. -/
def SamePlace (q q' : Queue) : Prop :=
  q'.sqHead = q.sqHead ∧ q'.cqW = q.cqW ∧ q'.phase = q.phase ∧ q'.reported = q.reported ∧ q'.running = q.running

theorem samePlace_refl (q : Queue) : SamePlace q q := ⟨rfl, rfl, rfl, rfl, rfl⟩

theorem SamePlace.trans {a b c : Queue} (hab : SamePlace a b) (hbc : SamePlace b c) : SamePlace a c := by
  obtain ⟨h1, h2, h3, h4, h5⟩ := hab
  obtain ⟨g1, g2, g3, g4, g5⟩ := hbc
  exact ⟨g1.trans h1, g2.trans h2, g3.trans h3, g4.trans h4, g5.trans h5⟩

theorem samePlace_qHalt (s : State) (k status : Nat) : SamePlace (queueOf s k) (queueOf (qHalt s k status) k) := by
  have h : queueOf (qHalt s k status) k = queueOf (queueMod s k (fun q => { q with st := if q.st = 3 then 3 else 4, lastErr := status })) k := by
    simp [qHalt, queueOf]
  rw [h, queueOf_queueMod_same]
  exact samePlace_refl _

theorem samePlace_qSignal (s : State) (k status : Nat) (now : Bool) : SamePlace (queueOf s k) (queueOf (qSignal s k status now) k) := by
  unfold qSignal
  dsimp only
  split
  case isTrue => exact samePlace_refl _
  case isFalse =>
    split
    case isTrue =>
      have h : queueOf (qInterrupt s k) k = queueOf (queueMod s k (fun q => { q with coal := 0, coalHand := none })) k := rfl
      rw [h, queueOf_queueMod_same]
      exact samePlace_refl _
    case isFalse =>
      rw [queueOf_queueMod_same]
      exact samePlace_refl _

/-- The queue of a record that has been dealt, as far as halts and interrupts leave it. -/
def dealtQueue (q : Queue) (p : Report) : Queue :=
  let w := (q.cqW + 1) % q.cqSize
  { q.pass p.idx with cqW := w, phase := if w = 0 then !q.phase else q.phase, erred := q.erred || (decide (p.status ≠ 0) && !p.fence) }

/-- A record that has been dealt, before its queue halts or signals: the queue passes it, and its status is counted. -/
def recordCounted (s : State) (k : Nat) (p : Report) : State :=
  let s := queueMod (tally s 3 (queueOf s k).fn (b2n (decide (p.status ≠ 0)))) k (fun q => dealtQueue q p)
  match recordCnt p.status with
  | some o => bump s (dmaPg + o)
  | none => s

theorem queueOf_recordCounted (p : Report) : queueOf (recordCounted s k p) k = dealtQueue (queueOf s k) p := by
  have hpassed (u : State) : queueOf (queueMod u k (fun q => dealtQueue q p)) k = dealtQueue (queueOf u k) p := queueOf_queueMod_same _
  unfold recordCounted
  dsimp only
  split
  case h_1 => exact hpassed _
  case h_2 => exact hpassed _

theorem recordSent_of_report {p : Report} (h : nextReport (queueOf s k) = some p) : recordSent s k =
    qSignal (if haltsWith p.status then qHalt (recordCounted s k p) k p.status else recordCounted s k p) k p.status p.irq := by
  simp only [recordSent, h]
  rfl

theorem samePlace_recordSent {p : Report} (h : nextReport (queueOf s k) = some p) :
    SamePlace (dealtQueue (queueOf s k) p) (queueOf (recordSent s k) k) := by
  have hhalted : SamePlace (dealtQueue (queueOf s k) p)
      (queueOf (if haltsWith p.status then qHalt (recordCounted s k p) k p.status else recordCounted s k p) k) := by
    rw [← queueOf_recordCounted]
    split
    · exact samePlace_qHalt ..
    · exact samePlace_refl _
  rw [recordSent_of_report h]
  exact hhalted.trans (samePlace_qSignal ..)

theorem coalExpire_of_late {h : Nat} (hhand : (queueOf s k).coalHand = some h) (hirq : (queueOf s k).irqEn = true) (hcount : (queueOf s k).coalHands ≠ 0)
    (hlate : (queueOf s k).coalHands ≤ (handNo s + 2 ^ 40 - h) % 2 ^ 40) : coalExpire s k = qInterrupt s k := by
  simp only [coalExpire, hhand]
  exact if_pos ⟨hirq, hcount, hlate⟩

end Reports

/-- Settles O36: a report is the branch its status chooses; a dealt record moves the places of its queue, which halts and interrupts keep. -/
theorem queueReportsComplete : Obligations.QueueReportsComplete := by
  unfold Obligations.QueueReportsComplete
  intro s k n q may
  refine ⟨fun r t hfind hdone => ?reports, fun hmay hnone => ?nothing, fun h hhand hcount hlate hirq => ?timer, ?ecc⟩
  case reports =>
    have hreport := nextReport_of_done hfind hdone
    refine ⟨fun hopen hseat hwait hsilent => ?silent, fun hmay hloud => ?loud, fun x => ?record, ?dealt⟩
    case silent => exact congrArg finish (completionRecord_of_silent hfind hdone hseat hopen hwait hsilent)
    case loud =>
      obtain ⟨hmaster, hseat, hopen, hwait⟩ := hmay
      show finish (completionRecord s k.val) = _
      rw [completionRecord_of_report hfind hdone hseat hopen hwait hmaster hloud, attr_noSnoop]
      rfl
    case record =>
      rw [recordTlp_of_report hreport]
      rfl
    case dealt =>
      obtain ⟨hhead, hw, hphase, hcount, hrun⟩ := samePlace_recordSent hreport
      refine ⟨hhead, hw, ?_, hcount, fun r' hr' => ?_⟩
      · rw [hphase, hw]
        rfl
      · rw [hrun] at hr'
        exact bne_iff_ne.1 (List.mem_filter.1 hr').2
  case nothing =>
    obtain ⟨-, hseat, hopen, hwait⟩ := hmay
    exact congrArg finish (completionRecord_of_none hseat hopen hwait hnone)
  case timer => exact congrArg finish (coalExpire_of_late hhand hirq hcount hlate)
  case ecc => rfl

end Sys2Proof.Machine
end

section
/-! The laws of the accesses to entries (R218 to R224, R228), of the dirty log (R235, R237) and of the event router's claims (R409, R410). -/

namespace Sys2Proof.Machine

open Sys2Proof.Spec

/-! ## Direct accesses -/

section Direct

variable {s : State} {r : Req} {ret : Bool} {i : Nat}

theorem entAccessWrite_of_open (h : mayEntry s r ret i = true) (half : Nat) (v : Word) :
    entAccessWrite s r ret i half v = answerWrite (entWrite s r (entKey (b2n ret) i) half v) r false := if_pos h

theorem entAccessRead_of_open (h : mayEntry s r ret i = true) (tag half : Nat) : entAccessRead s r tag ret i half =
    answerRead (entRead s r (entKey (b2n ret) i) half).2 r tag false false (wordBytes (entRead s r (entKey (b2n ret) i) half).1) := if_pos h

/-- The table of an entry's key is the one it was made for. -/
theorem halfSlot_entKey (hi : i < 2 ^ 23) (t : Nat) : halfSlot r (entKey t i) = r.code.val * 2 + t := by
  unfold halfSlot entKey
  omega

/-- The half that a requester holds for entry `key`: the one it wrote or captured there, or what the table has. -/
theorem heldHalf_eq {t : Tab (Nat × Word)} {sl key : Nat} {w other : Word}
    (h : (∀ p ∈ t, p.1 = sl → False) ∨ tabGet (0, 0) t sl = (key, w)) :
    (if t.any (fun p => p.1 == sl) && (tabGet (0, 0) t sl).1 == key then (tabGet (0, 0) t sl).2 else other) =
      if t.any (fun p => p.1 == sl) then w else other := by
  rcases h with hnone | hheld
  · have hany : t.any (fun p => p.1 == sl) = false := by simpa using fun a b hab hsl => hnone (a, b) hab hsl
    rw [hany]
    rfl
  · rw [hheld, beq_self_eq_true, Bool.and_true]

end Direct

/-- Settles O23: an open access is a write or a read of a half, and the other half is the held one. -/
theorem entryAccessesComplete : Obligations.EntryAccessesComplete := by
  unfold Obligations.EntryAccessesComplete
  intro s r tag ret i v htrust hcount t key sl e low cap wrote gave xlt
  have hopen : mayEntry s r ret i.val = true := by
    rw [mayEntry, htrust, Bool.true_and, decide_eq_true_iff]
    exact hcount
  have hslot : halfSlot r (entKey (b2n ret) i.val) = sl := halfSlot_entKey i.isLt _
  refine ⟨?lowWrite, fun w hheld => ?highWrite, ?lowRead, fun w hheld => ?highRead⟩
  case lowWrite =>
    show finish (entAccessWrite s r ret i.val 0 v) = _
    rw [entAccessWrite_of_open hopen, entWrite, hslot]
    rfl
  case highWrite =>
    show finish (entAccessWrite s r ret i.val 1 v) = _
    rw [entAccessWrite_of_open hopen, entWrite, hslot]
    exact congrArg (fun x : Word => finish (wrote (commitEnt (xlt low cap) key (v ++ x)))) (heldHalf_eq hheld)
  case lowRead =>
    show finish (entAccessRead s r tag.val ret i.val 0) = _
    rw [entAccessRead_of_open hopen, entRead, hslot]
    rfl
  case highRead =>
    show finish (entAccessRead s r tag.val ret i.val 1) = _
    rw [entAccessRead_of_open hopen, entRead, hslot]
    exact congrArg (fun x : Word => finish (gave (xlt low cap) x)) (heldHalf_eq hheld)

/-! ## The indirect port -/

section Indirect

variable {s : State} {n : Nat}

theorem indCmd_of_sync (hbusy : flagAt s (fnPg n + 0x20C) 8 = false) : indCmd s n 3 =
    (let u := fldPut (fldPut s (fnPg n + 0x20C) 8 8 1) (fnPg n + 0x20C) 1 0 3
     xltMod u (fun x => { x with sync := tabIns x.sync n none })) := by
  unfold indCmd
  dsimp only
  rw [if_neg (by decide), hbusy, if_neg (by decide), if_pos rfl]

/-- The entry that the port of PF n names. -/
def indKey (s : State) (n : Nat) : Nat := entKey (bits (regAt s (fnPg n + 0x200)) 31 31) (bits (regAt s (fnPg n + 0x200)) 22 0)

theorem indCmd_of_write (hbusy : flagAt s (fnPg n + 0x20C) 8 = false)
    (hbudget : inBudget s n (bits (regAt s (fnPg n + 0x200)) 31 31) (bits (regAt s (fnPg n + 0x200)) 22 0) = true) : indCmd s n 2 =
    indEnd (commitEnt s (indKey s n) (regAt s (fnPg n + 0x208) ++ regAt s (fnPg n + 0x204))) n 0 := by
  unfold indCmd
  dsimp only
  rw [if_neg (by decide), hbusy, if_neg (by decide), if_neg (by decide), hbudget, if_neg (by decide), if_pos rfl]
  rfl

theorem indCmd_of_read (hbusy : flagAt s (fnPg n + 0x20C) 8 = false)
    (hbudget : inBudget s n (bits (regAt s (fnPg n + 0x200)) 31 31) (bits (regAt s (fnPg n + 0x200)) 22 0) = true) : indCmd s n 1 =
    (let e := entAt s (indKey s n)
     let u := regPut (regPut s (fnPg n + 0x204) (e.setWidth 32)) (fnPg n + 0x208) ((e >>> 32).setWidth 32)
     if entErrs s (indKey s n) = 1 then indEnd (eccCorrected u) n 0 else indEnd u n (if entErrs s (indKey s n) = 2 then 2 else 0)) := by
  unfold indCmd
  dsimp only
  rw [if_neg (by decide), hbusy, if_neg (by decide), if_neg (by decide), hbudget, if_neg (by decide), if_neg (by decide)]
  rfl

theorem syncClear_of_none {l : List Nat} (h : ∀ x ∈ s.xacts, x.stamp ∉ l) : syncClear s l = true := by
  simpa [syncClear] using h

theorem syncDone_of_clear {l : List Nat} (hsync : tabGet none s.xlt.sync n = some l) (h : ∀ x ∈ s.xacts, x.stamp ∉ l) :
    syncDone s n = indEnd (xltMod s (fun x => { x with sync := tabDel x.sync n })) n 0 := by
  simp only [syncDone, hsync]
  exact if_pos (syncClear_of_none h)

end Indirect

/-- Settles O25: each command is one branch of `indCmd`, and SYNC_DONE one of `syncDone`. -/
theorem indirectPortCompletes : Obligations.IndirectPortCompletes := by
  unfold Obligations.IndirectPortCompletes
  intro s n ret i p idx key stat done e k
  refine ⟨fun hidle hbudget => ⟨?read, ?write⟩, fun hidle => ?sync, fun l hl hclear => ?syncDone, fun herr => ?writeback⟩
  case read => exact congrArg finish (indCmd_of_read hidle hbudget)
  case write => exact congrArg finish (indCmd_of_write hidle hbudget)
  case sync => exact congrArg finish (indCmd_of_sync hidle)
  case syncDone => exact congrArg finish (syncDone_of_clear hl hclear)
  case writeback => exact congrArg finish (if_pos herr)

/-! ## The dirty log -/

section Dirty

variable {s : State} {f l : Nat} {d : DirtyLine}

theorem evictLine_of_found (h : s.xlt.lines.find? (fun d => !d.queued && (d.fn == f && d.line == l)) = some d) : evictLine s f l =
    flushLine (xltMod (lineMod s d.ser (fun e => { e with queued := true })) (fun x => { x with evicts := x.evicts + 1 })) { d with queued := true } := by
  simp only [evictLine, evictFirst, h]

theorem flushMerge_of_read {b : List Byte} (h : (dirtyLines s f l).find? (fun d => d.reading && d.data.isSome) = some d)
    (hdata : d.data = some (some b)) : flushMerge s f l = if canFlush s f then mergeLine s d b else loseLine s d := by
  simp only [flushMerge, h, hdata]

theorem flushLost_of_found (h : (dirtyLines s f l).find? (fun d => d.queued || d.reading) = some d) : flushLost s f l = loseLine s d := by
  simp only [flushLost, h]

@[simp] theorem enqueue_xlt (s : State) (x : Xact) : (enqueue s x).xlt = s.xlt := by
  unfold enqueue
  dsimp only
  split
  · rw [fldPut_xlt]
    rfl
  · rfl

/-- A merge begins no line and ends none. -/
theorem mergeLine_serials (s : State) (d : DirtyLine) (b : List Byte) :
    (mergeLine s d b).xlt.lines.map (fun x => x.ser) = s.xlt.lines.map (fun x => x.ser) := by
  have h (x : DirtyLine) : (if x.ser = d.ser then { x with reading := false, writing := true } else x).ser = x.ser := by split <;> rfl
  rw [mergeLine, enqueue_xlt, lineMod, xltMod, List.map_map]
  exact List.map_congr_left (fun x _ => h x)

theorem lineSent_drops {ser : Nat} {x : DirtyLine} (h : x ∈ (lineSent s ser).xlt.lines) : x.ser ≠ ser := by
  have hmem : x ∈ s.xlt.lines.filter (fun d => d.ser != ser) := h
  exact bne_iff_ne.1 (List.mem_filter.1 hmem).2

end Dirty

/-- Settles O26: each command acts on the line that it finds. -/
theorem dirtyLogCommandsComplete : Obligations.DirtyLogCommandsComplete := by
  unfold Obligations.DirtyLogCommandsComplete
  intro s f l d mine lost
  have hlost : loseLine s d = lost := rfl
  refine ⟨fun hfind => ?evict, fun b hfind hdata => ?merge, mergeLine_serials .., fun x hx => lineSent_drops hx, fun hfind => ?lost⟩
  case evict => exact congrArg finish (evictLine_of_found hfind)
  case merge => exact congrArg finish (flushMerge_of_read hfind hdata)
  case lost => exact congrArg finish (flushLost_of_found hfind)

/-! ## Claims -/

section Claims

variable {s : State} {t i : Nat}

theorem claim_of_none (h : s.intr.srcs.find? (fun i => routed s i t) = none) : claim s t = (0xFFF#32, s) := by simp only [claim, h]

theorem claim_of_found (h : s.intr.srcs.find? (fun i => routed s i t) = some i) : claim s t =
    (let u := intrMod s (fun x => { x with srcs := setDel i x.srcs, claims := tabIns x.claims i (t, s.time.toNat) })
     (setBit (BitVec.ofNat 32 i) 31 (pendingFor u t), alertEdge s u)) := by
  simp only [claim, h]

theorem claimDone_of_held {h : Nat} (hmem : (i, t, h) ∈ s.intr.claims) :
    claimDone s t i = intrMod s (fun x => { x with claims := tabDel x.claims i }) := by
  have hany : s.intr.claims.any (fun c => c.1 == i && c.2.1 == t) = true := List.any_eq_true.2 ⟨_, hmem, by simp⟩
  exact if_pos hany

theorem claimExpire_of_held {h : Nat × Nat} (hmem : (i, h) ∈ s.intr.claims) : claimExpire s i =
    setEvt (bump (intrMod s (fun x => { x with claims := tabDel x.claims i })) (evrPg + 0x400)) evrPg 8 := by
  have hany : s.intr.claims.any (fun c => c.1 == i) = true := List.any_eq_true.2 ⟨_, hmem, by simp⟩
  exact if_pos hany

end Claims

/-- Settles O27: a claim answers what `claim` finds; the other two find their claim among those held. -/
theorem routerCommandsComplete : Obligations.RouterCommandsComplete := by
  unfold Obligations.RouterCommandsComplete
  intro s t tag i r gave claims
  refine ⟨fun hnone => ?none, fun j hfound => ?found, fun h hmem => ?complete, fun h hmem => ?expire⟩
  case none =>
    show finish (answerRead (claim s t.val).2 r tag.val false false (wordBytes (claim s t.val).1)) = _
    rw [claim_of_none hnone]
    rfl
  case found =>
    show finish (answerRead (claim s t.val).2 r tag.val false false (wordBytes (claim s t.val).1)) = _
    rw [claim_of_found hfound]
    rfl
  case complete => exact congrArg finish (claimDone_of_held hmem)
  case expire => exact congrArg finish (claimExpire_of_held hmem)

end Sys2Proof.Machine
end

section
/-! The laws of the snapshot mailbox (R58, R68, R69, R70). -/

namespace Sys2Proof.Machine

open Sys2Proof.Spec

section Mailbox

variable {s : State} {pg c : Nat}

/-- A wide value takes an open value at most, and leaves every mailbox. -/
theorem wideValue_mbox (s : State) (pg sel : Nat) : (wideValue s pg sel).2.mbox = s.mbox := by
  have htim : (timMbox s sel).2.mbox = s.mbox := by
    unfold timMbox
    split
    · rfl
    · split
      · rfl
      · split <;> rfl
  unfold wideValue
  dsimp only
  split
  case h_6 => exact htim
  all_goals rfl

theorem mboxOf_mboxMod (g : Mbox → Mbox) : mboxOf (mboxMod s pg g) pg = g (mboxOf s pg) := by
  exact (tabGet_tabMod ..).trans (if_pos rfl)

/-- A snap of an idle mailbox, before the value is captured. -/
def mboxAsked (s : State) (pg : Nat) : State :=
  mboxMod s pg (fun x => { x with due := some (fldAt s (pg * 0x1000 + 0x028) 15 0), seen := false })

theorem mboxTake_of_asked (sel : Nat) : mboxTake (mboxAsked s pg) pg sel =
    (let p := wideValue (mboxAsked s pg) pg sel
     { p.2 with mbox := tabPut Mbox.idle p.2.mbox pg { data := p.1.getD [0, 0, 0, 0], bad := p.1.isNone, seen := false, due := none } }) := by
  have hbox : mboxOf (wideValue (mboxAsked s pg) pg sel).2 pg = mboxOf (mboxAsked s pg) pg := by rw [mboxOf, wideValue_mbox, mboxOf]
  have hseen : (mboxOf (wideValue (mboxAsked s pg) pg sel).2 pg).seen = false := by rw [hbox, mboxAsked, mboxOf_mboxMod]
  generalize hp : wideValue (mboxAsked s pg) pg sel = p at hseen
  have htake : mboxTake (mboxAsked s pg) pg sel =
      mboxMod p.2 pg (fun x => { x with data := p.1.getD [0, 0, 0, 0], bad := p.1.isNone, due := none }) := by rw [mboxTake, hp]
  rw [htake, mboxMod, tabMod]
  simp only [mboxOf] at hseen
  simp only [hseen]

theorem mboxSnap_of_seen {sel : Nat} (hsel : fldAt s (pg * 0x1000 + 0x028) 15 0 = sel) (h : (mboxOf s pg).seen = true) : mboxSnap s pg c =
    regPut (if trickEndBook pg sel then mboxAsked s pg else mboxTake (mboxAsked s pg) pg sel) (mboxCtl pg)
      (w32 ((bits (regAt s (mboxCtl pg)) 15 8 + 1) % 256 * 256 + c * 16 + 1)) := by
  subst hsel
  unfold mboxSnap
  dsimp only
  rw [h, Bool.not_true, Bool.false_and, if_neg Bool.false_ne_true]
  rfl

/-- A write of 1 to SNAP reaches the mailbox of its page. -/
theorem writeReg_mboxCtl {r : Req} (hopen : openTo s r (mboxCtl pg) = true) (first : Nat) :
    writeReg s r (mboxCtl pg) 0xFFFFFFFF#32 1 first = mboxSnap s pg r.code.val := by
  have hoff : mboxCtl pg % 0x1000 = 0x02C := by unfold mboxCtl; omega
  have hpage : mboxCtl pg / 0x1000 = pg := by unfold mboxCtl; omega
  have hbit : bitOf (0xFFFFFFFF#32 &&& 1) 0 = true := by decide
  simp only [writeReg, hopen, hoff, hpage, hbit]
  rfl

theorem mboxValid_of_captured (hsnap : bitOf (regAt s (mboxCtl pg)) 0 = true) (hdue : (mboxOf s pg).due = none) : mboxValid s pg =
    (let x := mboxOf s pg
     let u := (List.range 4).foldl (fun s i => regPut s (pg * 0x1000 + 0x030 + 4 * i) (x.data.getD i 0)) s
     regPut u (mboxCtl pg) (setBit (setBit (setBit (regAt u (mboxCtl pg)) 0 false) 1 true) 2 x.bad)) := by
  have hgate : (!flagAt s (mboxCtl pg) 0 || (mboxOf s pg).due.isSome) = false := by simp [flagAt, hsnap, hdue]
  unfold mboxValid
  dsimp only
  rw [hgate, if_neg (by decide)]

end Mailbox

/-- Settles O18: a snap is the write that reaches `mboxSnap`; a captured value is shown by `mboxValid`. -/
theorem mailboxCommandsComplete : Obligations.MailboxCommandsComplete := by
  unfold Obligations.MailboxCommandsComplete
  intro s r page pg ctl box word
  refine ⟨fun hmay hreg hopen hseen => ?snap, fun hsnap hdue => ?valid⟩
  case snap =>
    have halign : mboxCtl pg % 4 = 0 := by unfold mboxCtl; omega
    show finish (registerWrite s r (mboxCtl pg) (whole 1)) = _
    rw [registerWrite_word _ _ _ _ hmay halign hreg, writeReg_mboxCtl hopen, mboxSnap_of_seen rfl hseen, mboxTake_of_asked]
    rfl
  case valid => exact congrArg finish (mboxValid_of_captured hsnap hdue)

end Sys2Proof.Machine
end

section
/-! The laws of the configuration writes that change a function's standing (R180, R185, R198, R199, R202, R203). -/

namespace Sys2Proof.Machine

open Sys2Proof.Spec

/-! ## Written words -/

/-- A field that is put back. -/
theorem setBits_restore (w : Word) (hi lo v : Nat) (h : lo ≤ hi) : setBits (setBits w hi lo v) hi lo (bits w hi lo) = w := by
  refine BitVec.eq_of_getLsbD_eq fun i _ => ?_
  rw [← bitOf_eq, ← bitOf_eq, bitOf_setBits _ _ _ _ _ h, bitOf_setBits _ _ _ _ _ h]
  by_cases hin : lo ≤ i ∧ i ≤ hi ∧ i < 32
  · have hlt : i - lo < hi + 1 - lo := by omega
    have hback : lo + (i - lo) = i := by omega
    rw [if_pos hin, testBit_bits, hback, decide_eq_true hlt, Bool.true_and]
  · rw [if_neg hin, if_neg hin]

section CfgWrite

variable {s : State} {f : Nat} {m v : Word}

/-- A write of bits that are all writable and none of which a 1 clears. -/
theorem cfgWord_of_writable {old rw_ w1c : Word} (hrw : m &&& rw_ = m) (hw1c : m &&& w1c = 0) :
    maskWrite old (m &&& rw_) v &&& ~~~(m &&& w1c &&& v) = maskWrite old m v := by
  have hzero : ~~~((0 : Word) &&& v) = BitVec.allOnes 32 := (congrArg (~~~ ·) (BitVec.zero_and (x := v)))
  rw [hrw, hw1c, hzero, BitVec.and_allOnes]

theorem isVf_seat (n : Fin 6) : isVf n.val = false := by simp [isVf]

theorem cfgRw_command (s : State) (f : Nat) : cfgRw s f 0x04 = if isVf f then 0x4#32 else 0x146#32 := rfl

theorem cfgRw_sriov (s : State) (h : isVf f = false) : cfgRw s f 0x170 = 0x19#32 := by
  show (if isVf f then 0 else 0x19#32) = _
  rw [h]
  rfl

theorem cfgW1c_sriov (h : isVf f = false) : cfgW1c f 0x170 = 0 := by
  show (if isVf f then 0 else capW1c 0x170) = _
  rw [h]
  rfl

theorem cfgWrite_command (hrw : m &&& cfgRw s f 0x04 = m) (hw1c : m &&& 0xF9000000#32 = 0) :
    cfgWrite s f 0x04 m v = cfgPut s f 0x04 (maskWrite (cfgAt s f 0x04) m v) := by
  have hword := cfgWord_of_writable (v := v) (old := cfgAt s f 0x04) hrw hw1c
  unfold cfgWrite
  dsimp only
  rw [if_neg (by omega), if_neg (by decide), if_neg (by decide), if_neg (by omega), if_neg (by omega), if_neg (by omega)]
  exact congrArg (cfgPut s f 0x04) hword

theorem cfgWrite_power (hrw : m &&& 0x103#32 = m) (hw1c : m &&& 0x8000#32 = 0) : cfgWrite s f 0x44 m v =
    (let w := maskWrite (cfgAt s f 0x44) m v
     cfgPut s f 0x44 (if bits w 1 0 = 1 ∨ bits w 1 0 = 2 then setBits w 1 0 (bits (cfgAt s f 0x44) 1 0) else w)) := by
  have hword := cfgWord_of_writable (v := v) (old := cfgAt s f 0x44) hrw hw1c
  unfold cfgWrite
  dsimp only
  rw [if_neg (by omega), if_pos rfl, show cfgRw s f 0x44 = 0x103#32 from rfl, show cfgW1c f 0x44 = 0x8000#32 from rfl, hword]

theorem cfgWrite_sriov (hvf : isVf f = false) (hrw : m &&& 0x19#32 = m) : cfgWrite s f 0x170 m v =
    (let w := maskWrite (cfgAt s f 0x170) m v
     let u := cfgPut s f 0x170 w
     if bitOf w 0 = bitOf (cfgAt s f 0x170) 0 then u
     else if bitOf w 0 then vfChanged u f
     else fnMod (vfChanged u f) f (fun x => { x with vfClear := true })) := by
  have hword := cfgWord_of_writable (v := v) (old := cfgAt s f 0x170) (w1c := 0) hrw (BitVec.and_zero ..)
  unfold cfgWrite
  dsimp only
  rw [if_neg (by omega), if_neg (by decide), if_neg (by decide), if_neg (by omega), if_pos ⟨rfl, by rw [hvf]; rfl⟩, cfgRw_sriov s hvf,
    cfgW1c_sriov hvf, hword]

end CfgWrite

theorem maskWrite_one_bit (w : Word) (on : Bool) :
    maskWrite w 0x4#32 (if on then 0x4#32 else 0) = setBit w 2 on ∧ maskWrite w 0x2#32 (if on then 0x2#32 else 0) = setBit w 1 on ∧
      maskWrite w 0x8#32 (if on then 0x8#32 else 0) = setBit w 3 on := by
  cases on <;> exact ⟨rfl, rfl, rfl⟩

theorem maskWrite_low_two (w : Word) (d : Fin 4) : maskWrite w 0x3#32 (BitVec.ofNat 32 d.val) = setBits w 1 0 d.val := rfl

/-- Settles O28: each command is a write whose word and whose branch of `cfgWrite` are named, or one condition. -/
theorem functionConfigurationCompletes : Obligations.FunctionConfigurationCompletes := by
  unfold Obligations.FunctionConfigurationCompletes
  intro s f n on d x fns vfe present
  have hbit (on : Bool) : bitOf (vfe on) 0 = on := by
    rw [bitOf_eq]
    cases on <;> simp [vfe]
  have hset : maskWrite (cfgAt s n.val 0x170) 0x1#32 0x1#32 = vfe true := rfl
  have hclear : maskWrite (cfgAt s n.val 0x170) 0x1#32 0 = vfe false := rfl
  obtain ⟨hmaster, hmemory, hvfs⟩ : _ ∧ _ ∧ _ :=
    ⟨(maskWrite_one_bit (cfgAt s f.val 0x04) on).1, (maskWrite_one_bit (cfgAt s n.val 0x04) on).2.1, (maskWrite_one_bit (cfgAt s n.val 0x170) on).2.2⟩
  refine ⟨fun hpres hflr => ?flr, fun hoff => ?vfSet, fun hon => ?vfClear, fun hvf hpres hflr => ?ready, fun hpres => ?master, ?memory, ?vfMemory,
    fun hpres hd => ?power, fun hpres hd => ?kept⟩
  case flr =>
    have hgate : ((fnOf s f.val).flr || !fnPresent s f.val) = false := by
      rw [show fnPresent s f.val = true from hpres, show (fnOf s f.val).flr = false from hflr]
      rfl
    exact congrArg finish (if_neg (by rw [hgate]; decide))
  case vfSet =>
    show finish (cfgWrite s n.val 0x170 0x1#32 0x1#32) = _
    rw [cfgWrite_sriov (isVf_seat n) rfl, hset]
    dsimp only
    rw [hbit, hoff, if_neg (by decide), if_pos rfl]
    rfl
  case vfClear =>
    show finish (cfgWrite s n.val 0x170 0x1#32 0) = _
    rw [cfgWrite_sriov (isVf_seat n) rfl, hclear]
    dsimp only
    rw [hbit, hon, if_neg (by decide), if_neg (by decide)]
    rfl
  case ready =>
    have hgate : (isVf f.val && fnPresent s f.val && !(fnOf s f.val).flr) = true := by
      rw [show fnPresent s f.val = true from hpres, show (fnOf s f.val).flr = false from hflr, isVf, decide_eq_true hvf]
      rfl
    exact congrArg finish (if_pos hgate)
  case master =>
    have hrw : 0x4#32 &&& cfgRw s f.val 0x04 = 0x4#32 := by
      rw [cfgRw_command]
      split <;> rfl
    show finish (if fnPresent s f.val then cfgWrite s f.val 0x04 0x4#32 (if on then 0x4#32 else 0) else s) = _
    rw [if_pos hpres, cfgWrite_command hrw rfl, hmaster]
    rfl
  case memory =>
    have hrw : 0x2#32 &&& cfgRw s n.val 0x04 = 0x2#32 := by
      rw [cfgRw_command, isVf_seat]
      rfl
    show finish (cfgWrite s n.val 0x04 0x2#32 (if on then 0x2#32 else 0)) = _
    rw [cfgWrite_command hrw rfl, hmemory]
    rfl
  case vfMemory =>
    have hkeeps : bitOf (setBit (cfgAt s n.val 0x170) 3 on) 0 = bitOf (cfgAt s n.val 0x170) 0 :=
      (bitOf_setBits _ _ _ _ _ (Nat.le_refl 3)).trans (if_neg (by omega))
    show finish (cfgWrite s n.val 0x170 0x8#32 (if on then 0x8#32 else 0)) = _
    rw [cfgWrite_sriov (isVf_seat n) rfl, hvfs]
    dsimp only
    rw [if_pos hkeeps]
    rfl
  case power =>
    have hword : bits (setBits (cfgAt s f.val 0x44) 1 0 d.val) 1 0 = d.val := (bits_setBits_same _ _ _ _ (by decide) (by decide)).trans (by omega)
    show finish (if fnPresent s f.val then cfgWrite s f.val 0x44 0x3#32 (BitVec.ofNat 32 d.val) else s) = _
    rw [if_pos hpres, cfgWrite_power rfl rfl, maskWrite_low_two]
    dsimp only
    rw [hword, if_neg (by omega)]
    rfl
  case kept =>
    have hword : bits (setBits (cfgAt s f.val 0x44) 1 0 d.val) 1 0 = d.val := (bits_setBits_same _ _ _ _ (by decide) (by decide)).trans (by omega)
    show finish (if fnPresent s f.val then cfgWrite s f.val 0x44 0x3#32 (BitVec.ofNat 32 d.val) else s) = _
    rw [if_pos hpres, cfgWrite_power rfl rfl, maskWrite_low_two]
    dsimp only
    rw [hword, if_pos hd, setBits_restore _ _ _ _ (by decide)]
    rfl

end Sys2Proof.Machine
end

section
/-! The laws of PST.CMD and its batches (R517, R519, R520, R521), and of power failure (R524, R525, R527). -/

namespace Sys2Proof.Machine

open Sys2Proof.Spec

section Commands

variable {s : State} {r : Req} {len region : Nat}

/-- What a command of the store needs to be taken: no shed mode, a place inside the region, an allowing life cycle, a store that is ready. -/
theorem pstRefusal_eq_zero {write : Bool} (hshed : s.boot.shed = false)
    (hsize : 64 * (fldAt s (pstPg + 0x110) 21 6 + len + 1) ≤ (regionAt region).2) (hwrite : ¬ (write = true ∧ region ≠ 0)) (hscrap : s.lcs.fuse ≠ 5)
    (hfuse : ¬ (s.lcs.fuse = 4 ∧ region ≤ 1)) (hready : s.store.ready = true) : pstRefusal s write region len = 0 := by
  unfold pstRefusal
  dsimp only
  rw [hshed, hready, if_neg (by decide), if_neg (Nat.not_lt.2 hsize), if_neg hwrite, if_neg (not_or.2 ⟨hscrap, hfuse⟩), if_neg (by decide)]

theorem pstRead_of_free (htrust : trusted s r = true) (hidle : flagAt s pstCmd 27 = false) (hfree : pstRefusal s false region len = 0) (corr : Nat)
    (bad : Bool) : pstRead s r len region corr bad =
      (let u := bumpBy (pstSet s len region) (pstPg + 0x208) (min corr (len + 1))
       if bad then raiseErr (fldPut u pstCmd 31 28 3) pstPg 8
       else fldPut (bufPut u (pstPg + 0x400) (storeRead u (pstAddr u region) (64 * (len + 1))) 0) pstCmd 31 28 0) := by
  unfold pstRead
  dsimp only
  rw [htrust, hidle, hfree, if_neg (by decide), if_neg (by decide), if_neg (by decide)]

/-- A write that has been taken: PST.CMD is BUSY. -/
def pstBegun (s : State) (len region : Nat) : State := fldPut (fldPut (pstSet s len region) pstCmd 31 28 0) pstCmd 27 27 1

theorem pstWrite_of_free (htrust : trusted s r = true) (hidle : flagAt s pstCmd 27 = false) (hfree : pstRefusal s true region len = 0) :
    pstWrite s r len region =
      (let u := pstBegun s len region
       askBatch u { who := .pst, addr := pstAddr u region, data := bufGet u (pstPg + 0x400) (16 * (len + 1)), rec_ := none }) := by
  unfold pstWrite
  dsimp only
  rw [htrust, hidle, hfree, if_neg (by decide), if_neg (by decide), if_neg (by decide)]
  rfl

theorem regAt_pstSet {o : Nat} (h : o ≠ pstCmd) : regAt (pstSet s len region) o = regAt s o := by
  show regAt (fldPut (fldPut s pstCmd 11 8 len) pstCmd 5 4 region) o = _
  rw [regAt_fldPut, if_neg h, regAt_fldPut, if_neg h]

/-- A command's writes leave OFFSET. -/
theorem offset_pstSet : regAt (pstSet s len region) (pstPg + 0x110) = regAt s (pstPg + 0x110) := regAt_pstSet (by decide)

theorem pstAddr_of_offset {u : State} (h : regAt u (pstPg + 0x110) = regAt s (pstPg + 0x110)) (region : Nat) : pstAddr u region = pstAddr s region := by
  rw [pstAddr, pstAddr, fldAt, fldAt, h]

theorem bufGet_length (s : State) (base n : Nat) : (bufGet s base n).length = 4 * n := by
  have hword (i : Nat) : (wordBytes (regAt s (base + 4 * i))).length = 4 := by simp [wordBytes]
  simp only [bufGet, List.length_flatMap, hword]
  rw [List.map_const', List.length_range, List.sum_replicate_nat, Nat.mul_comm]

end Commands

/-! ## Batches -/

section Batches

variable {s : State} {b : Batch}

theorem startBatch_of_pass (hrec : b.rec_ = none) (hwho : (b.who == .crp) = false) (hpass : (holdup s ((b.data.length + 63) / 64)).1 = true) :
    startBatch s b = storeMod (fuseSvn (holdup s ((b.data.length + 63) / 64)).2) (fun x => { x with busy := some b }) := by
  simp only [startBatch, hrec, hpass, hwho]
  rfl

theorem pumpStore_of_wait {l : List Batch} (hbusy : s.store.busy = none) (hshed : s.boot.shed = false) (hwait : s.store.wait = b :: l) :
    pumpStore s = startBatch (storeMod s (fun x => { x with wait := l })) b := by
  simp only [pumpStore, hbusy, hshed, hwait]
  rfl

/-- A store with nothing queued before a batch, which passes its check, writes it. -/
theorem askBatch_of_idle (hbusy : s.store.busy = none) (hwait : s.store.wait = []) (hrecs : s.recs = []) (hshed : s.boot.shed = false)
    (hrec : b.rec_ = none) (hwho : (b.who == .crp) = false) (hpass : (holdup s ((b.data.length + 63) / 64)).1 = true) : askBatch s b =
      storeMod (fuseSvn (holdup s ((b.data.length + 63) / 64)).2) (fun x => { x with busy := some b }) := by
  have hqueue : s.store.wait ++ s.recs.map ringAsk ++ [b] = [b] := by rw [hwait, hrecs]; rfl
  have hpump := pumpStore_of_wait (s := storeMod { s with recs := [] } (fun x => { x with wait := x.wait ++ s.recs.map ringAsk ++ [b] })) (b := b) (l := [])
    hbusy hshed hqueue
  have hsame : storeMod (storeMod { s with recs := [] } (fun x => { x with wait := x.wait ++ s.recs.map ringAsk ++ [b] })) (fun x => { x with wait := [] }) =
      s := by
    show { s with recs := [], store := { s.store with wait := [] } } = s
    rw [← hwait, ← hrecs]
  rw [askBatch, hpump, hsame, startBatch_of_pass hrec hwho hpass]

/-- A write to a store with nothing queued, which passes its check, is written at once. -/
theorem pstWrite_of_idle {r : Req} {len region : Nat} (htrust : trusted s r = true) (hidle : flagAt s pstCmd 27 = false)
    (hfree : pstRefusal s true region len = 0) (hbusy : s.store.busy = none) (hwait : s.store.wait = []) (hrecs : s.recs = [])
    (hshed : s.boot.shed = false) (hpass : (holdup (pstBegun s len region) (len + 1)).1 = true) : pstWrite s r len region =
      storeMod (fuseSvn (holdup (pstBegun s len region) (len + 1)).2) (fun x => { x with
        busy := some { who := .pst, addr := pstAddr (pstBegun s len region) region,
                       data := bufGet (pstBegun s len region) (pstPg + 0x400) (16 * (len + 1)), rec_ := none } }) := by
  have hlen : ((bufGet (pstBegun s len region) (pstPg + 0x400) (16 * (len + 1))).length + 63) / 64 = len + 1 := by
    rw [bufGet_length]
    omega
  rw [pstWrite_of_free htrust hidle hfree]
  dsimp only
  rw [askBatch_of_idle (s := pstBegun s len region) hbusy hwait hrecs hshed rfl rfl (by rw [hlen]; exact hpass), hlen]

theorem storeMod_busy_of_no_wait (h : s.store.wait = []) (b : Option Batch) :
    storeMod s (fun x => { x with busy := b }) = storeMod s (fun x => { x with wait := [], busy := b }) := by
  unfold storeMod
  rw [← h]

theorem fuseSvn_store (s : State) : (fuseSvn s).store = s.store := by
  have h (l : List Nat) (v : List Nat) (u : State) :
      (l.foldl (fun s i => regPut s (lcsPg + 0x110 + 4 * i) (BitVec.ofNat 32 (v.getD i 0))) u).store = u.store := by
    induction l generalizing u with
    | nil => rfl
    | cons i l ih => exact ih _
  exact h ..

theorem holdup_wait (s : State) (k : Nat) : (holdup s k).2.store.wait = s.store.wait := by
  unfold holdup
  split <;> rfl

theorem batchDone_of_pst (hbusy : s.store.busy = some b) (hwho : b.who = .pst) : batchDone s =
    pumpStore (pstEnd (bump (storeMod (storeWrite s b.addr b.data) (fun x => { x with busy := none })) (pstPg + 0x20C)) 0) := by
  simp only [batchDone, hbusy, hwho]

end Batches

/-- Settles O6: a command that is taken reads its granules, or writes its batch at once; a batch that is done ends its command. -/
theorem storeCommandsComplete : Obligations.StoreCommandsComplete := by
  unfold Obligations.StoreCommandsComplete
  intro s r len region corr cmd g base size free took n
  have hregion : regionAt region.val = (base, size) := by
    unfold base size
    match region with
    | ⟨0, _⟩ | ⟨1, _⟩ | ⟨2, _⟩ | ⟨3, _⟩ => rfl
  have haddr {u : State} (h : regAt u (pstPg + 0x110) = regAt s (pstPg + 0x110)) : pstAddr u region.val = base + 64 * g := by
    rw [pstAddr_of_offset h, pstAddr, hregion]
  have htaken (write : Bool) (hwrite : ¬ (write = true ∧ region.val ≠ 0)) (hfree : free) : pstRefusal s write region.val len.val = 0 := by
    obtain ⟨hshed, hsize, hscrap, hfuse, hready⟩ := hfree
    exact pstRefusal_eq_zero hshed (by rwa [hregion]) hwrite hscrap hfuse hready
  have hread (bad : Bool) (htrust : trusted s r = true) (hidle : flagAt s cmd 27 = false) (hfree : free) :=
    pstRead_of_free htrust hidle (htaken false (by simp) hfree) corr bad
  refine ⟨fun htrust hidle hfree => ?read, fun htrust hidle hfree => ?ecc,
    fun htrust hidle hfree hregion0 hbusy hwait hrecs u hu hpass => ?write, fun b hbusy hwho => ?done⟩
  case read =>
    have hoff : regAt (bumpBy (pstSet s len.val region.val) (pstPg + 0x208) (min corr (len.val + 1))) (pstPg + 0x110) = regAt s (pstPg + 0x110) := by
      rw [bumpBy, regAt_regPut, if_neg (by decide), offset_pstSet]
    show finish (pstRead s r len.val region.val corr false) = _
    rw [hread false htrust hidle hfree]
    dsimp only
    rw [haddr hoff]
    rfl
  case ecc => exact congrArg finish (hread true htrust hidle hfree)
  case write =>
    subst hu
    have hoff : regAt (pstBegun s len.val region.val) (pstPg + 0x110) = regAt s (pstPg + 0x110) := by
      rw [pstBegun, regAt_fldPut, if_neg (by decide), regAt_fldPut, if_neg (by decide), offset_pstSet]
    have hwait' : (fuseSvn (holdup (pstBegun s len.val region.val) (len.val + 1)).2).store.wait = [] := by
      rw [fuseSvn_store, holdup_wait]
      exact hwait
    show finish (pstWrite s r len.val region.val) = _
    rw [pstWrite_of_idle htrust hidle (htaken true (by simp [hregion0]) hfree) hbusy hwait hrecs hfree.1 hpass, haddr hoff, storeMod_busy_of_no_wait hwait']
    rfl
  case done => exact congrArg finish (batchDone_of_pst hbusy hwho)

/-! ## Power failure -/

section PowerFailure

variable {s : State}

theorem powerFail_of_up (hoff : isOff s = false) (hshed : s.boot.shed = false) : powerFail s =
    (let due := if s.store.ready then some (if s.pwr.state = 3 then 256 else 4096, s.time.toNat, handNo s, failBody s) else none
     let u := setEvt (faultTable s 0x0B 0 false) pstPg 9
     let v := refuseQueued (storeMod { u with boot := { u.boot with shed := true } } (fun x => { x with final := due }))
     { v with crp := { v.crp with engs := v.crp.engs.map (fun p => (p.1, { p.2 with run := false, pend := [] })) } }) := by
  unfold powerFail
  exact if_neg (by simp [hoff, hshed])

theorem powerFailRecord_of_due {len t h : Nat} {body : List Byte} (hdue : s.store.final = some (len, t, h, body)) (hbusy : s.store.busy = none) :
    powerFailRecord s =
      ringDone (storeMod (storeWrite s (0x210000 + 64 * ringPlace s len) (ringBytes 2 (ringSeq s) t h len body)) (fun x => { x with final := none }))
        (ringPlace s len) len := by
  simp only [powerFailRecord, hdue, hbusy]

/-- The place of the ring moves on by HEAD and SEQ alone. -/
theorem ringDone_storeMod (s : State) (f : Store → Store) (g len : Nat) : ringDone (storeMod s f) g len =
    regPut (regPut (storeMod s f) (pstPg + 0x144) (BitVec.ofNat 32 ((g + len / 64) % 32768))) (pstPg + 0x148) (BitVec.ofNat 32 (ringSeq s)) := rfl

end PowerFailure

/-- Settles O7: both commands are one branch of their functions. -/
theorem powerFailureCompletes : Obligations.PowerFailureCompletes := by
  unfold Obligations.PowerFailureCompletes
  intro s
  refine ⟨fun hoff hshed => ?fails, fun len time hand body hdue hbusy => ?record⟩
  case fails =>
    show finish (powerFail s) = _
    rw [powerFail_of_up hoff hshed]
    dsimp only
    generalize setEvt (faultTable s 0x0B 0 false) pstPg 9 = u
    rfl
  case record =>
    show finish (powerFailRecord s) = _
    rw [powerFailRecord_of_due hdue hbusy, ringDone_storeMod, ringPlace, ringHead, ringSeq]
    rfl

end Sys2Proof.Machine
end

section
/-! The laws of the life cycle (R529, R530), of IDE key management (R169, R536) and of SPDM (R535). -/

namespace Sys2Proof.Machine

open Sys2Proof.Spec

/-! ## The life cycle -/

section LifeCycle

variable {s u : State} {r : Req}

theorem lcsCommand_of_open (hwho : fromButton s r = true ∨ r.code.val = 6) (hnext : s.lcs.next = 0) (f : State → State) : lcsCommand s r f = f s := by
  have hgate : (fromButton s r || r.code.val == 6) = true := by
    rcases hwho with h | h
    · rw [h, Bool.true_or]
    · rw [h, Bool.or_eq_true]
      exact Or.inr rfl
  unfold lcsCommand
  rw [hgate, if_neg (by decide), if_neg (Classical.not_not.2 hnext)]

theorem holdup_passes (s : State) (k : Nat) : (holdup s k).1 = (flagAt s (pstPg + 0x108) 8 || decide (holdupNeed k ≤ holdupE s)) := by
  unfold holdup
  split
  case isTrue h => rw [h, Bool.true_or]
  case isFalse h => rw [eq_false_of_ne_true h, Bool.false_or]

/-- The hold-up check asks the registers and the sensors alone. -/
theorem holdup_congr (hregs : u.regs = s.regs) (hsens : u.sens = s.sens) (k : Nat) : (holdup u k).1 = (holdup s k).1 := by
  have hreg (o : Nat) : regAt u o = regAt s o := by rw [regAt, regAt, hregs]
  have hE : holdupE u = holdupE s := by simp only [holdupE, fldAt, hreg, chanOf, hsens]
  rw [holdup_passes, holdup_passes, flagAt, flagAt, hreg, hE]

theorem holdup_boot (s : State) (k : Nat) : (holdup s k).2.boot = s.boot := by
  unfold holdup
  split <;> rfl

theorem fuseSvn_fuse (s : State) : (fuseSvn s).lcs.fuse = s.lcs.fuse := by
  have h (l v : List Nat) (u : State) :
      (l.foldl (fun s i => regPut s (lcsPg + 0x110 + 4 * i) (BitVec.ofNat 32 (v.getD i 0))) u).lcs = u.lcs := by
    induction l generalizing u with
    | nil => rfl
    | cons i l ih => exact ih _
  unfold fuseSvn
  dsimp only
  rw [h]

theorem lcsBlow_of_pass (hpass : (holdup s 1024).1 = true) (hshed : s.boot.shed = false) (to_ code : Nat) (h : List Word) :
    lcsBlow s to_ code h = blown s to_ code h := by
  have hgate : ((holdup s 1024).2.boot.shed || !(holdup s 1024).1) = false := by rw [holdup_boot, hshed, hpass]; rfl
  unfold lcsBlow blown
  dsimp only
  rw [hgate, if_neg (by decide), fuseSvn_fuse]
  rfl

theorem blown_next (s : State) (to_ code : Nat) (h : List Word) : (blown s to_ code h).lcs.next = to_ := by
  unfold blown
  dsimp only
  generalize fuseSvn (holdup s 1024).2 = v
  rfl

theorem provision_of_maker (hfuse : s.lcs.fuse = 1) (hpass : (holdup s 1024).1 = true) (hshed : s.boot.shed = false) : provision s =
    lcsMod (blown s 2 1 []) (fun l => { l with owner := bufGet s (pstPg + 0x400) 12 }) := by
  unfold provision
  dsimp only
  rw [if_neg (Classical.not_not.2 hfuse), lcsBlow_of_pass hpass hshed, if_pos (blown_next ..)]

theorem tokenJudge_of_open (hfails : s.lcs.fails < 8) (type : Nat) :
    tokenJudge s type = (if tokenOk s type then 0 else 2, judged s (tokenOk s type)) := by
  unfold tokenJudge
  dsimp only
  rw [if_neg (by omega)]
  split
  case isTrue h => rw [h]; rfl
  case isFalse h => rw [eq_false_of_ne_true h]; rfl

theorem tokenJudge_of_locked (hfails : 8 ≤ s.lcs.fails) (type : Nat) :
    tokenJudge s type = (5, lcsMod s (fun l => { l with nonce := l.nonce + 1 })) := if_pos hfails

/-- RETURN, judged after its hash has been taken. -/
theorem returnPart_of_field (hfuse : s.lcs.fuse = 3) (hfails : s.lcs.fails < 8) (hpass : (holdup s 1024).1 = true) (hshed : s.boot.shed = false) :
    returnPart s =
      (let u := judged { s with freeCtr := s.freeCtr + 2 } (tokenOk s 2)
       if tokenOk s 2 then blown u 4 3 [BitVec.ofNat 32 (Config.freeValue s.freeCtr), BitVec.ofNat 32 (Config.freeValue (s.freeCtr + 1))]
       else lcsEnd u 2) := by
  have hjudge : tokenJudge { s with freeCtr := s.freeCtr + 2 } 2 = (if tokenOk s 2 then 0 else 2, judged { s with freeCtr := s.freeCtr + 2 } (tokenOk s 2)) :=
    tokenJudge_of_open (s := { s with freeCtr := s.freeCtr + 2 }) hfails 2
  unfold returnPart
  dsimp only
  rw [if_neg (Classical.not_not.2 hfuse), show (tokenHash s).2 = { s with freeCtr := s.freeCtr + 2 } from rfl, hjudge]
  dsimp only
  split
  case isTrue h =>
    have hsame : (holdup (judged { s with freeCtr := s.freeCtr + 2 } (tokenOk s 2)) 1024).1 = (holdup s 1024).1 := by
      apply holdup_congr <;> rfl
    rw [if_neg (by decide), lcsBlow_of_pass (hsame.trans hpass) hshed]
    rfl
  case isFalse h => rw [if_pos (by decide)]

theorem debugPart_of_field (hfuse : s.lcs.fuse = 3) (hfails : s.lcs.fails < 8) : debugPart s =
    (let u := judged s (tokenOk s 1)
     if tokenOk s 1 then
       lcsEnd (fldPut (lcsMod u (fun l => { l with debugLeft := some (numAt (tokenBytes s) 0x28 2) })) (lcsPg + 0x100) 26 26 1) 0
     else lcsEnd u 2) := by
  unfold debugPart
  dsimp only
  rw [if_neg (Classical.not_not.2 hfuse), tokenJudge_of_open hfails]
  dsimp only
  split
  case isTrue h => rw [if_neg (by decide)]
  case isFalse h => rw [if_pos (by decide)]

theorem debugPart_of_locked (hfuse : s.lcs.fuse = 3) (hfails : 8 ≤ s.lcs.fails) :
    debugPart s = lcsEnd (lcsMod s (fun l => { l with nonce := l.nonce + 1 })) 5 := by
  unfold debugPart
  dsimp only
  rw [if_neg (Classical.not_not.2 hfuse), tokenJudge_of_locked hfails]
  rfl

end LifeCycle

/-- Settles O8: a command that is honoured blows its fuses, or is judged with its token. -/
theorem lifeCycleCommandsComplete : Obligations.LifeCycleCommandsComplete := by
  unfold Obligations.LifeCycleCommandsComplete
  intro s r hwho hnext hshed hpass buf
  have hopen (f : State → State) : finish (lcsCommand s r f) = finish (f s) := congrArg finish (lcsCommand_of_open hwho hnext f)
  refine ⟨fun hfuse => ?provision, fun hfuse => ?close, fun hfuse hfails => ?returns, fun hfuse hfails => ?locked, fun hconfirm => ?scrap,
    fun hfuse hfails => ?debug, fun hleft => ?expire⟩
  case provision => exact (hopen provision).trans (congrArg finish (provision_of_maker hfuse hpass hshed))
  case close => exact (hopen closePart).trans (congrArg finish ((if_neg (Classical.not_not.2 hfuse)).trans (lcsBlow_of_pass hpass hshed 3 2 [])))
  case returns => exact (hopen returnPart).trans (congrArg finish (returnPart_of_field hfuse hfails hpass hshed))
  case locked => exact (hopen debugPart).trans (congrArg finish (debugPart_of_locked hfuse hfails))
  case scrap => exact (hopen scrapPart).trans (congrArg finish ((if_neg (Classical.not_not.2 hconfirm)).trans (lcsBlow_of_pass hpass hshed 5 4 [])))
  case debug => exact (hopen debugPart).trans (congrArg finish (debugPart_of_field hfuse hfails))
  case expire => exact congrArg finish (if_pos hleft)

/-! ## Tables written twice -/

theorem tabIns_tabIns {α : Type} (t : Tab α) (k : Nat) (v w : α) : tabIns (tabIns t k v) k w = tabIns t k w := by
  induction t with
  | nil => simp [tabIns]
  | cons p r ih =>
    obtain ⟨j, x⟩ := p
    rcases Nat.lt_trichotomy k j with hlt | heq | hgt
    · have hne : ¬ j = k := by omega
      simp [tabIns, hlt, hne]
    · simp [tabIns, heq]
    · have hne : ¬ j = k := by omega
      have hle : ¬ k < j := by omega
      simp [tabIns, hne, hle, ih]

theorem tabDel_tabIns {α : Type} (t : Tab α) (k : Nat) (v : α) : tabDel (tabIns t k v) k = tabDel t k := by
  induction t with
  | nil => simp [tabIns, tabDel]
  | cons p r ih =>
    obtain ⟨j, x⟩ := p
    rcases Nat.lt_trichotomy k j with hlt | heq | hgt
    · have hne : ¬ j = k := by omega
      simp [tabIns, tabDel, hlt, hne]
    · simp [tabIns, tabDel, heq]
    · have hne : ¬ j = k := by omega
      have hle : ¬ k < j := by omega
      simp [tabIns, tabDel, hne, hle, ih]

theorem tabDel_tabDel {α : Type} (t : Tab α) (k : Nat) : tabDel (tabDel t k) k = tabDel t k := by
  induction t with
  | nil => rfl
  | cons p r ih =>
    obtain ⟨j, x⟩ := p
    by_cases h : j = k
    · simp [tabDel, h, ih]
    · simp [tabDel, h, ih]

/-- The second of two writes of a key stands, where a default is not written over by another value. -/
theorem tabPut_tabPut {α : Type} [DecidableEq α] {d v w : α} (t : Tab α) (k : Nat) (h : v = d → w = d) :
    tabPut d (tabPut d t k v) k w = tabPut d t k w := by
  by_cases hv : v = d
  · simp [tabPut, hv, h hv, tabDel_tabDel]
  · by_cases hw : w = d
    · simp [tabPut, hv, hw, tabDel_tabIns]
    · simp [tabPut, hv, hw, tabIns_tabIns]

/-! ## IDE key management -/

section Ide

variable {s : State} {n session : Nat} {k : IdeKey}

/-- Stream `t` of PF n becomes `y`. -/
def withStream (s : State) (n t : Nat) (y : IdeStream) : State :=
  { s with seats := tabPut Seat.down s.seats n { seatOf s n with ide := tabPut IdeStream.none_ (seatOf s n).ide t y } }

/-- All six sub-stream directions use a key set. -/
def allActive (a : Tab Nat) : Bool := (List.range 6).all (fun j => decide (tabGet 0 a j ≠ 0))

theorem ideMod_eq (t : Nat) (g : IdeStream → IdeStream) : ideMod s n t g = withStream s n t (g (ideOf s n t)) := rfl

theorem inSession_of_mem (hmem : session ∈ (seatOf s n).sessions) (hscrap : s.lcs.fuse ≠ 5) : inSession s n session = true := by
  rw [inSession, List.contains_iff_mem.2 hmem, Bool.true_and, bne_iff_ne]
  exact hscrap

theorem seatOf_withStream (t : Nat) (y : IdeStream) :
    seatOf (withStream s n t y) n = { seatOf s n with ide := tabPut IdeStream.none_ (seatOf s n).ide t y } :=
  (tabGet_tabPut ..).trans (if_pos rfl)

/-- Two changes of one stream of a seat with a session, of which the second shows whether all directions use a set. -/
theorem ideShow_withStream (hmem : session ∈ (seatOf s n).sessions) (t : Nat) (y : IdeStream) :
    ideShow (withStream s n t y) n t = withStream s n t { y with secure := allActive y.active } := by
  have hstream : ideOf (withStream s n t y) n t = y := by
    rw [ideOf, seatOf_withStream]
    exact (tabGet_tabPut ..).trans (if_pos rfl)
  have hall : (List.range 6).all (fun i => tabGet 0 y.active i != 0) = allActive y.active := by
    exact congrArg (List.all (List.range 6)) (funext fun i => Bool.eq_iff_iff.2 (by rw [bne_iff_ne, decide_eq_true_iff]))
  have hnone : y = IdeStream.none_ → { y with secure := allActive y.active } = IdeStream.none_ := by
    rintro rfl
    rfl
  have hup (z : Tab IdeStream) : { seatOf s n with ide := z } ≠ Seat.down := fun h => by
    have hnil : (seatOf s n).sessions = [] := congrArg Seat.sessions h
    rw [hnil] at hmem
    exact List.not_mem_nil hmem
  rw [ideShow, ideMod_eq, hstream, hall, withStream, seatOf_withStream, tabPut_tabPut _ _ hnone]
  unfold withStream
  rw [tabPut_tabPut _ _ (fun h => absurd h (hup _))]

theorem ideKeyProg_of_free (hmem : session ∈ (seatOf s n).sessions) (hscrap : s.lcs.fuse ≠ 5)
    (hfree : tabGet 0 (ideOf s n k.stream.val).active (ideSlot k) ≠ k.set.val + 1) (key : Nat) : ideKeyProg s n session k key =
      emit (ideMod s n k.stream.val (fun x => { x with keys := tabIns x.keys (ideKeyNo k) key, stale := setDel (ideKeyNo k) x.stale }))
        (.mgmt "IDE_KM KP_ACK" [n, k.stream.val, 0]) := by
  unfold ideKeyProg
  rw [inSession_of_mem hmem hscrap, if_neg (by decide)]
  exact if_neg hfree

theorem ideKeyProg_of_used (hmem : session ∈ (seatOf s n).sessions) (hscrap : s.lcs.fuse ≠ 5)
    (hused : tabGet 0 (ideOf s n k.stream.val).active (ideSlot k) = k.set.val + 1) (key : Nat) :
    ideKeyProg s n session k key = emit s (.mgmt "IDE_KM KP_ACK" [n, k.stream.val, 1]) := by
  unfold ideKeyProg
  rw [inSession_of_mem hmem hscrap, if_neg (by decide)]
  exact if_pos hused

theorem ideSetGo_of_held (hmem : session ∈ (seatOf s n).sessions) (hscrap : s.lcs.fuse ≠ 5) {v : Nat}
    (hkey : (ideKeyNo k, v) ∈ (ideOf s n k.stream.val).keys) (hfresh : ideKeyNo k ∉ (ideOf s n k.stream.val).stale) : ideSetGo s n session k =
      (let x := ideOf s n k.stream.val
       let a := tabPut 0 x.active (ideSlot k) (k.set.val + 1)
       let u := withStream s n k.stream.val { x with active := a, secure := allActive a }
       emit (if tabGet 0 x.active (ideSlot k) ≠ 0 ∧ tabGet 0 x.active (ideSlot k) ≠ k.set.val + 1 then setEvt (bump u (idePg n + 0x404)) (idePg n) 9 else u)
         (.mgmt "IDE_KM K_GOSTOP_ACK" [n, k.stream.val])) := by
  have hany : (ideOf s n k.stream.val).keys.any (fun p => p.1 == ideKeyNo k) = true := List.any_eq_true.2 ⟨_, hkey, beq_self_eq_true _⟩
  have hstale : (ideOf s n k.stream.val).stale.contains (ideKeyNo k) = false := by simpa using hfresh
  unfold ideSetGo
  dsimp only
  rw [inSession_of_mem hmem hscrap, hany, hstale, if_neg (by decide), ideMod_eq, ideShow_withStream hmem]
  simp only [Bool.and_eq_true, bne_iff_ne]

theorem ideSetStop_of_session (hmem : session ∈ (seatOf s n).sessions) (hscrap : s.lcs.fuse ≠ 5) : ideSetStop s n session k =
    (let x := ideOf s n k.stream.val
     let a := if tabGet 0 x.active (ideSlot k) = k.set.val + 1 then tabDel x.active (ideSlot k) else x.active
     emit (withStream s n k.stream.val { x with
       active := a, keys := tabDel x.keys (ideKeyNo k), stale := setDel (ideKeyNo k) x.stale, secure := allActive a })
         (.mgmt "IDE_KM K_GOSTOP_ACK" [n, k.stream.val])) := by
  unfold ideSetStop
  dsimp only
  rw [inSession_of_mem hmem hscrap, if_neg (by decide), ideMod_eq, ideShow_withStream hmem]

end Ide

/-! ## SPDM -/

section SpdmRequests

variable {s : State} {n : Nat}

theorem spdm_of_scrap (hpres : seatPresent s n = true) (hscrap : s.lcs.fuse = 5) (q : Spdm) : spdm s n q = emit s (.mgmt "SPDM ERROR" [n]) := by
  unfold spdm
  dsimp only
  rw [hpres, if_neg (by decide), if_pos hscrap]

/-- Every request but the two that change the sessions is answered, and changes nothing else. -/
theorem spdm_answers (hpres : seatPresent s n = true) (hscrap : s.lcs.fuse ≠ 5) {q : Spdm} (hkey : ∀ i, q ≠ .keyExchange i) (hend : ∀ i, q ≠ .endSession i) :
    ∃ what l, spdm s n q = emit s (.mgmt what (n :: l)) ∧ (q = .version → what = "SPDM VERSION" ∧ l = [0x13, 0x12]) := by
  have hsays {c : Prop} [Decidable c] (what : String) (l : List Nat) : ∃ what' l',
      (if c then emit s (.mgmt what (n :: l)) else emit s (.mgmt "SPDM ERROR" [n])) = emit s (.mgmt what' (n :: l')) := by
    by_cases h : c
    · exact ⟨what, l, if_pos h⟩
    · exact ⟨"SPDM ERROR", [], if_neg h⟩
  have hlift {q : Spdm} {u : State} (hq : q ≠ .version) (h : ∃ what l, u = emit s (.mgmt what (n :: l))) :
      ∃ what l, u = emit s (.mgmt what (n :: l)) ∧ (q = .version → what = "SPDM VERSION" ∧ l = [0x13, 0x12]) := by
    obtain ⟨what, l, h⟩ := h
    exact ⟨what, l, h, fun hv => absurd hv hq⟩
  unfold spdm
  dsimp only
  rw [hpres, if_neg (by decide), if_neg hscrap]
  cases q with
  | version => exact ⟨_, _, rfl, fun _ => ⟨rfl, rfl⟩⟩
  | discovery => exact hlift (by simp) ⟨_, _, rfl⟩
  | capabilities => exact hlift (by simp) ⟨_, _, rfl⟩
  | algorithms => exact hlift (by simp) ⟨_, _, rfl⟩
  | digests => exact hlift (by simp) ⟨_, _, rfl⟩
  | certificate i => exact hlift (by simp) (hsays _ _)
  | challenge i => exact hlift (by simp) (hsays _ _)
  | measurements i signed => exact hlift (by simp) (hsays _ _)
  | keyExchange i => exact absurd rfl (hkey i)
  | finishSession i => exact hlift (by simp) (hsays _ _)
  | heartbeat i => exact hlift (by simp) (hsays _ _)
  | keyUpdate i => exact hlift (by simp) (hsays _ _)
  | endSession i => exact absurd rfl (hend i)
  | other _ => exact hlift (by simp) ⟨_, _, rfl⟩

theorem spdm_keyExchange_of_free (hpres : seatPresent s n = true) (hscrap : s.lcs.fuse ≠ 5) {slot : Fin 8} {j : Nat} (hcert : certSlot s slot.val = true)
    (hfree : freeSession (seatOf s n).sessions = some j) : spdm s n (.keyExchange slot) =
      emit (seatMod s n (fun x => { x with sessions := setIns j x.sessions })) (.mgmt "SPDM KEY_EXCHANGE_RSP" [n, j]) := by
  simp only [spdm, hpres, hcert, hfree, if_neg hscrap]
  rfl

theorem spdm_keyExchange_of_full (hpres : seatPresent s n = true) (hscrap : s.lcs.fuse ≠ 5) (slot : Fin 8)
    (hfull : freeSession (seatOf s n).sessions = none) : spdm s n (.keyExchange slot) = emit s (.mgmt "SPDM ERROR" [n]) := by
  simp only [spdm, hpres, hfull, if_neg hscrap]
  cases certSlot s slot.val <;> rfl

theorem spdm_endSession_of_open (hpres : seatPresent s n = true) (hscrap : s.lcs.fuse ≠ 5) {i : Nat} (hmem : i ∈ (seatOf s n).sessions) :
    spdm s n (.endSession i) = emit (seatMod s n (fun x => { x with sessions := setDel i x.sessions })) (.mgmt "SPDM END_SESSION_ACK" [n, i]) := by
  have hopen : (seatOf s n).sessions.contains i = true := List.contains_iff_mem.2 hmem
  simp only [spdm, hpres, hopen, if_neg hscrap]
  rfl

theorem setDel_eq_filter (k : Nat) (l : List Nat) : setDel k l = l.filter (fun j => j ≠ k) := by
  refine List.filter_congr fun j _ => ?_
  rw [Bool.eq_iff_iff, decide_eq_true_iff, Bool.not_eq_true', beq_eq_false_iff_ne]

end SpdmRequests

/-- Settles O9: IDE_KM acts on one stream of a seat that has a session; an SPDM request is answered, and two of them change the sessions. -/
theorem securityProtocolsComplete : Obligations.SecurityProtocolsComplete := by
  unfold Obligations.SecurityProtocolsComplete
  refine ⟨?ide, ?spdm⟩
  case ide =>
    intro s n session k key x i set no all stream ack hmem hscrap
    refine ⟨?query, fun hfree => ?prog, fun hused => ?used, fun ⟨v, hkey⟩ hfresh => ?go, ?stop⟩
    case query => exact congrArg finish (if_pos (inSession_of_mem hmem hscrap))
    case prog => exact congrArg finish (ideKeyProg_of_free hmem hscrap hfree key.toNat)
    case used => exact congrArg finish (ideKeyProg_of_used hmem hscrap hused key.toNat)
    case go => exact congrArg finish (ideSetGo_of_held hmem hscrap hkey hfresh)
    case stop => exact congrArg finish (ideSetStop_of_session hmem hscrap)
  case spdm =>
    intro s n q hpres say open_ sessions
    have hanswer {q : Spdm} {u : State} {what : String} {l : List Nat} (h : spdm s n.val q = emit u (.mgmt what (n.val :: l))) :
        finish (doeAnswered (spdm s n.val q) n.val) = .next (drivePins (say u what l)) := by
      rw [h]
      rfl
    refine ⟨fun hscrap => ?scrap, fun hscrap hkey hend => ?others, fun slot j hscrap hcert hfree => ?key, fun slot hscrap h0 h1 => ?full,
      fun i hscrap hmem => ?ends⟩
    case scrap => exact hanswer (spdm_of_scrap hpres hscrap q)
    case others =>
      obtain ⟨what, l, h, hversion⟩ := spdm_answers hpres hscrap hkey hend
      exact ⟨what, l, hanswer h, hversion⟩
    case key =>
      have hslot : certSlot s slot.val = true := by simpa [certSlot] using hcert
      have hlower : freeSession open_ = some j := by
        rcases hfree with ⟨rfl, h⟩ | ⟨rfl, h, h'⟩ <;> simp [freeSession, *]
      exact hanswer (spdm_keyExchange_of_free hpres hscrap hslot hlower)
    case full =>
      have hnone : freeSession open_ = none := by simp [freeSession, h0, h1]
      exact hanswer (spdm_keyExchange_of_full hpres hscrap slot hnone)
    case ends =>
      have h := spdm_endSession_of_open hpres hscrap hmem
      simp only [setDel_eq_filter] at h
      exact hanswer h

end Sys2Proof.Machine
end

section
/-! The laws of House commands as they start (R544 to R551). -/

namespace Sys2Proof.Machine

open Sys2Proof.Spec

section Start

variable {s : State} {r : Req} {op : Nat}

/-- A command that HSE.CMD has taken, before it begins. -/
def hseAsked (s : State) (r : Req) (op : Nat) : State :=
  let u := regPut s hseCmd (setBits (setBits (setBits (regAt s hseCmd) 27 27 1) 26 23 r.code.val) 7 0 op)
  houseMod u (fun h => { h with
    cmd := some (op, r), began := false, args := [regAt s (hsePg + 0x104), regAt s (hsePg + 0x108), regAt s (hsePg + 0x10C), regAt s (hsePg + 0x110)] })

theorem accepted_eq : accepted s r op = houseMod (hseAsked s r op) (fun h => { h with began := true, status := 0 }) := rfl

theorem regAt_hseAsked {o : Nat} (h : o ≠ hseCmd) : regAt (hseAsked s r op) o = regAt s o := (regAt_regPut ..).trans (if_neg h)

theorem regAt_accepted {o : Nat} (h : o ≠ hseCmd) : regAt (accepted s r op) o = regAt s o := regAt_hseAsked h

theorem houseState_hseAsked : houseState (hseAsked s r op) = houseState s := by
  rw [houseState, houseState, fldAt, fldAt, regAt_hseAsked (by decide)]

theorem houseState_accepted : houseState (accepted s r op) = houseState s := houseState_hseAsked

theorem runSlot_accepted : runSlot (accepted s r op) = runSlot s := by rw [runSlot, runSlot, fldAt, fldAt, regAt_accepted (by decide)]

/-- Argument `i` as the command was given it. -/
theorem hseArg_hseAsked (i : Nat) (hi : i < 4) : hseArg (hseAsked s r op) i = (regAt s (hsePg + 0x104 + 4 * i)).toNat := by
  match i, hi with
  | 0, _ | 1, _ | 2, _ | 3, _ => rfl

theorem hseArg_accepted (i : Nat) (hi : i < 4) : hseArg (accepted s r op) i = (regAt s (hsePg + 0x104 + 4 * i)).toNat :=
  hseArg_hseAsked (r := r) (op := op) i hi

theorem hseStart_of_idle (htrust : trusted s r = true) (hidle : flagAt s hseCmd 27 = false) : hseStart s r op = hseBegin (hseAsked s r op) := by
  have hne (i : Nat) : hsePg + 0x104 + 4 * i ≠ hseCmd := by
    unfold hseCmd
    omega
  have hreg (v : Word) (i : Nat) : regAt (regPut s hseCmd v) (hsePg + 0x104 + 4 * i) = regAt s (hsePg + 0x104 + 4 * i) := by
    rw [regAt_regPut, if_neg (hne i)]
  unfold hseStart
  dsimp only
  rw [htrust, hidle, if_neg (by decide), if_neg (by decide)]
  simp only [hreg]
  rfl

/-! ### Each opcode on firmware that is READY -/

@[simp] theorem hseAsked_cmd : (hseAsked s r op).house.cmd = some (op, r) := rfl

/-- Firmware that is READY begins a command that waits. -/
theorem not_hseAsked_waits (hready : houseState s = 2) :
    ¬ ((hseAsked s r op).house.began = true ∨ houseState (hseAsked s r op) = 1 ∨ houseState (hseAsked s r op) = 3) := by
  rw [houseState_hseAsked, hready]
  simp [hseAsked, houseMod]

theorem not_hseAsked_service (hready : houseState s = 2) {c : Prop} :
    ¬ ((houseState (hseAsked s r op) = 0 ∨ houseState (hseAsked s r op) = 4) ∧ c) := by
  rw [houseState_hseAsked, hready]
  exact fun h => absurd h.1 (by decide)

theorem not_slotRuns_accepted {slot : Nat} (hslot : slot ≠ fldAt s hseStat 27 27) : ¬ slotRuns (accepted s r op) slot = true := by
  have hrun : runSlot (accepted s r op) ≠ slot := by
    rw [runSlot_accepted]
    exact Ne.symm hslot
  simp [slotRuns, hrun]

theorem begin_showdown (hready : houseState s = 2) (h0 : hseArg (hseAsked s r 0x01) 0 % 64 = 0)
    (hfn : 6 ≤ r.code.val → hseArg (hseAsked s r 0x01) 0 = 0 ∧ hseArg (hseAsked s r 0x01) 1 = 0) :
    hseBegin (hseAsked s r 0x01) = accepted s r 0x01 := by
  simp only [hseBegin, hseAsked_cmd]
  rw [if_neg (not_hseAsked_waits hready), if_neg (by decide), if_neg (not_hseAsked_service hready)]
  exact if_neg (by omega)

theorem begin_showdownRead (hready : houseState s = 2) (h0 : hseArg (hseAsked s r 0x02) 0 % 1024 = 0) :
    hseBegin (hseAsked s r 0x02) = accepted s r 0x02 := by
  simp only [hseBegin, hseAsked_cmd]
  rw [if_neg (not_hseAsked_waits hready), if_neg (by decide), if_neg (not_hseAsked_service hready)]
  exact if_neg (by omega)

theorem begin_fwBegin {slot lane : Nat} (hready : houseState s = 2) (h0 : hseArg (hseAsked s r 0x10) 0 = slot)
    (h1 : hseArg (hseAsked s r 0x10) 1 = lane) (hrange : slot ≤ 1 ∧ lane ≤ 1) (hslot : slot ≠ fldAt s hseStat 27 27) : hseBegin (hseAsked s r 0x10) =
      tornAdd (flashErase (houseMod (accepted s r 0x10) (fun h => { h with area := some (slot, lane) })) slot (areaAt lane) 0x800000)
        (tornKey slot lane tornWhole) := by
  subst h0 h1
  simp only [hseBegin, hseAsked_cmd]
  rw [if_neg (not_hseAsked_waits hready), if_neg (by decide), if_neg (not_hseAsked_service hready)]
  exact (if_neg (by omega)).trans (if_neg (not_slotRuns_accepted hslot))

theorem begin_fwWrite {slot lane : Nat} (hready : houseState s = 2) (harea : s.house.area = some (slot, lane))
    (h0 : hseArg (hseAsked s r 0x11) 0 % 1024 = 0) (hsize : hseArg (hseAsked s r 0x11) 0 < 0x800000) (hslot : slot ≠ fldAt s hseStat 27 27) :
    hseBegin (hseAsked s r 0x11) = tornAdd (accepted s r 0x11) (tornKey slot lane (hseArg (hseAsked s r 0x11) 0)) := by
  have harea' : (houseMod (hseAsked s r 0x11) (fun h => { h with began := true, status := 0 })).house.area = some (slot, lane) := harea
  simp only [hseBegin, hseAsked_cmd]
  rw [if_neg (not_hseAsked_waits hready), if_neg (by decide), if_neg (not_hseAsked_service hready)]
  simp only [harea']
  exact (if_neg (by omega)).trans (if_neg (not_slotRuns_accepted hslot))

theorem begin_fwVerify (hready : houseState s = 2) (h0 : hseArg (hseAsked s r 0x12) 0 ≤ 1) :
    hseBegin (hseAsked s r 0x12) = accepted s r 0x12 := by
  simp only [hseBegin, hseAsked_cmd]
  rw [if_neg (not_hseAsked_waits hready), if_neg (by decide), if_neg (not_hseAsked_service hready)]
  exact if_neg (by omega)

theorem begin_activate (hready : houseState s = 2) : hseBegin (hseAsked s r 0x13) = activate (accepted s r 0x13) (hseArg (hseAsked s r 0x13) 0) := by
  simp only [hseBegin, hseAsked_cmd]
  rw [if_neg (not_hseAsked_waits hready), if_neg (by decide), if_neg (not_hseAsked_service hready)]
  rfl

theorem begin_crpWrite {slot off : Nat} (hready : houseState s = 2) (h0 : hseArg (hseAsked s r 0x14) 0 = slot)
    (h1 : hseArg (hseAsked s r 0x14) 1 = off) (hrange : slot ≤ 15 ∧ off % 1024 = 0 ∧ off < 0x4000) (hscrap : s.lcs.fuse ≠ 5)
    (hload : s.crp.load = none) : hseBegin (hseAsked s r 0x14) =
      askBatch (accepted s r 0x14) { who := .crp, addr := slotAddr slot + off, data := bufGet (accepted s r 0x14) (hsePg + 0x400) 256, rec_ := none } := by
  subst h0 h1
  have hload' : (houseMod (hseAsked s r 0x14) (fun h => { h with began := true, status := 0 })).crp.load = none := hload
  simp only [hseBegin, hseAsked_cmd]
  rw [if_neg (not_hseAsked_waits hready), if_neg (by decide), if_neg (not_hseAsked_service hready)]
  simp only [hload']
  exact (if_neg (by omega)).trans ((if_neg hscrap).trans (if_neg Bool.false_ne_true))

theorem begin_crpVerify (hready : houseState s = 2) (h0 : hseArg (hseAsked s r 0x15) 0 ≤ 15) :
    hseBegin (hseAsked s r 0x15) = accepted s r 0x15 := by
  simp only [hseBegin, hseAsked_cmd]
  rw [if_neg (not_hseAsked_waits hready), if_neg (by decide), if_neg (not_hseAsked_service hready)]
  exact if_neg (by omega)

/-! ### ACTIVATE -/

theorem hseEnd_eq_ended (u : State) (st : Nat) : hseEnd u st = ended u st := by
  unfold hseEnd ended houseMod
  rfl

theorem svnSeen_store (u : State) (type : Nat) (blk : List Byte) : (svnSeen u type blk).store = u.store := by
  unfold svnSeen
  dsimp only
  split <;> rfl

theorem runSlot_svnSeen (u : State) (type : Nat) (blk : List Byte) : runSlot (svnSeen u type blk) = runSlot u := by
  unfold svnSeen
  dsimp only
  split <;> rfl

theorem flashRead_svnSeen (u : State) (type : Nat) (blk : List Byte) (slot a n : Nat) : flashRead (svnSeen u type blk) slot a n = flashRead u slot a n := by
  rw [flashRead, flashRead, svnSeen_store]

/-- The judgement of ACTIVATE on a slot that does not run, with nothing in its way. -/
theorem activate_of_idle {u : State} {slot : Nat} (hrange : slot ≤ 1) (hruns : ¬ slotRuns u slot = true) (hbusy : activateBusy u = false)
    (hready : houseState u = 2) : activate u slot =
      (let v := verifyStatus u slot
       if v ≠ 0 then ended u v
       else
         let w := svnSeen (svnSeen u 1 (flashRead u slot 0 0x800)) 2 (flashRead u slot 0x800000 0x800)
         releaseClaims (setHouse (houseMod w (fun h => { h with act := some slot, prev := some (runSlot u) })) 3) 6) := by
  unfold activate
  dsimp only
  rw [if_neg (by omega), if_neg hruns, hbusy, if_neg (show ¬ (false = true) by decide), if_neg (show ¬ houseState u = 0 by omega)]
  have hseen : (List.range 2).foldl (fun s l => svnSeen s (1 + l) (flashRead s slot (areaAt l) 0x800)) u =
      svnSeen (svnSeen u 1 (flashRead u slot 0 0x800)) 2 (flashRead u slot 0x800000 0x800) := by
    rw [show List.range 2 = [0, 1] from rfl, List.foldl_cons, List.foldl_cons, List.foldl_nil, flashRead_svnSeen]
    rfl
  rw [hseen, hseEnd_eq_ended]

theorem verifyStatus_accepted (slot : Nat) : verifyStatus (accepted s r op) slot = verifyStatus s slot := by
  have hsigned (lane : Nat) : imageSigned (accepted s r op) slot lane = imageSigned s slot lane := rfl
  have hsvn (lane : Nat) : imageSvn (accepted s r op) slot lane = imageSvn s slot lane := rfl
  have hstep : steppingOk (accepted s r op) slot = steppingOk s slot := rfl
  have hlisted : laneListed (accepted s r op) slot = laneListed s slot := rfl
  rw [verifyStatus, hsigned, hsigned, hsvn, hsvn, hstep, hlisted, verifyStatus]

theorem flashRead_accepted (slot a n : Nat) : flashRead (accepted s r op) slot a n = flashRead s slot a n := rfl

theorem bufGet_accepted : bufGet (accepted s r op) (hsePg + 0x400) 256 = bufGet s (hsePg + 0x400) 256 := by
  have hne (i : Nat) : hsePg + 0x400 + 4 * i ≠ hseCmd := by
    unfold hseCmd
    omega
  simp only [bufGet, regAt_accepted (hne _)]

end Start

/-- Settles O10: a command that HSE.CMD takes begins at once, in the branch of its opcode. -/
theorem houseCommandsStart : Obligations.HouseCommandsStart := by
  unfold Obligations.HouseCommandsStart
  intro s r htrust hidle hready a idle u
  have hstart (op : Nat) : hseStart s r op = hseBegin (hseAsked s r op) := hseStart_of_idle htrust hidle
  have h0 (op : Nat) : hseArg (hseAsked s r op) 0 = a 0 := hseArg_hseAsked 0 (by decide)
  have h1 (op : Nat) : hseArg (hseAsked s r op) 1 = a 1 := hseArg_hseAsked 1 (by decide)
  refine ⟨fun ha hfn => ?showdown, fun ha => ?read, fun ha hb hslot => ?fwBegin, fun slot lane harea ha hsize hslot => ?fwWrite, fun ha => ?fwVerify,
    fun ha hslot hbusy => ?activate, fun ha hb hsize hscrap hload => ?crpWrite, fun ha => ?crpVerify⟩
  case showdown => exact congrArg finish ((hstart 0x01).trans (begin_showdown hready (by rwa [h0]) (by rwa [h0, h1])))
  case read => exact congrArg finish ((hstart 0x02).trans (begin_showdownRead hready (by rwa [h0])))
  case fwBegin =>
    show finish (hseStart s r 0x10) = _
    rw [hstart, begin_fwBegin hready (h0 0x10) (h1 0x10) ⟨ha, hb⟩ hslot]
    rfl
  case fwWrite =>
    show finish (hseStart s r 0x11) = _
    rw [hstart, begin_fwWrite hready harea (by rwa [h0]) (by rwa [h0]) hslot, h0]
    rfl
  case fwVerify => exact congrArg finish ((hstart 0x12).trans (begin_fwVerify hready (by rwa [h0])))
  case activate =>
    show finish (hseStart s r 0x13) = _
    rw [hstart, begin_activate hready, h0, activate_of_idle ha (not_slotRuns_accepted hslot) hbusy (houseState_accepted.trans hready), runSlot_accepted,
      verifyStatus_accepted, flashRead_accepted, flashRead_accepted]
    dsimp only [u]
    generalize svnSeen (svnSeen (accepted s r 0x13) 1 (flashRead s (a 0) 0 0x800)) 2 (flashRead s (a 0) 0x800000 0x800) = w
    rfl
  case crpWrite =>
    show finish (hseStart s r 0x14) = _
    rw [hstart, begin_crpWrite hready (h0 0x14) (h1 0x14) ⟨ha, hb, hsize⟩ hscrap hload, bufGet_accepted]
    rfl
  case crpVerify => exact congrArg finish ((hstart 0x15).trans (begin_crpVerify hready (by rwa [h0])))

end Sys2Proof.Machine
end

section
/-! The laws of House commands as they end (R546 to R550, R554), and of READY, rollback and the watchdog (R427, R543, R551, R552). -/

namespace Sys2Proof.Machine

open Sys2Proof.Spec

/-! ## The end of a command -/

section CmdDone

variable {s : State} {r : Req}

theorem showdownEnd_of_no_address (h0 : hseArg s 0 = 0) (h1 : hseArg s 1 = 0) : showdownEnd s =
    (let p := showdown s (s.house.seq + 1) 0
     ended (regPut (regPut (houseMod p.2 (fun h => { h with record := some p.1, seq := s.house.seq + 1 })) (hsePg + 0x114) (w32 p.1.length))
       (hsePg + 0x118) (w32 (s.house.seq + 1))) 0) := by
  unfold showdownEnd
  dsimp only
  rw [h0, h1, if_pos (show 0 + 0 * 2 ^ 32 = 0 by decide), if_pos (show 0 + 0 * 2 ^ 32 = 0 by decide), hseEnd_eq_ended]

theorem cmdDone_showdown (hcmd : s.house.cmd = some (0x01, r)) (hbegan : s.house.began = true) (err : Bool) : cmdDone s err = showdownEnd s := by
  simp only [cmdDone, hcmd, hbegan, Bool.not_true, Bool.false_eq_true, if_false]

theorem cmdDone_read_of_record {d : List Byte} (hcmd : s.house.cmd = some (0x02, r)) (hbegan : s.house.began = true) (hrec : s.house.record = some d)
    (err : Bool) : cmdDone s err = ended (hseBufPut s ((d.drop (hseArg s 0)).take 1024)) 0 := by
  simp only [cmdDone, hcmd, hbegan, hrec, Bool.not_true, Bool.false_eq_true, if_false, hseEnd_eq_ended]

theorem cmdDone_read_of_none (hcmd : s.house.cmd = some (0x02, r)) (hbegan : s.house.began = true) (hrec : s.house.record = none) (err : Bool) :
    cmdDone s err = ended s 0xD := by
  simp only [cmdDone, hcmd, hbegan, hrec, Bool.not_true, Bool.false_eq_true, if_false, hseEnd_eq_ended]

theorem cmdDone_fwBegin (hcmd : s.house.cmd = some (0x10, r)) (hbegan : s.house.began = true) (err : Bool) : cmdDone s err =
    if err then ended s 0xC
    else ended (storeMod s (fun x => { x with torn := x.torn.filter (fun k => k / 2 ^ 23 != hseArg s 0 * 2 + hseArg s 1) })) 0 := by
  simp only [cmdDone, hcmd, hbegan, Bool.not_true, Bool.false_eq_true, if_false, hseEnd_eq_ended]

theorem cmdDone_fwWrite {slot lane : Nat} (hcmd : s.house.cmd = some (0x11, r)) (hbegan : s.house.began = true)
    (harea : s.house.area = some (slot, lane)) (hshed : s.boot.shed = false) (err : Bool) : cmdDone s err =
      if err then ended s 0xC
      else ended (storeMod (flashWrite s slot (areaAt lane + hseArg s 0) (bufGet s (hsePg + 0x400) 256)) (fun x =>
        { x with torn := setDel (tornKey slot lane (hseArg s 0)) x.torn })) 0 := by
  simp only [cmdDone, hcmd, hbegan, fwWriteEnd, harea, hshed, Bool.not_true, Bool.false_eq_true, if_false, hseEnd_eq_ended]

theorem cmdDone_fwVerify (hcmd : s.house.cmd = some (0x12, r)) (hbegan : s.house.began = true) (err : Bool) : cmdDone s err =
    if err then ended s 0xC
    else if verifyStatus s (hseArg s 0) = 0 then ended (regPut s (hsePg + 0x114) (versionWord s (hseArg s 0))) 0 else ended s (verifyStatus s (hseArg s 0)) := by
  simp only [cmdDone, hcmd, hbegan, Bool.not_true, Bool.false_eq_true, if_false, hseOk, hseEnd_eq_ended]

theorem cmdDone_activate (hcmd : s.house.cmd = some (0x13, r)) (hbegan : s.house.began = true) (hready : houseState s = 2) (hact : s.house.act = none)
    (err : Bool) : cmdDone s err = ended (regPut s (hsePg + 0x114) (versionWord s (runSlot s))) 0 := by
  have hcond : houseState s = 2 ∧ s.house.act.isNone = true := ⟨hready, by rw [hact]; rfl⟩
  simp only [cmdDone, hcmd, hbegan, Bool.not_true, Bool.false_eq_true, if_false, hseOk, hseEnd_eq_ended]
  exact if_pos hcond

theorem cmdDone_crpWrite (hcmd : s.house.cmd = some (0x14, r)) (hbegan : s.house.began = true) (hwait : s.store.wait = []) (hbusy : s.store.busy = none)
    (err : Bool) : cmdDone s err = ended s s.house.status := by
  simp only [cmdDone, hcmd, hbegan, hwait, hbusy, Bool.not_true, Bool.false_eq_true, if_false, hseEnd_eq_ended, List.any_nil, Option.map_none, Option.getD_none,
    Bool.or_self]

theorem cmdDone_crpVerify (hcmd : s.house.cmd = some (0x15, r)) (hbegan : s.house.began = true) (err : Bool) :
    cmdDone s err = crpVerify s (hseArg s 0) := by
  simp only [cmdDone, hcmd, hbegan, Bool.not_true, Bool.false_eq_true, if_false]

/-- What CRP_VERIFY makes of each outcome of the slot's check. `slotCheck` is a variable in the proof: evaluated, it reads 14 KiB byte by byte. -/
theorem crpVerify_cases (s : State) (i : Nat) :
    (∀ ws, slotCheck s i = .ok ws → crpVerify s i =
      hseOk (regPut s (hsePg + 0x118) (w32 (wordField (ws.getD 0 0) 11 8))) (w32 (wordField (ws.getD 5 0) 15 0 * 65536 + ws.length))) ∧
    (slotCheck s i = .svn → crpVerify s i = hseEnd s 7) ∧
    (slotCheck s i = .empty ∨ slotCheck s i = .badSig ∨ slotCheck s i = .badHeader ∨ slotCheck s i = .badCode → crpVerify s i = hseEnd s 5) := by
  have hall : ∀ v : State → Nat → State, v = crpVerify →
      (∀ ws, slotCheck s i = .ok ws → v s i =
        hseOk (regPut s (hsePg + 0x118) (w32 (wordField (ws.getD 0 0) 11 8))) (w32 (wordField (ws.getD 5 0) 15 0 * 65536 + ws.length))) ∧
      (slotCheck s i = .svn → v s i = hseEnd s 7) ∧
      (slotCheck s i = .empty ∨ slotCheck s i = .badSig ∨ slotCheck s i = .badHeader ∨ slotCheck s i = .badCode → v s i = hseEnd s 5) := by
    intro v hv
    delta crpVerify at hv
    generalize slotCheck = check at hv ⊢
    subst hv
    refine ⟨fun ws h => ?_, fun h => ?_, fun h => ?_⟩
    · simp only [h]
    · simp only [h]
    · rcases h with h | h | h | h <;> simp only [h]
  exact hall _ rfl

end CmdDone

/-! ## READY, rollback and the watchdog -/

section Restarts

variable {s : State}

theorem hseBegin_of_none (h : s.house.cmd = none) : hseBegin s = s := by simp only [hseBegin, h]

theorem house_foldl {α : Type} {f : State → α → State} (h : ∀ s x, (f s x).house = s.house) (l : List α) (s : State) : (l.foldl f s).house = s.house := by
  induction l generalizing s with
  | nil => rfl
  | cons x l ih => exact (ih _).trans (h s x)

theorem lfwPut_house (s : State) (w : Nat → Word) : (lfwPut s w).house = s.house := by
  unfold lfwPut
  dsimp only
  refine house_foldl (fun u p => ?_) _ _
  refine house_foldl (fun v j => ?_) _ _
  exact regPut_house ..

theorem lfwRestart_house (s : State) : (lfwRestart s).house = s.house := by
  have hlane (u : State) (p i : Nat) : (if 4 ≤ fldAt u (laneStat p i) 23 20 then laneHold u p i (flagAt u (laneStat p i) 29) else u).house = u.house := by
    split
    · exact fldPut_house ..
    · rfl
  unfold lfwRestart
  dsimp only
  split
  · exact lfwPut_house ..
  · refine Eq.trans (house_foldl (fun u p => ?_) _ _) (lfwPut_house ..)
    exact house_foldl (fun v i => hlane v p i) _ _

theorem takeSlot_cmd (s : State) (slot : Nat) : (takeSlot s slot).house.cmd = s.house.cmd := by
  unfold takeSlot
  dsimp only
  rw [lfwRestart_house]
  rfl

theorem houseReady_of_kick (hst : houseState s = 3) (hact : s.house.act = none) (hcmd : s.house.cmd = none) :
    houseReady s = houseMod (setHouse s 2) (fun h => { h with kick := 0 }) := by
  have hidle : (houseMod (setHouse s 2) (fun h => { h with kick := 0 })).house.cmd = none := hcmd
  simp only [houseReady, hact]
  rw [if_neg (Classical.not_not.2 hst), hseBegin_of_none hidle]

theorem houseReady_of_activate {slot prev : Nat} (hst : houseState s = 3) (hact : s.house.act = some slot) (hprev : s.house.prev = some prev)
    (hcmd : s.house.cmd = none) : houseReady s =
      (let u := setEvt (takeSlot (setHouse s 2) slot) hsePg 9
       houseMod (firmRec u 1 slot (houseVer s) (houseVer u)) (fun h => { h with kick := 0 })) := by
  have hidle : (houseMod (firmRec (setEvt (takeSlot (setHouse s 2) slot) hsePg 9) 1 slot (houseVer s)
      (houseVer (setEvt (takeSlot (setHouse s 2) slot) hsePg 9))) (fun h => { h with kick := 0 })).house.cmd = none := by
    show (setEvt (takeSlot (setHouse s 2) slot) hsePg 9).house.cmd = none
    rw [setEvt_house, takeSlot_cmd]
    exact hcmd
  simp only [houseReady, hact, hprev]
  rw [if_neg (Classical.not_not.2 hst), hseBegin_of_none hidle]

theorem imageVer_congr {u : State} (h : u.store = s.store) (slot lane : Nat) : imageVer u slot lane = imageVer s slot lane := by
  rw [imageVer, imageVer, flashRead, flashRead, h]

theorem activateRollback_of_activate {slot prev : Nat} (hact : s.house.act = some slot) (hprev : s.house.prev = some prev) (hcmd : s.house.cmd = none) :
    activateRollback s =
      (let u := setEvt (houseMod (setHouse s 3) (fun h => { h with act := some prev, prev := none, hist := [] })) hsePg 10
       firmRec (releaseClaims u 6) 2 prev (verNum (imageVer s slot 0)) (verNum (imageVer s prev 0))) := by
  have hver : imageVer (setEvt (houseMod (setHouse s 3) (fun h => { h with act := some prev, prev := none, hist := [] })) hsePg 10) prev 0 =
      imageVer s prev 0 := imageVer_congr (by rw [setEvt_store]; rfl) ..
  simp only [activateRollback, hact, hprev, hcmd, Option.isSome_none, Bool.false_and, Bool.false_eq_true, if_false]
  rw [rollback, hver]

theorem satNat_eq_min (m n : Nat) : satNat m n = min m n := by
  unfold satNat
  split <;> omega

theorem house_of_steady {t u : State} (h : steady t = steady u) : t.house = u.house := by
  simp only [steady, Prod.mk.injEq] at h
  exact h.2.2.2

/-- A watchdog that expired, before the cores restart. -/
def wdogCounted (s : State) : State :=
  let u := setEvt (bump (faultLog s 0x15 15 0 (byIgnoring s s.safe.kickOff)) (safPg + 0x40C)) safPg 10
  fldPut u hseStat 7 0 (min 255 (fldAt u hseStat 7 0 + 1))

theorem wdogCounted_house (s : State) : (wdogCounted s).house = s.house := by
  have h : steady (wdogCounted s) = steady s := by rw [wdogCounted, steady_fldPut, steady_setEvt, steady_bump, steady_faultLog]
  exact house_of_steady h

/-- ROM_ONLY begins no command, where none waits. -/
theorem romOnly_cmd (s : State) : (romOnly s).house.cmd = s.house.cmd := by
  have h : steady (romOnly s) = steady (setHouse (houseMod s (fun h => { h with act := none, prev := none, hist := [] })) 4) := steady_raiseErr ..
  rw [house_of_steady h]
  rfl

theorem hseWdog_of_expired (hkick : 4 ≤ s.house.kick) (hready : houseState s = 2) (hawake : s.pwr.state ≠ 3) (hcmd : s.house.cmd = none)
    (hprev : s.house.prev = none) : hseWdog s =
      (let v := wdogCounted s
       let hist := v.house.hist.filter (fun t => decide (s.time.toNat < t + rubbers64)) ++ [s.time.toNat]
       let w := houseMod v (fun h => { h with hist := hist, kick := 0 })
       if 4 ≤ hist.length then romOnly w else releaseClaims (setHouse w 3) 6) := by
  have hcmd' : (wdogCounted s).house.cmd = none := by rw [wdogCounted_house, hcmd]
  have hprev' : (wdogCounted s).house.prev = none := by rw [wdogCounted_house, hprev]
  generalize hv : wdogCounted s = v at hcmd' hprev'
  have hbusy : (v.house.cmd.isSome && v.house.began) = false := by rw [hcmd']; rfl
  have hcounted : fldPut (setEvt (bump (faultLog s 0x15 15 0 (byIgnoring s s.safe.kickOff)) (safPg + 0x40C)) safPg 10) hseStat 7 0
      (satNat 255 (fldAt (setEvt (bump (faultLog s 0x15 15 0 (byIgnoring s s.safe.kickOff)) (safPg + 0x40C)) safPg 10) hseStat 7 0 + 1)) = v := by
    rw [satNat_eq_min, ← hv]
    rfl
  have hlast (hist : List Nat) : (houseMod v (fun h => { h with hist := hist, kick := 0 })).house.prev = none := hprev'
  unfold hseWdog
  dsimp only
  rw [if_neg (by omega), hcounted, hbusy, if_neg Bool.false_ne_true]
  have hrom (hist : List Nat) : hseBegin (romOnly (houseMod v (fun h => { h with hist := hist, kick := 0 }))) =
      romOnly (houseMod v (fun h => { h with hist := hist, kick := 0 })) := hseBegin_of_none ((romOnly_cmd _).trans hcmd')
  simp only [hlast, hrom]

end Restarts

/-- Settles O11: CMD_DONE is the branch of the opcode that runs; the restarts are the branches without a command. -/
theorem houseCommandsAndRestartsEnd : Obligations.HouseCommandsAndRestartsEnd := by
  unfold Obligations.HouseCommandsAndRestartsEnd
  refine ⟨?done, ?restarts⟩
  case done =>
    intro s op r hcmd hbegan a
    refine ⟨?showdown, fun d hop hrec => ?read, fun hop hrec => ?noRecord, fun hop => ?flash, fun hop => ?fwBegin,
      fun slot lane hop harea hshed => ?fwWrite, fun hop => ?fwVerify, fun hop hready hact => ?activate, fun hop hwait hbusy => ?crpWrite,
      fun hop => ?crpVerify⟩
    case showdown =>
      intro hop h0 h1
      subst hop
      show finish (cmdDone s false) = _
      rw [cmdDone_showdown hcmd hbegan, showdownEnd_of_no_address h0 h1]
      rfl
    case read =>
      subst hop
      exact congrArg finish (cmdDone_read_of_record hcmd hbegan hrec false)
    case noRecord =>
      subst hop
      exact congrArg finish (cmdDone_read_of_none hcmd hbegan hrec false)
    case flash =>
      rcases hop with hop | hop | ⟨hop, hshed, harea⟩
      · subst hop
        exact congrArg finish (cmdDone_fwBegin hcmd hbegan true)
      · subst hop
        exact congrArg finish (cmdDone_fwVerify hcmd hbegan true)
      · subst hop
        obtain ⟨⟨slot, lane⟩, harea⟩ := Option.ne_none_iff_exists'.1 harea
        exact congrArg finish (cmdDone_fwWrite hcmd hbegan harea hshed true)
    case fwBegin =>
      subst hop
      exact congrArg finish (cmdDone_fwBegin hcmd hbegan false)
    case fwWrite =>
      subst hop
      exact congrArg finish (cmdDone_fwWrite hcmd hbegan harea hshed false)
    case fwVerify =>
      subst hop
      exact congrArg finish (cmdDone_fwVerify hcmd hbegan false)
    case activate =>
      subst hop
      exact congrArg finish (cmdDone_activate hcmd hbegan hready hact false)
    case crpWrite =>
      subst hop
      exact congrArg finish (cmdDone_crpWrite hcmd hbegan hwait hbusy false)
    case crpVerify =>
      subst hop
      have hdone {u : State} (h : crpVerify s (a 0) = u) : finish (cmdDone s false) = finish u :=
        congrArg finish ((cmdDone_crpVerify hcmd hbegan false).trans h)
      obtain ⟨hok, hsvn, hbad⟩ := crpVerify_cases s (a 0)
      cases hcheck : slotCheck s (a 0) with
      | ok ws => exact hdone (hok ws hcheck)
      | svn => exact hdone (hsvn hcheck)
      | empty => exact hdone (hbad (.inl hcheck))
      | badSig => exact hdone (hbad (.inr (.inl hcheck)))
      | badHeader => exact hdone (hbad (.inr (.inr (.inl hcheck))))
      | badCode => exact hdone (hbad (.inr (.inr (.inr hcheck))))
  case restarts =>
    intro s r kicked
    refine ⟨fun hst hact hcmd => ?ready, fun slot prev hst hact hprev hcmd => ?activated, fun slot prev hact hprev hcmd => ?rollback,
      fun hwho hin => ?kick, fun hwho => ?other, fun hwho hout => ?ignored, fun hkick hready hawake hcmd hprev => ?expired⟩
    case ready =>
      show finish (houseReady s) = _
      rw [houseReady_of_kick hst hact hcmd, setHouse]
      generalize fldPut s hseStat 31 28 2 = u
      rfl
    case activated =>
      show finish (houseReady s) = _
      rw [houseReady_of_activate hst hact hprev hcmd, setHouse]
      dsimp only
      generalize setEvt (takeSlot (fldPut s hseStat 31 28 2) slot) hsePg 9 = u
      rfl
    case rollback =>
      show finish (activateRollback s) = _
      rw [activateRollback_of_activate hact hprev hcmd, setHouse]
      dsimp only
      generalize fldPut s hseStat 31 28 3 = u
      rfl
    case kick => exact congrArg finish (if_pos ⟨hwho, by simpa [ignores] using hin⟩)
    case other => exact congrArg finish (if_neg (fun h => hwho h.1))
    case ignored => exact congrArg finish (if_neg (fun h => by simp [ignores, hout] at h))
    case expired =>
      show finish (hseWdog s) = _
      rw [hseWdog_of_expired hkick hready hawake hcmd hprev, wdogCounted]
      dsimp only
      generalize setEvt (bump (faultLog s 0x15 15 0 (byIgnoring s s.safe.kickOff)) (safPg + 0x40C)) safPg 10 = u
      generalize fldPut u hseStat 7 0 (min 255 (fldAt u hseStat 7 0 + 1)) = v
      rfl

end Sys2Proof.Machine
end

section
/-! The slots of the seats (R558 to R572). -/

namespace Sys2Proof.Machine

open Sys2Proof.Spec

/-! ## What a wake leaves alone -/

theorem regAt_pwrMod (s : State) (g : Power → Power) (o : Nat) : regAt (pwrMod s g) o = regAt s o := rfl

/-- The registers that a wake writes: the events of power, and the events and the state of table time (R489, R497). -/
def wakeWrites : List Nat := [pwrPg + 0x010, timPg + 0x010, timPg + 0x140]

theorem regAt_powerExit (s : State) (src : Nat) {o : Nat} (h : o ∉ wakeWrites) : regAt (powerExit s src) o = regAt s o := by
  simp only [wakeWrites, List.mem_cons, List.not_mem_nil, or_false, not_or] at h
  obtain ⟨hpwr, hevt, hstat⟩ := h
  have hpwr (t : State) (i : Nat) : regAt (setEvt t pwrPg i) o = regAt t o := (regAt_setEvt ..).trans (if_neg hpwr)
  have htim (t : State) (i : Nat) : regAt (setEvt t timPg i) o = regAt t o := (regAt_setEvt ..).trans (if_neg hevt)
  have hstate (t : State) (v : Nat) : regAt (setTimState t v) o = regAt t o := (regAt_fldPut ..).trans (if_neg hstat)
  have hif (c : Prop) [Decidable c] (t u : State) : regAt (if c then t else u) o = if c then regAt t o else regAt u o := apply_ite (regAt · o) c t u
  unfold powerExit
  simp only [hif, hpwr, htim, hstate, regAt_pwrMod, regAt_emit, ite_self]

theorem regAt_wake (s : State) (w : Nat) {o : Nat} (h : o ∉ wakeWrites) : regAt (wake s w) o = regAt s o := by
  unfold wake
  split
  · exact regAt_powerExit s _ h
  · rfl

/-- The pages of the ports are apart from those that a wake writes. -/
theorem port_not_mem_wakeWrites {o : Nat} (h : 0x100000 ≤ o) : o ∉ wakeWrites := by
  intro hmem
  have hlow : ∀ p ∈ wakeWrites, p < 0x100000 := by decide
  exact absurd (hlow o hmem) (Nat.not_lt.2 h)

/-! ## Presence -/

theorem slotStat_ge (n : Nat) : 0x100000 ≤ slotStat n := by unfold slotStat slotPg portPg; omega

theorem slotStat_ne_events (n : Nat) : slotStat n ≠ slotPg n + 0x010 := by unfold slotStat; omega

/-- The change of presence itself leaves the slot in its state. -/
theorem slotState_presenceNoted (s : State) (n v : Nat) :
    slotState (setEvt (fldPut (wake s (7 + n)) (slotStat n) 28 27 v) (slotPg n) 8) n = slotState s n := by
  rw [slotState, fldAt, regAt_setEvt, if_neg (slotStat_ne_events n), regAt_fldPut, if_pos rfl, bits_setBits_other _ 28 27 _ _ _ (by decide) (by decide),
    regAt_wake s _ (port_not_mem_wakeWrites (slotStat_ge n))]
  rfl

/-- A card is inserted in a slot that does not drain: PRESENT, and with AUTO_PWR and no fault it is powered (R564). -/
theorem presence_inserted {s : State} {n : Nat} (habsent : flagAt s (slotStat n) 28 = false) (hdrain : slotState s n ≠ 4) :
    presence s n true = (fun u => if flagAt u (slotPg n + 0x100) 0 && !pwrFaulted u n then powerUp u n else u)
      (setSlot (setEvt (fldPut (wake s (7 + n)) (slotStat n) 28 27 3) (slotPg n) 8) n 1) := by
  unfold presence
  rw [if_neg (by rw [habsent]; decide)]
  dsimp only
  rw [if_pos rfl, if_neg (by rw [slotState_presenceNoted]; exact hdrain)]
  rfl

/-! ## Power -/

theorem pwrOn_of_present {s : State} {n : Nat} (hst : slotState s n = 1) (hfault : pwrFaulted s n = false) :
    pwrOn s n = slotEnd (powerUp s n) n 0 := by
  unfold pwrOn
  rw [hst, hfault]
  rfl

theorem pwrOff_of_link_down {s u : State} {n : Nat} (hu : u = slotEnd (pwrEn s n false) n 0) (hdrain : slotState u n ≠ 4)
    (hdown : dlUp (setSlot u n 0) n = false) : pwrOff s n = setSlot u n 0 := by
  unfold pwrOff
  rw [← hu]
  dsimp only
  rw [if_neg hdrain, hdown, if_neg Bool.false_ne_true]

theorem powerFault_of_unpowered {s : State} {n : Nat} (hoff : flagAt s (slotStat n) 26 = false) :
    powerFault s n = fldPut s (slotStat n) 25 25 1 := by
  unfold powerFault
  rw [hoff]
  rfl

theorem powerFault_of_link_down {s u : State} {n : Nat} (hon : flagAt s (slotStat n) 26 = true)
    (hu : u = setEvt (setSlot (pwrEn (fldPut s (slotStat n) 25 25 1) n false) n 5) (slotPg n) 10) (hdown : dlUp u n = false) :
    powerFault s n = u := by
  unfold powerFault
  rw [hon]
  dsimp only
  rw [← hu, hdown]
  rfl

theorem removalClear_of_ready {s : State} {n : Nat} (hrem : removed s n = true) (hst : slotState s n = 3)
    (hfault : flagAt s (slotStat n) 25 = false) (hdrained : flagAt s (foldReg n) 30 = true) (htable : tableFolded s = false) :
    removalClear s n = setEvt (endFold s n) (slotPg n) 13 := by
  unfold removalClear
  rw [hrem, hst, hfault, hdrained, htable]
  rfl

/-- Settles O22: each command on a slot, through the lemma about its case. -/
theorem slotCommandsComplete : Obligations.SlotCommandsComplete := by
  unfold Obligations.SlotCommandsComplete
  intro s r n
  refine ⟨?inserted, rfl, ?pwrOn, ?pwrOff, ?powerGood, ?faultOff, ?faultOn, ?clear⟩
  case inserted =>
    intro habsent hdrain u hu
    refine congrArg finish ((presence_inserted habsent hdrain).trans ?_)
    subst hu
    simp only [Bool.and_eq_true, Bool.not_eq_true']
    rfl
  case pwrOn =>
    intro hr hst hfault
    show finish (slotWrite s r n.val fun s => pwrOn s n.val) = _
    rw [slotWrite, if_pos hr, pwrOn_of_present hst hfault]
    rfl
  case pwrOff =>
    intro hr _ u hu hdrain hdown
    show finish (slotWrite s r n.val fun s => pwrOff s n.val) = _
    rw [slotWrite, if_pos hr, pwrOff_of_link_down hu hdrain hdown]
    rfl
  case powerGood => exact fun hst hon => congrArg finish (if_pos ⟨hst, hon⟩)
  case faultOff => exact fun hoff => congrArg finish (powerFault_of_unpowered hoff)
  case faultOn => exact fun hon u hu hdown => congrArg finish (powerFault_of_link_down hon hu hdown)
  case clear =>
    exact fun hrem hst hfault hdrained htable => congrArg finish (removalClear_of_ready hrem hst hfault hdrained htable)

end Sys2Proof.Machine
end

section
/-! Precision time: measurements, SET, PPS_OUT and the transactions of time (R441 to R459). -/

namespace Sys2Proof.Machine

open Sys2Proof.Spec

/-! ## Received transactions -/

/-- A transaction of the row's type, without a fault of R390, does what its row says (R386). -/
theorem received_of_sound {s : State} {k : Fin 4} {t : Nat} {x : TxnIn} (h : Sound s k t x) (f : State → State) :
    received s k.val t x f = f s := by
  obtain ⟨hst, hfault, htype⟩ := h
  unfold received
  dsimp only
  rw [if_neg (by omega), hfault, if_neg (fun h => h.1 rfl), if_neg (fun h => h htype)]

/-! ## Measurements -/

theorem ppsEdge_of_measurement {s : State} (hsrc : timSource s = 1) (hset : setPending s = false) (ofs : Nat) :
    ppsEdge s ofs = measure s (8 * (s.time.toNat : Int) + ofs -
      (8 * (s.time.toNat : Int) + ofs + secondUnits / 2).fdiv secondUnits * secondUnits) := by
  unfold ppsEdge
  rw [if_neg (fun h => h hsrc)]
  dsimp only
  rw [hset, if_neg Bool.false_ne_true]

theorem ppsEdge_of_set {s : State} (hsrc : timSource s = 1) (hset : setPending s = true) (ofs : Nat) :
    ppsEdge s ofs = measure
      (timMod (fldPut s (timPg + 0x138) 8 8 0) fun x => { x with jump := - nearestHands (8 * (s.time.toNat : Int) + ofs - 8 * (setValue s : Int)) })
      (8 * (s.time.toNat : Int) + ofs - 8 * (setValue s : Int)) := by
  unfold ppsEdge
  rw [if_neg (fun h => h hsrc)]
  dsimp only
  rw [if_pos hset]

theorem timSource_fldPut_stat (s : State) (hi lo v : Nat) : timSource (fldPut s (timPg + 0x140) hi lo v) = timSource s := by
  rw [timSource, fldAt, regAt_fldPut, if_neg (by decide)]
  rfl

/-- A source that has been usable and is lost leads to HOLDOVER (R446). -/
theorem sourceLost_of_used {s : State} (hsrc : timSource s ≠ 0) (hused : s.tim.used = true) (hst : timState s ≠ 3) :
    sourceLost s false = setEvt (setTimState
      (timMod (fldPut s (timPg + 0x140) 24 24 0) fun x => { x with good := 0, outs := 0, steady := 0, fault := false }) 3) timPg 9 := by
  have hkept : timState (fldPut s (timPg + 0x140) 24 24 0) = timState s := by
    rw [timState, fldAt, regAt_fldPut, if_pos rfl, bits_setBits_other _ 24 24 _ _ _ (by decide) (by decide)]
    rfl
  unfold sourceLost
  dsimp only
  rw [hkept, timSource_fldPut_stat, if_neg, if_neg Bool.false_ne_true]
  rintro (h | h | h)
  · exact hsrc h
  · exact Bool.false_ne_true ((congrArg (!·) hused).symm.trans h)
  · exact hst h

/-! ## SET, PPS_OUT and TIME -/

theorem timeSet_accepted {s : State} (hsrc : timSource s ≤ 1) (hset : setPending s = false) :
    timeSet s = fldPut (fldPut s (timPg + 0x138) 31 28 0) (timPg + 0x138) 8 8 1 := by
  unfold timeSet
  rw [if_neg]
  rintro (h | h)
  · omega
  · exact Bool.false_ne_true (hset.symm.trans h)

theorem ppsRise_of_due {s : State} (hen : flagAt s (timPg + 0x124) 31 = true) (hpwr : s.pwr.state < 3)
    (hdue : (s.time.toNat + fldAt s (timPg + 0x124) 15 0) % 8000000000 = 0 ∨
      8000000000 - 40 < (s.time.toNat + fldAt s (timPg + 0x124) 15 0) % 8000000000) :
    ppsRise s = emit (timMod s fun x => { x with pps := fldAt s (timPg + 0x124) 25 16 * 8000000 }) (.pin "PPS_OUT" 1) := by
  have hrises : ppsDue s = true := by
    simp only [ppsDue, hen, Bool.true_and, Bool.or_eq_true, beq_iff_eq, decide_eq_true_eq]
    exact hdue
  unfold ppsRise
  rw [hrises, Bool.true_and, if_pos (decide_eq_true hpwr)]

theorem timeTxnRx_of_source {s : State} {k : Nat} (hsrc : timSource s = 8 + k) (x : TxnIn) :
    timeTxnRx s k x = timMod s fun z => { z with
      jump := if Int.ofNat (leNat ((inData x).take 8) / handUnits) - Int.ofNat (s.time.toNat / handUnits -
          (s.time.toNat / handUnits + 2 ^ 40 - x.off.toNat % 2 ^ 40) % 2 ^ 40) = 0 then z.jump
        else Int.ofNat (leNat ((inData x).take 8) / handUnits) - Int.ofNat (s.time.toNat / handUnits -
          (s.time.toNat / handUnits + 2 ^ 40 - x.off.toNat % 2 ^ 40) % 2 ^ 40) } := by
  unfold timeTxnRx
  rw [if_neg (fun h => h hsrc)]

/-- Settles O47: each command of the time unit, through the lemma about its case. -/
theorem timeCommandsComplete : Obligations.TimeCommandsComplete := by
  unfold Obligations.TimeCommandsComplete
  intro s ofs k x
  refine ⟨?pps, ?set, ?deaf, ?lost, ?accepted, ?refused, ?rise, ?hand, ?time⟩
  case pps => exact fun hsrc hset => congrArg finish (ppsEdge_of_measurement hsrc hset ofs.val)
  case set => exact fun hsrc hset => congrArg finish (ppsEdge_of_set hsrc hset ofs.val)
  case deaf => exact fun hsrc => congrArg finish (if_pos hsrc)
  case lost => exact fun hsrc hused hst => congrArg finish (sourceLost_of_used hsrc hused hst)
  case accepted => exact fun hsrc hset => congrArg finish (timeSet_accepted hsrc hset)
  case refused => exact fun h => congrArg finish (if_pos h)
  case rise => exact fun hen hpwr hdue => congrArg finish (ppsRise_of_due hen hpwr hdue)
  case hand => exact fun hsound => congrArg finish (received_of_sound hsound _)
  case time => exact fun hsound hsrc => congrArg finish ((received_of_sound hsound _).trans (timeTxnRx_of_source hsrc x))

end Sys2Proof.Machine
end

section
/-! Power: wakes, OFF, sensors and the failures of the AVS loop (R486 to R507). -/

namespace Sys2Proof.Machine

open Sys2Proof.Spec

theorem asleep_of_state {s : State} (h : s.pwr.state = 2 ∨ s.pwr.state = 3) : asleep s = true := by
  rw [asleep, Bool.or_eq_true, beq_iff_eq, beq_iff_eq]
  exact h

theorem wake_of_enabled {s : State} {w : Nat} (hasleep : s.pwr.state = 2 ∨ s.pwr.state = 3) (hoff : s.pwr.entering ≠ 4)
    (hen : flagAt s (evrPg + 0x180) w = true) : wake s w = powerExit s (0x1E0 + w) :=
  if_pos ⟨asleep_of_state hasleep, hoff, hen⟩

/-! ## OFF -/

theorem offCommand_accepted {s : State} {r : Req} (hr : trusted s r = true) (hnone : ∀ v ∈ votes s, v = 4) :
    offCommand s r = pwrMod (fldPut s (pwrPg + 0x104) 31 28 0) fun p => { p with entering := 4 } := by
  have hall : (votes s).all (fun v => v == 4) = true := List.all_eq_true.2 fun v hv => beq_iff_eq.2 (hnone v hv)
  unfold offCommand
  rw [hr, Bool.not_true, if_neg Bool.false_ne_true, if_pos hall]

theorem offCommand_refused {s : State} {r : Req} (hr : trusted s r = true) (hsome : ∃ v ∈ votes s, v ≠ 4) :
    offCommand s r = fldPut s (pwrPg + 0x104) 31 28 1 := by
  obtain ⟨v, hv, hne⟩ := hsome
  have hall : ¬ (votes s).all (fun v => v == 4) = true := fun h => hne (beq_iff_eq.1 (List.all_eq_true.1 h v hv))
  unfold offCommand
  rw [hr, Bool.not_true, if_neg Bool.false_ne_true, if_neg hall]

theorem offCommand_of_untrusted {s : State} {r : Req} (hr : trusted s r = false) :
    offCommand s r = logAccess s pwrPg r 5 true 0x104 := by
  unfold offCommand
  rw [hr]
  rfl

/-- OFF that was accepted is entered at the trick boundary (R495). -/
theorem powerTrick_enters_off {s : State} (hst : s.pwr.state ≠ 4) (hoff : s.pwr.entering = 4) :
    powerTrick s = pwrMod s fun p => { p with state := 4, entering := 0 } := by
  unfold powerTrick
  dsimp only
  rw [if_neg hst, if_pos hoff]

/-! ## Sensors and AVS -/

theorem sensorRound_of_on {s : State} (hst : s.pwr.state ≠ 4) (xs : List Nat) :
    sensorRound s xs = (fun u => thermal u (((List.range 6).map (fun c => bits (chanOf u c).word 11 0)).foldl max 0))
      ((List.range 16).foldl (fun s c => sampleChan s c (xs.getD c 0)) s) :=
  if_neg fun h => hst (beq_iff_eq.1 h)

theorem avsFail_counted {s : State} (hsilent : s.pwr.silent = false) (hfrozen : s.pwr.frozen = false) (hfew : s.pwr.fails < 3) :
    avsFail s = pwrMod s fun p => { p with fails := p.fails + 1, failed := true } := by
  unfold avsFail
  rw [hsilent, hfrozen, if_neg (by decide)]
  exact if_neg (Nat.not_le.2 (Nat.succ_lt_succ hfew))

theorem avsFail_freezes {s : State} (hsilent : s.pwr.silent = false) (hfrozen : s.pwr.frozen = false) (hfourth : 3 ≤ s.pwr.fails) :
    avsFail s = setEvt (pwrMod s fun p => { p with fails := p.fails + 1, failed := true, frozen := true }) pwrPg 11 := by
  unfold avsFail
  rw [hsilent, hfrozen, if_neg (by decide)]
  exact if_pos (Nat.succ_le_succ hfourth)

/-- Settles O49: each command on power, through the lemma about its case. -/
theorem powerCommandsComplete : Obligations.PowerCommandsComplete := by
  unfold Obligations.PowerCommandsComplete
  intro s w r tile ovr xs m
  refine ⟨?wake, ?accepted, ?entered, ?refused, ?untrusted, rfl, ?sensors, rfl, rfl, ?counted, ?frozen⟩
  case wake => exact fun hasleep hoff hen => congrArg finish (wake_of_enabled hasleep hoff hen)
  case accepted => exact fun hr hnone => congrArg finish (offCommand_accepted hr hnone)
  case entered => exact powerTrick_enters_off
  case refused => exact fun hr hsome => congrArg finish (offCommand_refused hr hsome)
  case untrusted => exact fun hr => congrArg finish (offCommand_of_untrusted hr)
  case sensors => exact fun hst => congrArg finish (sensorRound_of_on hst xs)
  case counted => exact fun hsilent hfrozen hfew => congrArg finish (avsFail_counted hsilent hfrozen hfew)
  case frozen => exact fun hsilent hfrozen hfourth => congrArg finish (avsFail_freezes hsilent hfrozen hfourth)

end Sys2Proof.Machine
end

section
/-! BOOT and the boundaries of tricks and hands (R37, R38, R575). -/

namespace Sys2Proof.Machine

open Sys2Proof.Spec

/-! ## BOOT -/

/-- BOOT goes on past step 1 (R575): not in shed mode nor Off, and no test mode in the fuse states that bar it. -/
def BootsFromStep1 (s : State) (b : BootIn) : Prop :=
  s.boot.shed = false ∧ isOff s = false ∧ phase s = 1 ∧ ¬ (b.test = true ∧ (s.lcs.fuse = 1 ∨ s.lcs.fuse = 4))

/-- The state in which BOOT has taken the MGMT address and the straps from the pins (R575, R601). -/
def strapped (s : State) (b : BootIn) : State :=
  { fldPut s bootStat 23 20 b.cores.toNat with
    mgmt := { i3c := false, addr := 0x2C + 2 * b2n (b.gpio.getLsbD 2) + b2n (b.gpio.getLsbD 1), dyn := none, eid := none },
    pins := { s.pins with gpio := b.gpio.toNat } }

theorem not_barred_of_shed_or_off {s : State} (hshed : s.boot.shed = false) (hon : isOff s = false) :
    ¬ (s.boot.shed = true ∨ isOff s = true) := by
  rw [hshed, hon]
  decide

section
variable {s : State} {b : BootIn} (h : BootsFromStep1 s b)
include h

theorem bootRun_step1 : bootRun s b =
    if b.cores = 0 then fldPut s bootStat 23 20 b.cores.toNat
    else if (strapped s b).lcs.fuse = 5 then fldPut (fldPut (strapped s b) bootStat 31 28 8) bootStat 25 24 3
    else bootHouse (bootStore (strapped s b) b.storeOk) b := by
  obtain ⟨hshed, hon, hphase, htest⟩ := h
  have hfour : phase s ≠ 4 := by omega
  have hbar : ¬ (b.test && (s.lcs.fuse == 1 || s.lcs.fuse == 4)) = true := by
    rw [Bool.and_eq_true, Bool.or_eq_true, beq_iff_eq, beq_iff_eq]
    exact htest
  unfold bootRun
  rw [if_neg (not_barred_of_shed_or_off hshed hon), if_neg hfour, if_neg (fun hne => hne hphase), if_neg hbar]
  rfl

theorem bootRun_without_core (hcores : b.cores = 0) : bootRun s b = fldPut s bootStat 23 20 b.cores.toNat := by
  rw [bootRun_step1 h, if_pos hcores]

theorem bootRun_of_scrap (hcores : b.cores ≠ 0) (hscrap : s.lcs.fuse = 5) :
    bootRun s b = fldPut (fldPut (strapped s b) bootStat 31 28 8) bootStat 25 24 3 := by
  have hfuse : (strapped s b).lcs.fuse = 5 := hscrap
  rw [bootRun_step1 h, if_neg hcores, if_pos hfuse]

theorem bootRun_goes_on (hcores : b.cores ≠ 0) (hscrap : s.lcs.fuse ≠ 5) :
    bootRun s b = bootHouse (bootStore (strapped s b) b.storeOk) b := by
  have hfuse : (strapped s b).lcs.fuse ≠ 5 := hscrap
  rw [bootRun_step1 h, if_neg hcores, if_neg hfuse]

end

theorem bootRun_of_soft_reset {s : State} (hshed : s.boot.shed = false) (hon : isOff s = false) (hphase : phase s = 4) (b : BootIn) :
    bootRun s b = bootHouse s b := by
  unfold bootRun
  rw [if_neg (not_barred_of_shed_or_off hshed hon), if_pos hphase]

/-- Settles O52: BOOT from step 1 by `bootRun_step1`, from step 4 after a soft reset. -/
theorem bootCompletes : Obligations.BootCompletes := by
  unfold Obligations.BootCompletes
  intro s b hshed hon
  refine ⟨?coreless, ?scrap, ?on, ?soft⟩
  case coreless => exact fun hok hcores => congrArg finish (bootRun_without_core ⟨hshed, hon, hok⟩ hcores)
  case scrap => exact fun hok hcores hscrap => congrArg finish (bootRun_of_scrap ⟨hshed, hon, hok⟩ hcores hscrap)
  case on => exact fun hok hcores hscrap => congrArg finish (bootRun_goes_on ⟨hshed, hon, hok⟩ hcores hscrap)
  case soft => exact fun hphase => congrArg finish (bootRun_of_soft_reset hshed hon hphase b)

/-! ## Boundaries -/

theorem trickNo_lt (s : State) : trickNo s < 4096 := by
  unfold trickNo handUnits
  omega

theorem trickBoundary_of_off {s : State} (hoff : isOff s = true) (x : TrickEvents) : trickBoundary s x = s := if_pos hoff

theorem handBoundary_of_off {s : State} (hoff : isOff s = true) (x : TrickEvents) (h : HandEvents) : handBoundary s x h = s := if_pos hoff

/-- Inside a hand: the end of the trick, 5 ns of table time, the next trick (R37). -/
theorem trickBoundary_inside_hand {s : State} (hon : isOff s = false) (hin : trickNo s ≠ 4095) (x : TrickEvents) :
    trickBoundary s x = plainTrick s x := by
  unfold trickBoundary
  rw [hon, if_neg Bool.false_ne_true, if_neg hin]

/-- After trick 4,095: the hand boundary, with an open slack and an open rail reading (R38). -/
theorem trickBoundary_ends_hand {s : State} (hon : isOff s = false) (hlast : trickNo s = 4095) (x : TrickEvents) :
    trickBoundary s x = handTrick { s with freeCtr := s.freeCtr + 2 } x false
      (Config.freeValue s.freeCtr % 256) (Config.freeValue (s.freeCtr + 1) % 1024) := by
  unfold trickBoundary
  rw [hon, if_neg Bool.false_ne_true, if_pos hlast]
  rfl

theorem handBoundary_of_on {s : State} (hon : isOff s = false) (x : TrickEvents) (h : HandEvents) :
    handBoundary s x h = handTrick (quietTricks (4095 - trickNo s) s) x h.badLength h.slack.val h.readMv.val := by
  unfold handBoundary
  rw [hon, if_neg Bool.false_ne_true]

/-- Settles O55: the boundaries by their cases, and the place of a trick in its hand. -/
theorem boundariesComplete : Obligations.BoundariesComplete := by
  unfold Obligations.BoundariesComplete
  intro s x h
  refine ⟨?inside, ?last, ?hand, ?off, rfl, trickNo_lt s⟩
  case inside => exact fun hon hin => congrArg finish (trickBoundary_inside_hand hon hin x)
  case last => exact fun hon hlast => congrArg finish (trickBoundary_ends_hand hon hlast x)
  case hand => exact fun hon => congrArg finish (handBoundary_of_on hon x h)
  case off => exact fun hoff => ⟨congrArg finish (trickBoundary_of_off hoff x), congrArg finish (handBoundary_of_off hoff x h)⟩

end Sys2Proof.Machine
end

section
/-! Host requests, configuration requests and the management port (R179 to R192, R603). -/

namespace Sys2Proof.Machine

open Sys2Proof.Spec

/-! ## Host requests with no mark -/

theorem receives_of_up {s : State} {n : Nat} (hup : dlUp s n = true) (hon : isOff s = false) : ¬ (!dlUp s n || isOff s) = true := by
  rw [hup, hon]
  decide

/-- A BAR that answers by R192. -/
theorem barAnswers_of_answers {s : State} {n : Nat} {h : BarHit} (ha : Answers s n h) :
    (barsOn s h.fn && fnSeat s h.fn == some n && flagAt s (linkStat n) 1) = true := by
  obtain ⟨hon, hseat, hready⟩ := ha
  rw [Bool.and_eq_true, Bool.and_eq_true, beq_iff_eq]
  exact ⟨⟨hon, hseat⟩, hready⟩

theorem requestUr_of_read (s : State) (n f tag d : Nat) : requestUr s n f tag 1 d = refuseCpl s n f tag 1 1 d := if_pos rfl

theorem rxCheck_good (s : State) (n f : Nat) : rxCheck s n f .good = (some s, s) := rfl

section
variable {s : State} {q : HostReq} {c d : Nat}

/-- A request beyond the granted credits is a Receiver Overflow (R434). -/
theorem hostRequest_of_overflow (hup : dlUp s q.seat.val = true) (hon : isOff s = false)
    (hfull : hasLanding (rxTlp s q.seat.val) q.seat.val c d = false) (ok : Bool) (f : State → BarHit → State) :
    hostRequest s q c d ok f = raiseErr (aer (rxTlp s q.seat.val) q.seat.val .overflow) (txnPg q.seat.val) 9 := by
  unfold hostRequest
  dsimp only
  rw [if_neg (receives_of_up hup hon), hfull, Bool.not_false, if_pos rfl]

variable {ok : Bool} (hmark : q.mark = .good) (hrx : CanReceive s q.seat.val c d) (hok : ok = true)
include hmark hrx hok

/-- A request without a mark goes on with the BAR that answers it. -/
theorem hostRequest_answered {h : BarHit} (hhit : barHit (rxTlp s q.seat.val) q.seat.val q.addr.toNat = some h)
    (ha : Answers (rxTlp s q.seat.val) q.seat.val h) (f : State → BarHit → State) :
    hostRequest s q c d ok f = f (rxTlp s q.seat.val) h := by
  obtain ⟨hup, hon, hroom⟩ := hrx
  unfold hostRequest
  dsimp only
  rw [if_neg (receives_of_up hup hon), hroom, hok, Bool.not_true, if_neg Bool.false_ne_true, if_neg Bool.false_ne_true, hhit, hmark]
  simp only [rxCheck_good]
  exact if_pos (barAnswers_of_answers ha)

/-- A request without a mark that no BAR answers is an Unsupported Request. -/
theorem hostRequest_missed (hhit : barHit (rxTlp s q.seat.val) q.seat.val q.addr.toNat = none) (f : State → BarHit → State) :
    hostRequest s q c d ok f = requestUr (unsupported (rxTlp s q.seat.val) q.seat.val q.seat.val) q.seat.val q.seat.val q.tag.val c d := by
  obtain ⟨hup, hon, hroom⟩ := hrx
  unfold hostRequest
  dsimp only
  rw [if_neg (receives_of_up hup hon), hroom, hok, Bool.not_true, if_neg Bool.false_ne_true, if_neg Bool.false_ne_true, hhit, hmark]
  simp only [rxCheck_good, Option.map_none, Option.getD_none]

end

/-- Settles O53: each host request through `hostRequest_answered`, `hostRequest_missed` or `hostRequest_of_overflow`. -/
theorem hostRequestsComplete : Obligations.HostRequestsComplete := by
  unfold Obligations.HostRequestsComplete
  intro s q en l op data h hmark
  refine ⟨fun hrx hspan => ⟨?readRegs, ?readWindow, ?readMissed⟩, fun hrx hspan => ⟨?writeRegs, ?writeWindow, ?writeMissed⟩,
    fun hrx hform => ⟨?atomicWindow, ?atomicRegs⟩, ?overflow⟩
  case readRegs => exact fun hhit ha hbar => congrArg finish ((hostRequest_answered hmark hrx hspan hhit ha _).trans (if_neg hbar))
  case readWindow => exact fun hhit ha hbar => congrArg finish ((hostRequest_answered hmark hrx hspan hhit ha _).trans (if_pos hbar))
  case readMissed => exact fun hhit => congrArg finish ((hostRequest_missed hmark hrx hspan hhit _).trans (requestUr_of_read ..))
  case writeRegs => exact fun hhit ha hbar => congrArg finish ((hostRequest_answered hmark hrx hspan hhit ha _).trans (if_neg hbar))
  case writeWindow => exact fun hhit ha hbar => congrArg finish ((hostRequest_answered hmark hrx hspan hhit ha _).trans (if_pos hbar))
  case writeMissed => exact fun hhit => congrArg finish (hostRequest_missed hmark hrx hspan hhit _)
  case atomicWindow => exact fun hhit ha hbar => congrArg finish ((hostRequest_answered hmark hrx hform hhit ha _).trans (if_pos hbar))
  case atomicRegs =>
    exact fun hhit ha hbar => congrArg finish
      (((hostRequest_answered hmark hrx hform hhit ha _).trans (if_neg hbar)).trans (requestUr_of_read ..))
  case overflow => exact fun hup hon hfull => congrArg finish (hostRequest_of_overflow hup hon hfull _ _)

end Sys2Proof.Machine
end

section
/-! Configuration requests, the management port and the slow clock (R66, R179 to R183, R603). -/

namespace Sys2Proof.Machine

open Sys2Proof.Spec

/-! ## Configuration requests -/

/-- What a configuration read is answered, by the verdict on its function (R181, R183). -/
def cfgReadAnswer (s : State) (n o : Nat) : Nat × Nat → State
  | (0, f) => emit s (.config n 0 (cfgRead s f o))
  | (1, f) => emit (unsupported s n f) (.config n 1 0)
  | (c, _) => emit s (.config n c 0)

section
variable {s : State} {q : CfgReq} (hup : dlUp s q.seat.val = true) (hon : isOff s = false)
include hup hon

/-- A configuration request beyond the granted credits is a Receiver Overflow (R434). -/
theorem cfgRequest_of_overflow {w : Option (List (Option Byte))}
    (hfull : hasLanding (rxTlp s q.seat.val) q.seat.val 1 (b2n w.isSome) = false) :
    cfgRequest s q w = raiseErr (aer (rxTlp s q.seat.val) q.seat.val .overflow) (txnPg q.seat.val) 9 := by
  unfold cfgRequest
  dsimp only
  rw [if_neg (receives_of_up hup hon), hfull, Bool.not_false, if_pos rfl]

/-- A configuration read that the granted credits cover takes and returns them, and is answered by its verdict. -/
theorem cfgRequest_read {v : State} (hroom : hasLanding (rxTlp s q.seat.val) q.seat.val 1 0 = true)
    (hv : v = creditBack (rxTlp s q.seat.val) q.seat.val 1 0) :
    cfgRequest s q none = cfgReadAnswer v q.seat.val (q.off.val / 4 * 4) (cfgVerdict v q.seat.val (cfgIndex v q)) := by
  unfold cfgRequest
  dsimp only
  rw [if_neg (receives_of_up hup hon)]
  simp only [Option.isSome_none, b2n, Bool.false_eq_true, if_false, Bool.false_and, hroom, Bool.not_true, ← hv]
  generalize cfgVerdict v q.seat.val (cfgIndex v q) = verdict
  obtain ⟨_ | _ | c, f⟩ := verdict <;> rfl

/-- A configuration write to a function that answers; a Type 0 one to the PF gives the seat its bus number first (R179). -/
theorem cfgRequest_write {v w : State} {f : Nat} {l : List (Option Byte)} (hroom : hasLanding (rxTlp s q.seat.val) q.seat.val 1 1 = true)
    (hv : v = creditBack (rxTlp s q.seat.val) q.seat.val 1 1)
    (hw : w = if q.type0 = true ∧ cfgIndex v q = 0 then seatMod v q.seat.val (fun x => { x with bus := q.rid.val / 256 }) else v)
    (h : cfgVerdict w q.seat.val (cfgIndex v q) = (0, f)) :
    cfgRequest s q (some l) = emit (cfgStore w f (q.off.val / 4 * 4) (BitVec.ofNat 32 (byteMask (l.take 4) 0)) (BitVec.ofNat 32 (byteWord (l.take 4))))
      (.config q.seat.val 0 0) := by
  have hbus : (if (true && q.type0 && cfgIndex v q == 0) = true then seatMod v q.seat.val (fun x => { x with bus := q.rid.val / 256 }) else v) = w := by
    simp only [hw, Bool.true_and, Bool.and_eq_true, beq_iff_eq]
  unfold cfgRequest
  dsimp only [Option.isSome_some, b2n]
  rw [if_neg (receives_of_up hup hon)]
  simp only [if_true, hroom, Bool.not_true, Bool.false_eq_true, if_false]
  rw [← hv, hbus]
  simp only [h]

end

/-! ## MGMT -/

section
variable {s : State}

theorem mgmtUp_of {s : State} (hphase : 3 ≤ phase s) (hon : isOff s = false) : mgmtUp s = true := by
  rw [mgmtUp, decide_eq_true hphase, hon]
  rfl

/-- Identity is given at the device's own address (R603). -/
theorem mctp_identity {a : Nat} (hup : mgmtUp s = true) (ha : mgmtAddr s = a) : mctp s a .identity =
    emit (wake s 17) (.mgmt "IDENTITY" [(regAt (wake s 17) 0x100).toNat, (regAt (wake s 17) 0x104).toNat, (wake s 17).mgmt.eid.getD 0]) := by
  have hmine : ¬ (!mgmtUp s || mgmtAddr s != a) = true := by
    rw [hup, ha, bne_self_eq_false]
    decide
  unfold mctp
  rw [if_neg hmine]

theorem mctp_elsewhere {a : Nat} (ha : mgmtAddr s ≠ a) (q : MctpReq) : mctp s a q = s := by
  have hnot : (!mgmtUp s || mgmtAddr s != a) = true := by rw [bne_iff_ne.2 ha, Bool.or_true]
  unfold mctp
  rw [if_pos hnot]

theorem setdasa_taken {a : Nat} (hup : mgmtUp s = true) (hnone : s.mgmt.dyn = none) (ha : s.mgmt.addr = a) :
    (mgmtUp s && a == s.mgmt.addr && s.mgmt.dyn.isNone) = true := by
  rw [hup, hnone, ha, beq_self_eq_true]
  rfl

theorem entdaa_taken (hup : mgmtUp s = true) (hnone : s.mgmt.dyn = none) : (mgmtUp s && s.mgmt.dyn.isNone) = true := by
  rw [hup, hnone]
  rfl

theorem setEndpointId_taken {a : Nat} (hup : mgmtUp s = true) (ha : mgmtAddr s = a) : (mgmtUp s && mgmtAddr s == a) = true := by
  rw [hup, ha, beq_self_eq_true]
  rfl

end

theorem slowEdge_of_on {s : State} (hon : isOff s = false) (gpio : Nat) : slowEdge s gpio =
    (fun v => copySeq ((List.range 16).foldl (fun s c => regPut s (snsPg + 0x180 + 4 * c) (chanOf s c).word)
      (copySeq ((List.range 4).foldl (fun s i => regPut s (pwrPg + 0x140 + 4 * i) ((pwrWords v).getD i 0)) v) pwrPg)) snsPg)
    ((fun u => copySeq (fldPut u 0x1E4 2 0 (b2n (gpioLevel u 0) + 2 * b2n (gpioLevel u 1) + 4 * b2n (gpioLevel u 2))) tblPg)
      { s with pins := { s.pins with gpio := gpio } }) := by
  unfold slowEdge
  rw [hon, if_neg Bool.false_ne_true]

/-- Settles O54: configuration requests by their verdict, the management commands under their guards, the slow clock outside Off. -/
theorem configurationAndManagementComplete : Obligations.ConfigurationAndManagementComplete := by
  unfold Obligations.ConfigurationAndManagementComplete
  intro s q l f a b e gpio
  refine ⟨fun hup hon => ⟨fun hroom v hv => ⟨?read, ?unsupported, ?retry⟩, ?write, ?readFull, ?writeFull⟩,
    ?identity, ?elsewhere, ?setdasa, ?entdaa, ?rstdaa, ?endpoint, ?slow⟩
  case read => exact fun h => congrArg finish ((cfgRequest_read hup hon hroom hv).trans (congrArg _ h))
  case unsupported => exact fun h => congrArg finish ((cfgRequest_read hup hon hroom hv).trans (congrArg _ h))
  case retry => exact fun h => congrArg finish ((cfgRequest_read hup hon hroom hv).trans (congrArg _ h))
  case write => exact fun hroom v w hv hw h => congrArg finish (cfgRequest_write hup hon hroom hv hw h)
  case readFull => exact fun hfull => congrArg finish (cfgRequest_of_overflow hup hon (w := none) hfull)
  case writeFull => exact fun hfull => congrArg finish (cfgRequest_of_overflow hup hon (w := some l) hfull)
  case identity => exact fun hup ha => congrArg finish (mctp_identity (mgmtUp_of hup.1 hup.2) ha)
  case elsewhere => exact fun ha => congrArg finish (mctp_elsewhere ha _)
  case setdasa => exact fun hup hnone ha => congrArg finish (if_pos (setdasa_taken (mgmtUp_of hup.1 hup.2) hnone ha))
  case entdaa => exact fun hup hnone => congrArg finish (if_pos (entdaa_taken (mgmtUp_of hup.1 hup.2) hnone))
  case rstdaa => exact fun hup => congrArg finish (if_pos (mgmtUp_of hup.1 hup.2))
  case endpoint => exact fun hup ha => congrArg finish (if_pos (setEndpointId_taken (mgmtUp_of hup.1 hup.2) ha))
  case slow => exact fun hon => congrArg finish (slowEdge_of_on hon gpio.toNat)

end Sys2Proof.Machine
end

section
/-! A seat's link: training, Recovery, width, resets, READY and low power (R138 to R150, R166, R581, R583). -/

namespace Sys2Proof.Machine

open Sys2Proof.Spec

/-! ## Training -/

/-- The seat may train: present, not held down, not folded for its lanes, not removed, outside Off (R140, R568). -/
def MayTrain (s : State) (n : Nat) : Prop :=
  seatPresent s n = true ∧ portDown s n = false ∧ lanesFolded s = false ∧ removed s n = false ∧ isOff s = false

section
variable {s : State} {n : Nat} {p : SeatPartner} (hfree : MayTrain s n)
include hfree

theorem seatTrain_guard (hfrom : (!dlUp s n || ltssm s n == 4) = true) :
    ¬ (!seatPresent s n || portDown s n || lanesFolded s || removed s n || isOff s || !(!dlUp s n || ltssm s n == 4)) = true := by
  obtain ⟨hpresent, hheld, hfolded, hremoved, hon⟩ := hfree
  rw [hpresent, hheld, hfolded, hremoved, hon, hfrom]
  decide

/-- A seat whose data link is down trains from Detect to L0 (R140). -/
theorem seatTrain_from_detect (hrate : p.rate ≠ 0) (hwidth : fitWidth (portLanes s n) p.lanes.val ≠ 0) (hdown : dlUp s n = false)
    {flit : Bool} {b v : State} (hflit : flit = (!bitOf (linkCfg s n) 8 && p.flit))
    (hb : b = (List.range (portLanes s n)).foldl (fun s i => laneBegin s n i (decide (i < p.lanes.val))) s)
    (hv : v = seatLocked (seatMod b n fun x => { Seat.down with
        bus := x.bus, tags := x.tags, gen := x.gen, freed := x.freed, ide := x.ide, cfg := linkCfg b n, fc := regAt b (linkPg n + 0x104),
        bigBar := fldAt s 0x130 26 24 == n || fldAt s 0x130 30 28 == n })
      n (trainRate s n p flit) (fitWidth (portLanes s n) p.lanes.val) p flit true) :
    seatTrain s n p = setEvt (fldPut (if flagAt v (slotPg n + 0x108) 24 = true then wake v (7 + n) else v) (slotPg n + 0x108) 24 24 0) (linkPg n) 8 := by
  have hguard := seatTrain_guard hfree (by rw [hdown]; rfl)
  unfold seatTrain
  dsimp only
  rw [if_neg hguard]
  simp only [hdown, Bool.not_false, if_true]
  rw [if_neg (not_or.2 ⟨hwidth, hrate⟩), ← hflit, ← hb, ← hv]

/-- From Recovery the seat comes back to L0 at the width it rejoins (R147). -/
theorem seatTrain_from_recovery (hrate : p.rate ≠ 0) (hup : dlUp s n = true) (hrec : ltssm s n = 4) {w : Nat} (hw : rejoinWidth s n p = w)
    (hwidth : w ≠ 0) {u v : State} (hu : u = seatLocked s n (trainRate s n p (flitMode s n)) w p (flitMode s n) false)
    (hv : v = if seatRate s n = trainRate s n p (flitMode s n) then u else setEvt (ptmStale u n) (linkPg n) 11) :
    seatTrain s n p = if seatLanes s n = w then v else setEvt (ptmStale v n) (linkPg n) 10 := by
  have hguard := seatTrain_guard hfree (by rw [hup, hrec]; rfl)
  unfold seatTrain
  dsimp only
  rw [if_neg hguard]
  simp only [hup, Bool.not_true, Bool.false_eq_true, if_false]
  rw [hw, if_neg (not_or.2 ⟨hwidth, hrate⟩), ← hu, ← hv]

end

/-- A width that a return from Recovery can reach is no zero. -/
theorem width_ne_zero_of_find {w : Nat} {ok : Nat → Bool} (h : [16, 8, 4, 2, 1].find? ok = some w) : w ≠ 0 := by
  have hmem := List.mem_of_find?_eq_some h
  rintro rfl
  exact absurd hmem (by decide)

theorem seatRecover_of_up {s : State} {n : Nat} (hup : dlUp s n = true) (hrec : ltssm s n ≠ 4) :
    seatRecover s n = setEvt (bump (setLtssm (seatMod s n (fun x => { x with ptmOpen := false })) n 4) (linkPg n + 0x414)) (linkPg n) 12 := by
  have hguard : (dlUp s n && ltssm s n != 4) = true := by rw [hup, Bool.true_and, bne_iff_ne]; exact hrec
  unfold seatRecover
  rw [if_pos hguard]

/-- The widths below the present one in the order in which they are tried, each from lane 0 and from the last lane (R147). -/
def reformCandidates (now : Nat) : List (Nat × Bool) :=
  ([8, 4, 2, 1].filter (fun x => decide (x < now))).flatMap (fun x => [(x, false), (x, true)])

/-- The lanes of the seat that are not kept are excluded (R147). -/
def excludeOthers (keep : List Nat) (n : Nat) (s : State) (i : Nat) : State := if keep.contains i then s else laneExclude s n i

theorem seatReform_to {s : State} {n w' : Nat} {rev : Bool} (hup : dlUp s n = true)
    (hfind : (reformCandidates (seatLanes s n)).find? (fun c => (widthOf (portLanes s n) c.1 c.2).all (laneGood s n)) = some (w', rev))
    {v : State}
    (hv : v = fldPut (fldPut (setLtssm ((List.range (portLanes s n)).foldl (excludeOthers (widthOf (portLanes s n) w' rev) n) s) n 3)
      (linkStat n) 23 19 w') (linkStat n) 18 14 w') :
    seatReform s n = setEvt (bump (ptmStale (portTrained v n (seatRate v n) w' rev) n) (linkPg n + 0x418)) (linkPg n) 10 := by
  unfold reformCandidates at hfind
  subst hv
  unfold seatReform
  dsimp only
  rw [hup, Bool.not_true, if_neg Bool.false_ne_true]
  simp only [hfind]
  rfl

theorem seatWidth_laneExclude (s : State) (p i n : Nat) : seatWidth (laneExclude s p i) n = seatWidth s n := by
  have hreg : regAt (laneExclude s p i) 0x130 = regAt s 0x130 := by
    have hne : 0x130 ≠ laneStat p i := by unfold laneStat lanePg portPg; omega
    unfold laneExclude setAdapt
    dsimp only
    rw [regAt_fldPut, if_neg hne, regAt_regPut, if_neg hne]
    rw [regAt, laneMod_regs, regAt]
  exact congrArg (bits · (2 * n + 1) (2 * n)) hreg

theorem portLanes_laneExclude (s : State) (p i : Nat) (n : Fin 6) : portLanes (laneExclude s p i) n.val = portLanes s n.val := by
  rw [portLanes, portLanes, if_pos n.isLt, if_pos n.isLt, seatWidth_laneExclude]

/-- Excluding lanes leaves the seat's width of lanes, so each step excludes by the same list. -/
theorem excludeOthers_foldl (n : Fin 6) (w' : Nat) (rev : Bool) {w : Nat} (l : List Nat) {s : State} (hw : portLanes s n.val = w) :
    l.foldl (fun s i => if (widthOf (portLanes s n.val) w' rev).contains i then s else laneExclude s n.val i) s =
      l.foldl (excludeOthers (widthOf w w' rev) n.val) s := by
  induction l generalizing s with
  | nil => rfl
  | cons i l ih =>
    rw [List.foldl_cons, List.foldl_cons, hw, excludeOthers]
    refine ih ?_
    split
    · exact hw
    · exact (portLanes_laneExclude s n.val i n).trans hw

/-- Settles O38: training from Detect and from Recovery, Recovery, and the narrower width. -/
theorem seatTrainingCompletes : Obligations.SeatTrainingCompletes := by
  unfold Obligations.SeatTrainingCompletes
  intro s n p
  refine ⟨?detect, ?recovery, ?recover, ?reform⟩
  case detect =>
    rintro ⟨hpresent, hheld, hfolded, hremoved, hon, hrate⟩ hwidth hdown
    exact congrArg finish (seatTrain_from_detect ⟨hpresent, hheld, hfolded, hremoved, hon⟩ hrate hwidth hdown rfl rfl rfl)
  case recovery =>
    rintro w ⟨hpresent, hheld, hfolded, hremoved, hon, hrate⟩ hup hrec hfind
    exact congrArg finish (seatTrain_from_recovery ⟨hpresent, hheld, hfolded, hremoved, hon⟩ hrate hup hrec
      (congrArg (Option.getD · 0) hfind) (width_ne_zero_of_find hfind) rfl rfl)
  case recover => exact fun hup hrec => congrArg finish (seatRecover_of_up hup hrec)
  case reform =>
    intro w' rev hup hfind
    have hkeep := excludeOthers_foldl n w' rev (List.range (portLanes s n.val)) (s := s) rfl
    exact congrArg finish (seatReform_to hup hfind (by rw [← hkeep]; rfl))

/-! ## Link loss, resets and READY -/

theorem linkLost_eq (s : State) (n : Nat) : linkLost s n =
    if flagAt s (slotStat n) 24 = true ∨ portDown s n = true then releaseClaims (flrDrop (seatDown s n) n) n else removal s n := by
  unfold linkLost
  simp only [Bool.or_eq_true]

theorem seatPresent_wake (s : State) (w n : Nat) : seatPresent (wake s w) n = seatPresent s n := by
  unfold seatPresent seatWidth
  rw [regAt_wake s w (by decide)]

theorem seatReset_of_present {s : State} {n : Nat} (hpresent : seatPresent s n = true) (code : Nat) {u v z : State}
    (hu : u = lanesDown (seatLinkDown (fldPut s (linkStat n) 1 1 0) n code) n)
    (hv : v = (enabledVfs u n).foldl (fun s f => flrStart s f true) u)
    (hz : z = fnMod (flrStart v n false) n (fun x => { x with vfClear := false, vfs := 0 })) :
    seatReset s n code = fldPut (releaseClaims (deckAbandon (deckLosePf (deckLoseSeat (ideZeroize z n) n) n) (n + 1) 0) n) (linkStat n) 1 1 0 := by
  subst hz hv hu
  unfold seatReset
  rw [hpresent, Bool.not_true, if_neg Bool.false_ne_true]

/-- READY is set once no function of the seat drains (R581). -/
theorem seatReady_of_drained {s : State} {n : Nat} (hpresent : seatPresent s n = true) (hready : flagAt s (linkStat n) 1 = false)
    (hboot : 7 ≤ fldAt s 0x1D4 31 28) (hflr : ∀ f ∈ seatFns s n, (fnOf s f).flr = false) :
    seatReady s n = fldPut s (linkStat n) 1 1 1 := by
  have hguard : ¬ (!seatPresent s n || flagAt s (linkStat n) 1 || !(decide (7 ≤ fldAt s 0x1D4 31 28))) = true := by
    rw [hpresent, hready, decide_eq_true hboot]
    decide
  have hall : (seatFns s n).all (fun f => !(fnOf s f).flr || flrReady s f) = true :=
    List.all_eq_true.2 fun f hf => by rw [hflr f hf]; rfl
  have hnone : (seatFns s n).filter (fun f => (fnOf s f).flr) = [] :=
    List.filter_eq_nil_iff.2 fun f hf => by rw [hflr f hf]; exact Bool.false_ne_true
  unfold seatReady
  rw [if_neg hguard, if_pos hall, hnone]
  rfl

/-! ## Low power -/

theorem l0pRequest_accepted {s : State} {n w : Nat} (hon : l0pOn s n = true) (hmem : w ∈ [1, 2, 4, 8, 16]) (hfits : w ≤ seatLanes s n) :
    (l0pOn s n && [1, 2, 4, 8, 16].contains w && decide (w ≤ seatLanes s n)) = true := by
  rw [hon, List.contains_iff_mem.2 hmem, decide_eq_true hfits]
  rfl

theorem seatEiEnter_guard {s : State} {n : Nat} (hup : dlUp s n = true) (hl0 : ltssm s n = 3) : ¬ (!dlUp s n || ltssm s n != 3) = true := by
  rw [hup, hl0]
  decide

theorem seatEiEnter_l0s {s : State} {n : Nat} (hup : dlUp s n = true) (hl0 : ltssm s n = 3) (hflit : flitMode s n = false) :
    seatEiEnter s n .l0s = setLtssm (seatLanesIdle (seatMod s n (fun x => { x with ptmOpen := false })) n true) n 5 := by
  have hkept : flitMode (seatMod s n (fun x => { x with ptmOpen := false })) n = false := hflit
  unfold seatEiEnter
  rw [if_neg (seatEiEnter_guard hup hl0)]
  dsimp only
  rw [hkept, if_neg Bool.false_ne_true]

theorem seatEiEnter_l1 {s : State} {n : Nat} (hup : dlUp s n = true) (hl0 : ltssm s n = 3) (sub : Fin 3) :
    seatEiEnter s n (.l1 sub) =
      setLtssm (fldPut (seatLanesIdle (seatMod s n (fun x => { x with ptmOpen := false })) n true) (linkStat n) 12 11 sub.val) n 6 := by
  unfold seatEiEnter
  rw [if_neg (seatEiEnter_guard hup hl0)]

theorem seatEiEnter_l2 {s : State} {n : Nat} (hup : dlUp s n = true) (hl0 : ltssm s n = 3) :
    seatEiEnter s n .l2 = setLtssm (seatLanesIdle (seatMod s n (fun x => { x with ptmOpen := false })) n true) n 7 := by
  unfold seatEiEnter
  rw [if_neg (seatEiEnter_guard hup hl0)]

theorem regAt_wakeRx (s : State) (w : Nat) {o : Nat} (h : o ∉ wakeWrites) : regAt (wakeRx s w) o = regAt s o := by
  unfold wakeRx
  split
  · exact regAt_wake s w h
  · rfl

theorem linkStat_not_mem_wakeWrites (n : Nat) : linkStat n ∉ wakeWrites :=
  port_not_mem_wakeWrites (by unfold linkStat linkPg portPg; omega)

theorem seatEiExit_of_low_power {s : State} {n : Nat} (hup : dlUp s n = true) (hlow : ltssm s n = 5 ∨ ltssm s n = 6 ∨ ltssm s n = 7) :
    seatEiExit s n = setLtssm (fldPut (seatLanesIdle s n false) (linkStat n) 12 11 0) n 3 := by
  unfold seatEiExit
  dsimp only
  rw [hup, Bool.not_true, if_neg Bool.false_ne_true, if_pos hlow]

/-- The exit from electrical idle, also where it wakes the device first (R411). -/
theorem seatEiExit_wakeRx {s : State} {n : Nat} (hup : dlUp s n = true) (hlow : ltssm s n = 5 ∨ ltssm s n = 6 ∨ ltssm s n = 7) (w : Nat) :
    seatEiExit (wakeRx s w) n = setLtssm (fldPut (seatLanesIdle (wakeRx s w) n false) (linkStat n) 12 11 0) n 3 := by
  have hreg : regAt (wakeRx s w) (linkStat n) = regAt s (linkStat n) := regAt_wakeRx s w (linkStat_not_mem_wakeWrites n)
  have hup' : dlUp (wakeRx s w) n = true := (congrArg (bitOf · 0) hreg).trans hup
  have hsame : ltssm (wakeRx s w) n = ltssm s n := congrArg (bits · 31 28) hreg
  exact seatEiExit_of_low_power hup' (by rw [hsame]; exact hlow)

/-- Settles O39: link loss, resets, READY, and the entries and exits of low power. -/
theorem seatLinkCommandsComplete : Obligations.SeatLinkCommandsComplete := by
  unfold Obligations.SeatLinkCommandsComplete
  intro s n dis w sub
  refine ⟨?down, ?reset, ?ready, ?l0p, ?enter, ?leave⟩
  case down => exact fun hup => congrArg finish ((if_pos hup).trans (linkLost_eq s n.val))
  case reset =>
    intro hpresent
    refine ⟨?perst, ?hot⟩
    case perst =>
      exact congrArg (fun t => finish (fldPut t (slotStat n.val) 24 24 1))
        (seatReset_of_present ((seatPresent_wake s (7 + n.val) n.val).trans hpresent) 0 rfl rfl rfl)
    case hot => exact congrArg finish (seatReset_of_present hpresent _ rfl rfl rfl)
  case ready => exact fun hpresent hready hboot hflr => congrArg finish (seatReady_of_drained hpresent hready hboot hflr)
  case l0p => exact fun hon hmem hfits => congrArg finish (if_pos (l0pRequest_accepted hon hmem hfits))
  case enter =>
    exact fun hup hl0 => ⟨fun hflit => congrArg finish (seatEiEnter_l0s hup hl0 hflit), congrArg finish (seatEiEnter_l1 hup hl0 sub),
      congrArg finish (seatEiEnter_l2 hup hl0)⟩
  case leave => exact fun hup hlow => congrArg finish (seatEiExit_wakeRx hup hlow (1 + n.val))

end Sys2Proof.Machine
end

section
/-! A seat's traffic: acknowledgements, replays, completions, timeouts and PTM (R154 to R165, R452). -/

namespace Sys2Proof.Machine

open Sys2Proof.Spec

/-! ## What reaches the data link layer -/

theorem flitFixed_of_flit {s : State} {n : Nat} (hflit : flitMode s n = true) :
    flitFixed s n = flitLogged (tally (bump s (linkPg n + 0x400)) 9 n 1) n false := if_pos hflit

theorem flitLost_of_flit {s : State} {n : Nat} (hflit : flitMode s n = true) :
    flitLost s n = nakSent (aer (raiseErr (flitLogged (bump s (linkPg n + 0x404)) n true) (linkPg n) 8) n .receiver) n := if_pos hflit

theorem not_down_of_up {s : State} {n : Nat} (hup : dlUp s n = true) : ¬ (!dlUp s n) = true := by
  rw [hup]
  decide

theorem replayTimer_of_waiting {s : State} {n : Nat} (hup : dlUp s n = true) (hwait : (seatOf s n).unacked ≠ []) :
    ¬ ((seatOf s n).unacked.isEmpty || !dlUp s n) = true := by
  rw [hup, Bool.not_true, Bool.or_false, List.isEmpty_iff]
  exact hwait

/-! ## Completions -/

section
variable {s : State} {n f wire i : Nat} {e : TagEnt} {data : List Byte} {b : Nat}
  (hup : dlUp s n = true) (htag : seatTag s n f wire = some (i, e))
include hup htag

/-- A completion for a tag in quarantine is counted; it frees the tag where it ends the request (R164). -/
theorem hostCompletion_quarantined (hquar : e.quar = true) :
    hostCompletion s n f wire 0 b false data =
      (fun v => if b = data.length then freeTag v n i else v)
        (aerAdvisory (setEvt (bump s (txnPg n + 0x404)) (txnPg n) 9) f .unexpectedCpl) := by
  have hends : cplEnds 0 b data.length = (b == data.length) := Bool.false_or _
  unfold hostCompletion
  rw [hup, Bool.not_true, if_neg Bool.false_ne_true]
  simp only [htag, hquar, if_true, hends, beq_iff_eq]

theorem hostCompletion_aborted (hquar : e.quar = false) :
    hostCompletion s n f wire 4 b false data = endSeatReq (freeTag s n i) e .hostCa := by
  unfold hostCompletion
  rw [hup, Bool.not_true, if_neg Bool.false_ne_true]
  simp only [htag, hquar, Bool.false_eq_true, if_false]
  rfl

/-- The last completion of a request frees its tag and delivers its data (R165). -/
theorem hostCompletion_last (hquar : e.quar = false) (hb : b = data.length) (hlen : e.len = e.got.length + data.length) :
    hostCompletion s n f wire 0 b false data = deliver (freeTag s n i) e (e.got ++ data) e.ep := by
  have hwhole : ¬ (b ≠ e.len - e.got.length ∨ b < data.length) := by omega
  unfold hostCompletion
  rw [hup, Bool.not_true, if_neg Bool.false_ne_true]
  simp only [htag, hquar, Bool.false_eq_true, if_false]
  rw [if_neg (fun h => h rfl), if_neg hwhole, if_neg (by omega), Bool.or_false]

end

/-! ## Timeouts -/

theorem cplTimeout_of_open {s : State} {n j : Nat} {e : TagEnt} (htag : (seatOf s n).tags.find? (fun t => t.1 == j) = some (j, e))
    (hquar : e.quar = false) : cplTimeout s n j =
      endSeatReq (aer (tally (quarTag (setEvt (bump s (txnPg n + 0x400)) (txnPg n) 8) n j) 8 n 1) e.fn .cplTimeout) e .timeout := by
  unfold cplTimeout
  simp only [htag, hquar, Bool.false_eq_true, if_false]

theorem tagExpire_of_quarantined {s : State} {n j : Nat} {e : TagEnt} (htag : (seatOf s n).tags.find? (fun t => t.1 == j) = some (j, e))
    (hquar : e.quar = true) : tagExpire s n j = freeTag s n j := by
  have hany : (seatOf s n).tags.any (fun t => t.1 == j && t.2.quar) = true :=
    List.any_eq_true.2 ⟨(j, e), List.mem_of_find?_eq_some htag, by rw [hquar, beq_self_eq_true]; rfl⟩
  exact if_pos hany

/-! ## PTM -/

/-- A response completes the open dialog (R452): the offset rounded down to 1/8 ns, an open error estimate. -/
theorem ptmResponse_of_open {s : State} {n : Nat} (hopen : (seatOf s n).ptmOpen = true) (t1 t4 master delay : Nat) :
    ptmResponse s n t1 t4 master delay =
      (fun (a b : Int) => (fun (r : Int × State) => (fun (off8 : Int) => (fun (ns : Nat) =>
        seatMod { r.2 with freeCtr := r.2.freeCtr + 1 } n (fun y => { y with ptmOpen := false, ptmOk := true, ptm :=
          [BitVec.ofNat 32 ns, BitVec.ofNat 32 (ns / 2 ^ 32), BitVec.ofNat 32 (Config.freeValue r.2.freeCtr % 65536 * 65536 + lowBits 3 off8),
            BitVec.ofNat 32 y.ptmHand] }))
        (lowBits 64 (off8.fdiv 8))) ((64 * (master : Int) - r.1 - a).fdiv 8)) (halve s (b - a - 64 * (delay : Int))))
      ((seatOf s n).ptmT1 + t1 : Int) (8 * s.time.toNat + t4 : Int) := by
  unfold ptmResponse
  dsimp only
  rw [hopen, Bool.not_true, if_neg Bool.false_ne_true]
  rfl

/-- Settles O40: each command of a seat's traffic, through the lemma about its case. -/
theorem seatTrafficCompletes : Obligations.SeatTrafficCompletes := by
  unfold Obligations.SeatTrafficCompletes
  intro s n q f wire data i e t1 t4 master delay
  refine ⟨?dllp, ?cpl, ?timeout, ?ptm⟩
  case dllp =>
    intro hup
    have hlive := not_down_of_up hup
    refine ⟨?ack, ?nak, ?credit, ?flit, ?noFlit, ?receiver, ?protocol, ?flow, ?timer⟩
    case ack => exact congrArg finish (if_neg hlive)
    case nak => exact congrArg finish (if_neg hlive)
    case credit => exact fun c h d => congrArg finish (if_neg hlive)
    case flit =>
      exact fun hflit => ⟨congrArg finish ((if_neg hlive).trans (flitFixed_of_flit hflit)),
        congrArg finish ((if_neg hlive).trans (flitLost_of_flit hflit)),
        congrArg finish ((if_neg hlive).trans (if_pos hflit))⟩
    case noFlit =>
      exact fun hflit => ⟨congrArg finish (if_neg hlive),
        congrArg finish ((if_neg hlive).trans (if_neg (by rw [hflit]; exact Bool.false_ne_true)))⟩
    case receiver => exact congrArg finish (if_neg hlive)
    case protocol => exact congrArg finish (if_neg hlive)
    case flow => exact congrArg finish (if_neg hlive)
    case timer => exact fun hwait => congrArg finish (if_neg (replayTimer_of_waiting hup hwait))
  case cpl =>
    intro hup htag
    refine ⟨?quarantined, ?aborted, ?last⟩
    case quarantined => exact fun hquar b => congrArg finish (hostCompletion_quarantined (s := rxTlp s n.val) hup htag hquar)
    case aborted => exact fun hquar b => congrArg finish (hostCompletion_aborted (s := rxTlp s n.val) hup htag hquar)
    case last => exact fun hquar b hb hlen => congrArg finish (hostCompletion_last (s := rxTlp s n.val) hup htag hquar hb hlen)
  case timeout =>
    exact fun j htag => ⟨fun hquar => congrArg finish (cplTimeout_of_open htag hquar), fun hquar => congrArg finish (tagExpire_of_quarantined htag hquar)⟩
  case ptm => exact fun hopen => congrArg finish (ptmResponse_of_open hopen t1.val t4.val master.toNat delay.toNat)

end Sys2Proof.Machine
end

section
/-! Shed and restore of the lanes of a Nicen Link (R344 to R347, R351). -/

namespace Sys2Proof.Machine

open Sys2Proof.Spec

/-! ## Which lanes fit -/

theorem afterShed_eq (s : State) (k spare : Nat) :
    afterShed s k spare = mapCount (nlkTxMap s k) - 1 + (if spare = 255 then 0 else 1) := by
  by_cases h : spare = 255 <;> simp [afterShed, b2n, h]

/-- Lane `l` of link `k` has been shed. -/
theorem shedBy_any_iff (s : State) (k l : Nat) : ((physOf s k).shedBy.any (fun q => q.1 == l)) = true ↔ ∃ v, (l, v) ∈ (physOf s k).shedBy := by
  simp [List.any_eq_true]

/-- The lane does not fit the command: one to be shed is not in the transmit map, one to be restored is not shed (R351). -/
def misfits (s : State) (k lane : Nat) (restore : Bool) : Bool :=
  if restore then !((physOf s k).shedBy.any (fun q => q.1 == lane)) else !(nlkTxMap s k).testBit lane

/-- Shedding the lane would leave too few (R345). -/
def leavesTooFew (s : State) (k spare : Nat) (restore : Bool) : Bool := !restore && decide (afterShed s k spare < minLanes s k)

section
variable {s : State} {k lane spare : Nat}

theorem misfits_of_unmapped (h : ¬ (nlkTxMap s k).testBit lane = true) : misfits s k lane false = true := by
  simpa [misfits] using h

theorem not_misfits_of_mapped (h : (nlkTxMap s k).testBit lane = true) : misfits s k lane false = false := by
  simp [misfits, h]

theorem misfits_of_unshed (h : ¬ ∃ v, (lane, v) ∈ (physOf s k).shedBy) : misfits s k lane true = true := by
  rw [← shedBy_any_iff, Bool.not_eq_true] at h
  simp only [misfits, if_true, h, Bool.not_false]

theorem not_misfits_of_shed (h : ∃ v, (lane, v) ∈ (physOf s k).shedBy) : misfits s k lane true = false := by
  rw [← shedBy_any_iff] at h
  simp only [misfits, if_true, h, Bool.not_true]

theorem leavesTooFew_of_lt (h : mapCount (nlkTxMap s k) - 1 + (if spare = 255 then 0 else 1) < minLanes s k) : leavesTooFew s k spare false = true := by
  rw [← afterShed_eq] at h
  exact decide_eq_true h

theorem not_leavesTooFew_of_le (h : minLanes s k ≤ mapCount (nlkTxMap s k) - 1 + (if spare = 255 then 0 else 1)) : leavesTooFew s k spare false = false := by
  rw [← afterShed_eq] at h
  exact decide_eq_false (Nat.not_lt.2 h)

end

/-! ## Commands of software -/

theorem shedCmd_eq (s : State) (k lane : Nat) (restore : Bool) : shedCmd s k lane restore =
    if flagAt s (linkPg (6 + k) + 0x130) 8 then fldPut s (linkPg (6 + k) + 0x130) 31 28 4
    else if !linkActive s k then shedCmdEnd s k 6
    else if misfits s k lane restore then shedCmdEnd s k 6
    else if leavesTooFew s k (spareFor s k lane) restore then shedCmdEnd s k 1
    else shedAsk (fldPut s (linkPg (6 + k) + 0x130) 8 8 1) k lane restore true := rfl

section
variable {s : State} {k lane : Nat} {restore : Bool}

theorem shedCmd_of_busy (hbusy : flagAt s (linkPg (6 + k) + 0x130) 8 = true) (lane : Nat) (restore : Bool) :
    shedCmd s k lane restore = fldPut s (linkPg (6 + k) + 0x130) 31 28 4 := by
  rw [shedCmd_eq, if_pos hbusy]

variable (hidle : flagAt s (linkPg (6 + k) + 0x130) 8 = false)
include hidle

theorem shedCmd_of_inactive (hdown : ¬ linkActive s k = true) (lane : Nat) (restore : Bool) : shedCmd s k lane restore = shedCmdEnd s k 6 := by
  rw [Bool.not_eq_true] at hdown
  rw [shedCmd_eq, hidle, if_neg Bool.false_ne_true, hdown, Bool.not_false, if_pos rfl]

variable (hactive : linkActive s k = true)
include hactive

theorem shedCmd_of_misfit (h : misfits s k lane restore = true) : shedCmd s k lane restore = shedCmdEnd s k 6 := by
  rw [shedCmd_eq, hidle, if_neg Bool.false_ne_true, hactive, Bool.not_true, if_neg Bool.false_ne_true, if_pos h]

variable (hfits : misfits s k lane restore = false)
include hfits

theorem shedCmd_of_too_few (h : leavesTooFew s k (spareFor s k lane) restore = true) : shedCmd s k lane restore = shedCmdEnd s k 1 := by
  rw [shedCmd_eq, hidle, if_neg Bool.false_ne_true, hactive, Bool.not_true, if_neg Bool.false_ne_true, hfits, if_neg Bool.false_ne_true, if_pos h]

theorem shedCmd_asks (h : leavesTooFew s k (spareFor s k lane) restore = false) :
    shedCmd s k lane restore = shedAsk (fldPut s (linkPg (6 + k) + 0x130) 8 8 1) k lane restore true := by
  rw [shedCmd_eq, hidle, if_neg Bool.false_ne_true, hactive, Bool.not_true, if_neg Bool.false_ne_true, hfits, if_neg Bool.false_ne_true, h,
    if_neg Bool.false_ne_true]

end

/-! ## Requests of the partner -/

/-- The exchange that a request of the partner begins (R345). -/
def exchangeBegun (s : State) (k : Nat) (r : ShedReq) (restore : Bool) : State :=
  fldPut (physMod s k (fun x => { x with
    ex := some { mine := false, restore := restore, lane := r.lane.val, spare := r.spare.val, ident := r.id.val, hand := handNo s, target := r.target.val, acked := true, ready := false, soft := false } }))
    (nlkStat k) 7 7 1

section
variable {s : State} {k : Nat} {r : ShedReq} {restore : Bool} (hactive : linkActive s k = true) (hnone : (physOf s k).ex = none)
include hactive hnone

/-- With no exchange under way a request is refused, or begins its exchange. -/
theorem shedReqRx_of_free : shedReqRx s k r restore =
    if misfits s k r.lane.val restore then shedReply s k 4 r 3
    else if leavesTooFew s k r.spare.val restore then shedReply s k 4 r 1
    else (fun u => if restore then laneBurst u k r.lane.val else u) (shedReply (exchangeBegun s k r restore) k 3 r 0) := by
  unfold shedReqRx
  dsimp only
  rw [hactive, Bool.not_true, if_neg Bool.false_ne_true]
  simp only [hnone, Option.any_none, Option.isSome_none, Bool.false_eq_true, if_false]
  rfl

theorem shedReqRx_of_misfit (h : misfits s k r.lane.val restore = true) : shedReqRx s k r restore = shedReply s k 4 r 3 := by
  rw [shedReqRx_of_free hactive hnone, if_pos h]

theorem shedReqRx_of_too_few (hfits : misfits s k r.lane.val restore = false) (h : leavesTooFew s k r.spare.val restore = true) :
    shedReqRx s k r restore = shedReply s k 4 r 1 := by
  rw [shedReqRx_of_free hactive hnone, hfits, if_neg Bool.false_ne_true, if_pos h]

theorem shedReqRx_begins (hfits : misfits s k r.lane.val restore = false) (h : leavesTooFew s k r.spare.val restore = false) :
    shedReqRx s k r restore = (fun u => if restore then laneBurst u k r.lane.val else u) (shedReply (exchangeBegun s k r restore) k 3 r 0) := by
  rw [shedReqRx_of_free hactive hnone, hfits, if_neg Bool.false_ne_true, h, if_neg Bool.false_ne_true]

end

/-! ## The exchange under way -/

section
variable {s : State} {k : Nat} {e : ShedEx} (hex : (physOf s k).ex = some e)
include hex

theorem shedRepeat_of_unanswered (hmine : e.mine = true) (hacked : e.acked = false) (hhand : e.hand = handNo s) :
    shedRepeat s k = sendShedReq s k e := by
  unfold shedRepeat
  simp only [hex, hmine, hacked, hhand, decide_true, Bool.not_false, Bool.and_self, if_true]

theorem shedAckRx_of_mine (hmine : e.mine = true) (hacked : e.acked = false) :
    shedAckRx s k e.ident = (fun u => if e.restore then laneBurst u k e.lane else u)
      (physMod s k (fun x => { x with ex := some { e with acked := true } })) := by
  unfold shedAckRx
  simp only [hex, hmine, hacked, beq_self_eq_true, Bool.not_false, Bool.and_self, if_true]

/-- A refused exchange of the device's own fails with SHED_FAIL (R345). -/
theorem shedRefuseRx_of_mine (hmine : e.mine = true) (hsoft : e.soft = false) :
    shedRefuseRx s k e.ident = setEvt (fldPut (physMod s k (fun x => { x with ex := none })) (nlkStat k) 7 7 0) (linkPg (6 + k)) 11 := by
  have hany : (physOf s k).ex.any (fun x => x.mine && x.ident == e.ident) = true := by
    rw [hex, Option.any_some, hmine, beq_self_eq_true]
    rfl
  unfold shedRefuseRx shedFail
  rw [if_pos hany]
  simp only [hex, hsoft, Bool.false_eq_true, if_false]

theorem shedReadyRx_of_restore (hrestore : e.restore = true) :
    shedReadyRx s k e.ident = physMod s k (fun x => { x with ex := some { e with ready := true } }) := by
  unfold shedReadyRx
  simp only [hex, hrestore, beq_self_eq_true, Bool.and_self, if_true]

/-- The extra AM row, and READY where the lane is held locked (R347). -/
theorem restoreAm_of_acked (hrestore : e.restore = true) (hacked : e.acked = true) :
    restoreAm s k = (fun u => if laneIn u k e.lane then sendShed (eiExit u k) k 5 e.lane e.spare e.ident e.target 0 else u) (sendAm s k) := by
  unfold restoreAm
  simp only [hex, hrestore, hacked, Bool.and_self, if_true]

end

theorem autoRestore_of_enabled {s : State} {k : Nat} (hactive : linkActive s k = true) (hen : flagAt s (linkPg (6 + k) + 0x100) 14 = true)
    (hfew : (physOf s k).misses < 8) :
    autoRestore s k = shedWants (physMod s k (fun x => { x with want := x.shedBy.foldl (fun l q => setIns (q.1 * 4 + 2) l) x.want })) k := by
  have hguard : (linkActive s k && flagAt s (linkPg (6 + k) + 0x100) 14 && decide ((physOf s k).misses < 8)) = true := by
    rw [hactive, hen, decide_eq_true hfew]
    rfl
  unfold autoRestore
  rw [if_pos hguard]

/-- Settles O43: the commands, the partner's requests, and the steps of the exchange under way. -/
theorem shedExchangesComplete : Obligations.ShedExchangesComplete := by
  unfold Obligations.ShedExchangesComplete
  intro s k i r id e
  refine ⟨?busy, ?inactive, ?misfit, ?tooFew, ?shed, ?restore, ?again, ?request, ?exchange, ?am, ?auto⟩
  case busy => exact fun hbusy => ⟨congrArg finish (shedCmd_of_busy hbusy _ _), congrArg finish (shedCmd_of_busy hbusy _ _)⟩
  case inactive =>
    exact fun hidle hdown => ⟨congrArg finish (shedCmd_of_inactive hidle hdown _ _), congrArg finish (shedCmd_of_inactive hidle hdown _ _)⟩
  case misfit =>
    exact fun hidle hactive => ⟨fun h => congrArg finish (shedCmd_of_misfit hidle hactive (misfits_of_unmapped h)),
      fun h => congrArg finish (shedCmd_of_misfit hidle hactive (misfits_of_unshed h))⟩
  case tooFew =>
    exact fun hidle hactive hmapped hfew =>
      congrArg finish (shedCmd_of_too_few hidle hactive (not_misfits_of_mapped hmapped) (leavesTooFew_of_lt hfew))
  case shed =>
    exact fun hidle hactive hmapped henough =>
      congrArg finish (shedCmd_asks hidle hactive (not_misfits_of_mapped hmapped) (not_leavesTooFew_of_le henough))
  case restore => exact fun hidle hactive hshed => congrArg finish (shedCmd_asks hidle hactive (not_misfits_of_shed hshed) rfl)
  case again => exact fun hex hmine hacked hhand => congrArg finish (shedRepeat_of_unanswered hex hmine hacked hhand)
  case request =>
    intro hactive hnone
    refine ⟨?unmapped, ?fewLeft, ?begins, ?unshed, ?rejoins⟩
    case unmapped => exact fun h => congrArg finish (shedReqRx_of_misfit hactive hnone (misfits_of_unmapped h))
    case fewLeft =>
      exact fun hmapped hfew => congrArg finish (shedReqRx_of_too_few hactive hnone (not_misfits_of_mapped hmapped) (leavesTooFew_of_lt hfew))
    case begins =>
      exact fun hmapped henough =>
        congrArg finish (shedReqRx_begins hactive hnone (not_misfits_of_mapped hmapped) (not_leavesTooFew_of_le henough))
    case unshed => exact fun h => congrArg finish (shedReqRx_of_misfit hactive hnone (misfits_of_unshed h))
    case rejoins => exact fun h => congrArg finish (shedReqRx_begins hactive hnone (not_misfits_of_shed h) rfl)
  case exchange =>
    intro hex hident
    have hid (f : Nat → State) : f id.val = f e.ident := by rw [hident]
    refine ⟨?ack, ?ackRestore, ?refuse, ?ready⟩
    case ack =>
      intro hmine hacked hshed
      refine congrArg finish ((hid (shedAckRx s k.val)).trans ((shedAckRx_of_mine hex hmine hacked).trans (if_neg ?_)))
      rw [hshed]
      exact Bool.false_ne_true
    case ackRestore =>
      exact fun hmine hacked hrestore =>
        congrArg finish ((hid (shedAckRx s k.val)).trans ((shedAckRx_of_mine hex hmine hacked).trans (if_pos hrestore)))
    case refuse => exact fun hmine hsoft => congrArg finish ((hid (shedRefuseRx s k.val)).trans (shedRefuseRx_of_mine hex hmine hsoft))
    case ready => exact fun hrestore => congrArg finish ((hid (shedReadyRx s k.val)).trans (shedReadyRx_of_restore hex hrestore))
  case am => exact fun hex hrestore hacked => congrArg finish (restoreAm_of_acked hex hrestore hacked)
  case auto => exact fun hactive hen hfew => congrArg finish (autoRestore_of_enabled hactive hen hfew)

end Sys2Proof.Machine
end

section
/-! The frame layer of a Nicen Link: frames, replay, retrain, electrical idle and HAND rows (R332 to R343, R348). -/

namespace Sys2Proof.Machine

open Sys2Proof.Spec

/-! ## Frames -/

/-- The corrected symbols of a frame that arrived are counted, after the end of the receive direction's idle (R335, R341). -/
def frameCounted (s : State) (k : Nat) (f : Frame) : State :=
  (fun u => if f.fixed.isEmpty then u else tally (bump u (linkPg (6 + k) + 0x400)) 9 (6 + k) 1)
    (f.fixed.foldl (fun s i => physMod s k (fun x => { x with symNow := tabMod 0 x.symNow i.val (· + 1), symAll := tabMod 0 x.symAll i.val (· + 1) }))
      (rxAwake s k))

/-- The ACK and NAK values of a frame are acted on, and what is owed leaves (R336 to R338). -/
def frameAnswered (u : State) (k : Nat) (f : Frame) : State :=
  pump (if f.nak then frameReplay (bump (frameAck u k f.ack.val) (linkPg (6 + k) + 0x410)) k else frameAck u k f.ack.val) k

section
variable {s : State} {k : Nat} {f : Frame} (hup : 4 ≤ nlkState s k)
include hup

theorem frameRx_of_fec (hgood : f.good = .fec) : frameRx s k f =
    pump (nakNow (raiseErr (bump (frameCounted s k f) (linkPg (6 + k) + 0x404)) (linkPg (6 + k)) 8) k) k := by
  unfold frameRx
  dsimp only
  rw [if_neg (Nat.not_lt.2 hup)]
  simp only [hgood]
  rfl

theorem frameRx_of_crc (hgood : f.good = .crc) : frameRx s k f =
    pump (nakNow (raiseErr (bump (frameCounted s k f) (linkPg (6 + k) + 0x408)) (linkPg (6 + k)) 9) k) k := by
  unfold frameRx
  dsimp only
  rw [if_neg (Nat.not_lt.2 hup)]
  simp only [hgood]
  rfl

/-- A good frame: the next one in sequence is accepted where it is no EMPTY frame, another is a NAK (R336, R337). -/
theorem frameRx_of_good (hgood : f.good = .good) {c : State} (hc : frameCounted s k f = c) : frameRx s k f =
    frameAnswered (if f.empty then (if f.seq.val = ((physOf c k).rxSeq + 1) % 4096 then c else nakNow c k)
      else if f.seq.val = ((physOf c k).rxSeq + 1) % 4096 then
        physMod c k (fun x => { x with rxSeq := ((physOf c k).rxSeq + 1) % 4096, owe := true, nak := false, drop := false })
      else nakNow c k) k f := by
  subst hc
  unfold frameRx
  dsimp only
  rw [if_neg (Nat.not_lt.2 hup)]
  simp only [hgood]
  rfl

theorem frameRx_of_empty (hgood : f.good = .good) (hseq : f.seq.val = ((physOf (frameCounted s k f) k).rxSeq + 1) % 4096) (hempty : f.empty = true) :
    frameRx s k f = frameAnswered (frameCounted s k f) k f := by
  rw [frameRx_of_good hup hgood rfl, hempty, if_pos rfl, if_pos hseq]

theorem frameRx_of_next (hgood : f.good = .good) (hseq : f.seq.val = ((physOf (frameCounted s k f) k).rxSeq + 1) % 4096) (hempty : f.empty = false) :
    frameRx s k f = frameAnswered (physMod (frameCounted s k f) k (fun x => { x with
      rxSeq := ((physOf (frameCounted s k f) k).rxSeq + 1) % 4096, owe := true, nak := false, drop := false })) k f := by
  rw [frameRx_of_good hup hgood rfl, hempty, if_neg Bool.false_ne_true, if_pos hseq]

theorem frameRx_of_astray (hgood : f.good = .good) (hseq : f.seq.val ≠ ((physOf (frameCounted s k f) k).rxSeq + 1) % 4096) :
    frameRx s k f = frameAnswered (nakNow (frameCounted s k f) k) k f := by
  rw [frameRx_of_good hup hgood rfl, if_neg hseq, if_neg hseq, ite_self]

end

/-! ## Replay -/

theorem physOf_physMod_same (s : State) (k : Nat) (g : LinkPhy → LinkPhy) : physOf (physMod s k g) k = g (physOf s k) :=
  (physOf_physMod s k k g).trans (if_pos rfl)

theorem linkSends_of_active {s : State} {k : Nat} (hactive : linkActive s k = true) (hawake : flagAt s (nlkStat k) 9 = false) :
    linkSends s k = true := by
  rw [linkSends, hactive, hawake, Bool.or_true]
  rfl

theorem frameReplay_of_unacked {s : State} {k : Nat} (hwait : (physOf s k).unacked ≠ []) {c : Nat} {u : State}
    (hc : c = if (physOf s k).ex.isSome then (physOf s k).failed else (physOf s k).failed + 1)
    (hu : u = replayFrames (physMod s k (fun x => { x with failed := c })) k) :
    frameReplay s k = if fldAt u (linkPg (6 + k) + 0x10C) 19 16 ≤ c then retrain u k else u := by
  have hsome : ¬ (physOf s k).unacked.isEmpty = true := by
    rw [List.isEmpty_iff]
    exact hwait
  subst hu hc
  unfold frameReplay
  dsimp only
  rw [if_neg hsome]

/-- What a replay sends again does not depend on the count of failed ones (R338). -/
theorem replayFrames_failed (s : State) (k c : Nat) : replayFrames (physMod s k (fun x => { x with failed := c })) k =
    (physOf s k).unacked.foldl (fun s f => frameOut s k f.seq false f.data)
      (bumpBy (physMod (physMod s k (fun x => { x with failed := c })) k (fun x => { x with
        unacked := x.unacked.map (fun u => { u with time := s.time.toNat }),
        rttNow := (x.rttNow.1, x.rttNow.2.1, x.rttNow.2.2 + (physOf s k).unacked.length) })) (linkPg (6 + k) + 0x414) (physOf s k).unacked.length) := by
  unfold replayFrames
  rw [physOf_physMod_same]
  rfl

/-! ## Retrain -/

/-- The parts of the state that a link's lanes are not part of. -/
def linkParts (s : State) : Tab LinkPhy × Tab LinkTx := (s.phys, s.links)

theorem linkParts_foldl {α : Type} {f : State → α → State} (h : ∀ s a, linkParts (f s a) = linkParts s) (l : List α) (s : State) :
    linkParts (l.foldl f s) = linkParts s := by
  induction l generalizing s with
  | nil => rfl
  | cons a l ih => exact (ih (f s a)).trans (h s a)

theorem linkParts_txIdle (s : State) (k : Nat) (idle : Bool) : linkParts (txIdle s k idle) = linkParts s :=
  linkParts_foldl (f := fun s i => laneEi s (6 + k) (wireLane s k i) idle) (fun _ _ => rfl) _ _

theorem linkParts_rxAwake (s : State) (k : Nat) : linkParts (rxAwake s k) = linkParts s := by
  unfold rxAwake
  split
  · exact linkParts_foldl (f := fun s i => laneHold s (6 + k) (wireLane s k i) false) (fun _ _ => rfl) _ _
  · rfl

/-- Both directions of the link are out of electrical idle. -/
def linkAwake (s : State) (k : Nat) : State := rxAwake (if flagAt s (nlkStat k) 9 then txIdle s k false else s) k

theorem linkParts_linkAwake (s : State) (k : Nat) : linkParts (linkAwake s k) = linkParts s := by
  refine (linkParts_rxAwake _ k).trans ?_
  split
  · exact linkParts_txIdle s k false
  · rfl

/-- What training forgets: the exchange of EQ blocks, the alignment, the failed replays, the shed exchange (R348, R349). -/
def trainAgain (x : LinkPhy) : LinkPhy := { x with eqDone := [], eqId := [], eqAct := [], amCnt := 0, skewed := [], failed := 0, ex := none }

section
variable {s : State} {k : Nat} (hactive : linkActive s k = true)
include hactive

theorem retrain_of_active : retrain s k =
    setEvt (bump (fldPut (fldPut (physMod (setNlk (fldPut (linkAwake s k) (nlkStat k) 10 10 1) k 2) k trainAgain) (nlkStat k) 7 7 0)
      (linkPg (6 + k) + 0x130) 8 8 0) (linkPg (6 + k) + 0x418)) (linkPg (6 + k)) 12 := by
  unfold retrain
  rw [hactive, Bool.not_true, if_neg Bool.false_ne_true]
  rfl

theorem nlkState_retrain : nlkState (retrain s k) k = 2 := by
  have hstat : nlkStat k = linkPg (6 + k) + 0x110 := rfl
  rw [retrain_of_active hactive, nlkState, fldAt, regAt_setEvt, if_neg (by omega), regAt_bump, if_neg (by omega), regAt_fldPut, if_neg (by omega),
    ← hstat, regAt_fldPut, if_pos rfl, bits_setBits_other _ 7 7 _ _ _ (by decide) (by decide)]
  have hset : regAt (physMod (setNlk (fldPut (linkAwake s k) (nlkStat k) 10 10 1) k 2) k trainAgain) (nlkStat k) =
      setBits (regAt (fldPut (linkAwake s k) (nlkStat k) 10 10 1) (nlkStat k)) 31 28 2 := (regAt_fldPut ..).trans (if_pos rfl)
  rw [hset]
  exact bits_setBits_same _ 31 28 _ (by decide) (by decide)

theorem physOf_retrain : physOf (retrain s k) k = trainAgain (physOf s k) := by
  have hphys : physOf (linkAwake s k) k = physOf s k := congrArg (fun p : Tab LinkPhy × Tab LinkTx => tabGet LinkPhy.idle p.1 k) (linkParts_linkAwake s k)
  rw [retrain_of_active hactive]
  exact (physOf_physMod_same (setNlk (fldPut (linkAwake s k) (nlkStat k) 10 10 1) k 2) k trainAgain).trans (congrArg trainAgain hphys)

theorem linkTxOf_retrain : linkTxOf (retrain s k) k = linkTxOf s k := by
  rw [retrain_of_active hactive]
  exact congrArg (fun p : Tab LinkPhy × Tab LinkTx => tabGet LinkTx.down p.2 k) (linkParts_linkAwake s k)

end

/-! ## Electrical idle -/

/-- With nothing to send, the transmit direction enters idle with an EI row (R340). -/
theorem eiEntry_of_quiet {s : State} {k : Nat} (hactive : linkActive s k = true) (hen : flagAt s (linkPg (6 + k) + 0x100) 15 = true)
    (hunacked : (physOf s k).unacked = []) (hstream : (physOf s k).stream = []) (howe : (physOf s k).owe = false)
    (hnak : (physOf s k).nak = false) (hex : (physOf s k).ex = none) (hawake : flagAt s (nlkStat k) 9 = false)
    (htime : trickNo s + 128 < 4096) :
    eiEntry s k = bump (txIdle (sendRow s k 0x23 []) k true) (linkPg (6 + k) + 0x428) := by
  unfold eiEntry
  dsimp only
  rw [hactive, hen, hunacked, hstream, howe, hnak, hex, hawake, decide_eq_true htime]
  exact if_pos rfl

theorem eiExit_of_idle {s : State} {k : Nat} (hactive : linkActive s k = true) (hidle : flagAt s (nlkStat k) 9 = true) :
    eiExit s k = pump (sendAm ((List.range 64).foldl (fun s _ => sendRow s k 0x01 []) (sendBurst (txIdle s k false) k (rowLanes s k))) k) k := by
  unfold eiExit
  rw [hactive, hidle]
  exact if_pos rfl

/-! ## HAND rows -/

theorem handRowRx_of_good {s : State} {k : Nat} {h : HandRow} (hactive : linkActive s k = true) (hgood : h.bad.val = 0) :
    handRowRx s k h = physMod (mapStat (setMap (rxAwake s k) k 0x124 h.txMap.toNat) k) k
      (fun x => { x with handNo := h.hand.val, launch := h.launch.val, arrived := h.arrival.toInt }) := by
  unfold handRowRx ctrlBad
  rw [hgood, if_pos rfl]
  simp only [hactive, Bool.not_true, Nat.lt_irrefl, false_and, decide_false, Bool.or_self, Bool.false_eq_true, if_false]

/-- The lanes received on do not depend on the counter of discarded blocks. -/
theorem rxLanes_ctrlBad (s : State) (k n : Nat) : rxLanes (ctrlBad s k n) k = rxLanes s k := by
  have hsame : SameBelowCounters s (ctrlBad s k n) k := ctrlBad_sameBelowCounters s k n
  have hlanes : nlkLanes (ctrlBad s k n) k = nlkLanes s k := portLanes_congr (linkGroups_congr hsame)
  have hmap : nlkRxMap (ctrlBad s k n) k = nlkRxMap s k := congrArg BitVec.toNat (hsame _ (by omega))
  have hstandby : nlkStandby (ctrlBad s k n) k = nlkStandby s k := congrArg BitVec.toNat (hsame _ (by omega))
  rw [rxLanes, hlanes, hmap, hstandby]
  rfl

/-- A HAND row whose copies are all bad is discarded (R322). -/
theorem handRowRx_of_bad {s : State} {k : Nat} {h : HandRow} (hbad : 0 < h.bad.val) (hall : (rxLanes s k).length ≤ h.bad.val) :
    handRowRx s k h = bumpBy s (linkPg (6 + k) + 0x42C) h.bad.val := by
  have hdiscard : (!linkActive (ctrlBad s k h.bad.val) k || decide (0 < h.bad.val ∧ (rxLanes (ctrlBad s k h.bad.val) k).length ≤ h.bad.val)) = true := by
    rw [rxLanes_ctrlBad, decide_eq_true ⟨hbad, hall⟩, Bool.or_true]
  unfold handRowRx
  dsimp only
  rw [if_pos hdiscard, ctrlBad, if_neg (Nat.pos_iff_ne_zero.1 hbad)]

/-- Settles O42: frames by their CRC and their place in the sequence; replay, retrain, idle and HAND rows by their lemmas. -/
theorem nicenFramesComplete : Obligations.NicenFramesComplete := by
  unfold Obligations.NicenFramesComplete
  intro s k f h
  refine ⟨fun hup => ⟨?empty, ?accepted, ?astray, ?fec, ?crc⟩, ?replay, ?retrain, ?failed, ?enter, ?leave, ?enterRx, ?hand, ?badHand, rfl⟩
  case empty => exact fun hgood hseq hempty => congrArg finish (frameRx_of_empty hup hgood hseq hempty)
  case accepted => exact fun hgood hseq hempty => congrArg finish (frameRx_of_next hup hgood hseq hempty)
  case astray => exact fun hgood hseq => congrArg finish (frameRx_of_astray hup hgood hseq)
  case fec => exact fun hgood => congrArg finish (frameRx_of_fec hup hgood)
  case crc => exact fun hgood => congrArg finish (frameRx_of_crc hup hgood)
  case replay =>
    intro hactive hawake hwait
    exact congrArg finish ((if_pos (linkSends_of_active hactive hawake)).trans
      (frameReplay_of_unacked hwait rfl (replayFrames_failed s k.val _).symm))
  case retrain =>
    intro hactive
    refine ⟨rfl, nlkState_retrain hactive, ?_, ?_, linkTxOf_retrain hactive⟩
    · rw [physOf_retrain hactive]
      rfl
    · rw [physOf_retrain hactive]
      rfl
  case failed => exact fun hre => congrArg finish (if_pos hre)
  case enter =>
    exact fun hactive hen hunacked hstream howe hnak hex hawake htime =>
      congrArg finish (eiEntry_of_quiet hactive hen hunacked hstream howe hnak hex hawake htime)
  case leave => exact fun hactive hidle => congrArg finish (eiExit_of_idle hactive hidle)
  case enterRx => exact fun hactive => congrArg finish (if_pos hactive)
  case hand => exact fun hactive hgood => congrArg finish (handRowRx_of_good hactive hgood)
  case badHand => exact fun hbad hall => congrArg finish (handRowRx_of_bad hbad hall)

end Sys2Proof.Machine
end

section
/-! Transactions received from the fabric, and timeouts of the device's own (R364 to R390). -/

namespace Sys2Proof.Machine

open Sys2Proof.Spec

/-! ## Host writes of a function -/

/-- The host write that carries piece `p` of a write of function `f` of seat `seat` at address `a` (R226). -/
def writePiece (s : State) (f seat a : Nat) (data : List Byte) (poison : Bool) (attr : Nat) (base : Xact) (of_ : Nat × Nat → After) (p : Nat × Nat) : Xact :=
  { base with
    dst := seat, fn := f, cards := (pieceCards p).1, need := if p.1 = 0 then base.need else 0,
    acct := if (pieceCards p).2 then .owed else base.acct, posted := true, trump := base.trump && p.1 == 0,
    what := .tlp seat { tlp0 .memWr f (a + p.1) p.2 with poison := poison, attr := hostAttr s f attr, data := (data.drop p.1).take p.2 },
    land := if p.1 + p.2 = data.length then base.land else none, after := of_ p }

theorem kit_zero {x : Xact} (h : x.kit = 0) : { x with kit := 0 } = x := by
  cases x
  cases h
  rfl

/-- Writes with no cards of the kitty go before the Dealer piece by piece. -/
theorem sendWrites_of_seat {s : State} {f seat : Nat} (hseat : fnSeat s f = some seat) {base : Xact} (hkit : base.kit = 0) (a : Nat) (data : List Byte)
    (poison : Bool) (attr : Nat) (of_ : Nat × Nat → After) : sendWrites s f a data poison attr base of_ =
      (pieces a data.length (mps s f) (data.length + 1) 0).foldl (fun t p => enqueue t (writePiece s f seat a data poison attr base of_ p)) s := by
  have hstep (t : State) (p : Nat × Nat) : enqueue t { writePiece s f seat a data poison attr base of_ p with
      kit := if (pieceCards p).2 then 0 else min (pieceCards p).1 0 } = enqueue t (writePiece s f seat a data poison attr base of_ p) := by
    rw [Nat.min_zero, ite_self]
    exact congrArg (enqueue t) (kit_zero hkit)
  have hfold (l : List (Nat × Nat)) (t : State) : l.foldl (fun (q : Nat × State) p =>
      (q.1 - (if (pieceCards p).2 then 0 else min (pieceCards p).1 q.1),
        enqueue q.2 { writePiece s f seat a data poison attr base of_ p with kit := if (pieceCards p).2 then 0 else min (pieceCards p).1 q.1 })) (0, t) =
      (0, l.foldl (fun t p => enqueue t (writePiece s f seat a data poison attr base of_ p)) t) := by
    induction l generalizing t with
    | nil => rfl
    | cons p l ih => rw [List.foldl_cons, List.foldl_cons, hstep, Nat.zero_sub, ih]
  unfold sendWrites
  simp only [hseat]
  rw [hkit]
  exact congrArg Prod.snd (hfold _ s)

/-! ## The return check -/

/-- A check that is passed did not refuse. -/
theorem not_refused_of_passed {α β γ : Type} {c : Prop} [Decidable c] {r : β} {t : γ} {y : (α ⊕ β) × γ} {a : α} {v : γ}
    (h : (if c then (.inr r, t) else y) = (.inl a, v)) : ¬ c ∧ y = (.inl a, v) := by
  by_cases hc : c
  · rw [if_pos hc] at h
    cases h
  · exact ⟨hc, (if_neg hc).symm.trans h⟩

/-- A header that passes the return check names the seat of its function (R226, R368). -/
theorem fnSeat_of_retCheck {s v : State} {f seat r x n a : Nat} {write : Bool} (h : retCheck s f seat r x n write = (.inl a, v)) :
    fnSeat v f = some seat := by
  unfold retCheck at h
  obtain ⟨-, h⟩ := not_refused_of_passed h
  obtain ⟨-, h⟩ := not_refused_of_passed h
  obtain ⟨-, h⟩ := not_refused_of_passed h
  obtain ⟨-, h⟩ := not_refused_of_passed h
  obtain ⟨hseat, h⟩ := not_refused_of_passed h
  obtain ⟨-, h⟩ := not_refused_of_passed h
  obtain ⟨-, h⟩ := not_refused_of_passed h
  obtain ⟨-, h⟩ := not_refused_of_passed h
  cases h
  rw [not_or, not_or, Classical.not_not, Classical.not_not, Classical.not_not] at hseat
  obtain ⟨-, hfn, hhdr⟩ := hseat
  rw [hhdr, hfn]

/-- The registers that say which seat owns a function are below the Dealer's page, or in a port's. -/
theorem fnSeat_countDemote (s : State) (i f : Nat) : fnSeat (countDemote s i 0x400) f = fnSeat s f := by
  have hreg (o : Nat) (hcnt : o ≠ dlrPg + 0x400) (hevt : o ≠ dlrPg + 0x010) : regAt (countDemote s i 0x400) o = regAt s o := by
    have hsame : regAt (countDemote s i 0x400) o = regAt (setEvt (bump s (dlrPg + 0x400)) dlrPg 8) o := rfl
    rw [hsame, regAt_setEvt, if_neg hevt, regAt_bump, if_neg hcnt]
  have hpresent (n : Nat) : seatPresent (countDemote s i 0x400) n = seatPresent s n := by
    rw [seatPresent, seatWidth, hreg 0x130 (by decide) (by decide)]
    rfl
  have hrun (n : Nat) : regAt (countDemote s i 0x400) (txnPg n + 0x140) = regAt s (txnPg n + 0x140) := by
    refine hreg _ ?_ ?_ <;> unfold txnPg portPg dlrPg <;> omega
  have hfirst (n : Nat) : vfFirst (countDemote s i 0x400) n = vfFirst s n := congrArg (bits · 27 16) (hrun n)
  have htotal (n : Nat) : vfTotal (countDemote s i 0x400) n = vfTotal s n := congrArg (bits · 12 0) (hrun n)
  simp only [fnSeat, hpresent, hfirst, htotal]

section
variable {s v : State} {w : Xact} {k : Nat} {x : TxnIn}

/-- A refused HWR is answered by one of its cards (R367, R368). -/
theorem fabricLook_hwr_refused (hhwr : x.type.val = 0x09) {st why idx : Nat}
    (hcheck : retCheck s x.fn.val x.seat.val (x.ep.toNat / 16) x.off.toNat (txnLen x.len.val x.last.val) true = (.inr (st, why, idx), v)) :
    fabricLook s w k x = linkAnswer (toFlight (setErrBit (refuse v 2 why x.fn.val idx) (fnPg x.fn.val) 9) w.acct (w.cards - 1) 0) k (6 + k) x.fn.val
      w.acct 0 w.land (answerCpl (if x.cls.val = 0 then 0 else 2) x.seat.val x.fn.val x.tag.val st why true false []) := by
  have hwrite : (x.type.val == 0x09) = true := beq_iff_eq.2 hhwr
  have hread : (x.type.val != 0x0A) = true := by rw [hhwr]; rfl
  unfold fabricLook
  dsimp only
  rw [hwrite]
  simp only [hcheck]
  rw [fabricRefused, hread, if_neg (by omega)]

/-- An HWR that passes becomes the host writes of its pieces (R226). -/
theorem fabricLook_hwr_passed (hhwr : x.type.val = 0x09) (hkit : w.kit = 0) {a : Nat}
    (hcheck : retCheck s x.fn.val x.seat.val (x.ep.toNat / 16) x.off.toNat (txnLen x.len.val x.last.val) true = (.inl a, v))
    (hseat : seatRefuses v k x.seat.val = none) {z : State}
    (hz : z = if x.cls.val = 0 ∧ inCards x ≠ 1 then countDemote v (6 + k) 0x400 else v) :
    fabricLook s w k x = (pieces a (inData x).length (mps z x.fn.val) ((inData x).length + 1) 0).foldl (fun t p => enqueue t
      (writePiece z x.fn.val x.seat.val a (inData x) x.poison x.attr.val
        { w with trump := x.cls.val == 0 && inCards x == 1, chk := true, look := none, need := w.cards }
        (fun p => if p.1 + p.2 = (inData x).length then w.after else .none) p)) z := by
  have hwrite : (x.type.val == 0x09) = true := beq_iff_eq.2 hhwr
  have hdemote : (decide (x.cls.val = 0) && !(x.cls.val == 0 && inCards x == 1)) = true ↔ (x.cls.val = 0 ∧ inCards x ≠ 1) := by
    rw [Bool.and_eq_true, decide_eq_true_eq]
    refine and_congr_right fun hcls => ?_
    rw [hcls, beq_self_eq_true, Bool.true_and, Bool.not_eq_true', beq_eq_false_iff_ne]
  have hcountz : (if (decide (x.cls.val = 0) && !(x.cls.val == 0 && inCards x == 1)) = true then countDemote v (6 + k) 0x400 else v) = z := by
    rw [hz]
    simp only [hdemote]
  have hown : fnSeat z x.fn.val = some x.seat.val := by
    rw [hz]
    split
    · exact (fnSeat_countDemote ..).trans (fnSeat_of_retCheck hcheck)
    · exact fnSeat_of_retCheck hcheck
  unfold fabricLook
  dsimp only
  rw [hwrite]
  simp only [hcheck, hseat, if_true]
  rw [hwrGo, hcountz]
  refine sendWrites_of_seat hown ?_ ..
  exact hkit

theorem fabricLook_hrd_passed (hhrd : x.type.val = 0x0A) {a : Nat}
    (hcheck : retCheck s x.fn.val x.seat.val (x.ep.toNat / 16) x.off.toNat (txnLen x.len.val x.last.val) false = (.inl a, v))
    (hseat : seatRefuses v k x.seat.val = none) : fabricLook s w k x = hrdGo v w k x a := by
  have hwrite : (x.type.val == 0x09) = false := by rw [hhrd]; rfl
  unfold fabricLook
  dsimp only
  rw [hwrite]
  simp only [hcheck, hseat, Bool.false_eq_true, if_false]

end

/-! ## Completions -/

section
variable {s u : State} {k i : Nat} {x : TxnIn} {e : TagEnt} (hu : passCredits s k x = u)
include hu

theorem cplRx_of_posted (hposted : x.posted = true) : cplRx s k x = refusalRx u k x := by
  unfold cplRx
  dsimp only
  rw [hu, if_pos hposted]

variable (hposted : x.posted = false)
include hposted

theorem cplRx_of_stray (htag : (linkTxOf u k).tags.find? (fun t => t.1 == x.tag.val) = none) :
    cplRx s k x = bump u (txnPg (6 + k) + 0x408) := by
  unfold cplRx
  dsimp only
  rw [hu, hposted, if_neg Bool.false_ne_true]
  simp only [htag]

variable (htag : (linkTxOf u k).tags.find? (fun t => t.1 == x.tag.val) = some (i, e)) (hstatus : x.status.val = 0)
include htag hstatus

theorem cplRx_of_quarantined (hquar : e.quar = true) :
    cplRx s k x = freeLinkTag (setEvt (bump u (txnPg (6 + k) + 0x404)) (txnPg (6 + k)) 9) k i := by
  unfold cplRx
  dsimp only
  rw [hu, hposted, if_neg Bool.false_ne_true]
  simp only [htag, hstatus, hquar, true_or, if_true]

/-- The data of a window read goes back to the host that waits (R364). -/
theorem cplRx_of_window {n rid tag : Nat} (hquar : e.quar = false) (hopen : folded u (6 + k) = false) (hwhy : e.why = .window n rid tag) :
    cplRx s k x = windowData (freeLinkTag u k i) k n tag e x := by
  unfold cplRx
  dsimp only
  rw [hu, hposted, if_neg Bool.false_ne_true]
  simp only [htag, hstatus, hquar, hopen, Bool.false_eq_true, or_self, if_true, if_false, ne_eq, not_true_eq_false, hwhy]

end

/-! ## HWR, HRD and HINT -/

section
variable {s : State} {k : Nat} {x : TxnIn}

theorem hwrRx_of_folded (hfolded : folded s (6 + k) = true) : hwrRx s k x = answerRefused s k x 6 8 := if_pos hfolded

theorem hwrRx_of_open (hopen : folded s (6 + k) = false) : hwrRx s k x =
    awaitLook (land s (6 + k) (inCards x) x.cls.val (inCards x)) { fabricXact k x 3 (inCards x) with posted := true, after := .hwr k x.cls.val x.tag.val } := by
  unfold hwrRx
  rw [hopen, if_neg Bool.false_ne_true]

theorem hrdRx_of_folded (hfolded : folded s (6 + k) = true) : hrdRx s k x = answerRefused s k x 6 8 := if_pos hfolded

theorem hrdRx_of_open (hopen : folded s (6 + k) = false) : hrdRx s k x =
    awaitLook (linkTxMod (land s (6 + k) 1 x.cls.val 1) k (fun t => { t with
        hrds := t.hrds ++ [{ tag := x.tag.val, fn := x.fn.val, cls := x.cls.val, left := 1, data := [], cards := 0, kit := 0, poison := false }] }))
      { fabricXact k x 1 1 with
        ask := some (TagEnt.ask x.fn.val (.hrd k x.tag.val x.cls.val) 0 (txnLen x.len.val x.last.val) (cardsFor (txnLen x.len.val x.last.val)) x.cls.val) } := by
  unfold hrdRx
  rw [hopen, if_neg Bool.false_ne_true]

variable (hopen : folded s (6 + k) = false)
include hopen

theorem hintRx_of_no_master (hmaster : (fnOf s x.fn.val).master = false) : hintRx s k x = answerRefused s k x 2 7 := by
  unfold hintRx
  dsimp only
  rw [hopen, if_neg Bool.false_ne_true, hmaster, Bool.not_false, if_pos rfl]

theorem hintRx_passes (hmaster : (fnOf s x.fn.val).master = true) (hseat : fnSeat s x.fn.val = some x.seat.val)
    (hvec : x.off.toNat % 2048 < vectorCount s x.fn.val) (hseatOpen : folded s x.seat.val = false) :
    hintRx s k x = hintPass s k x.seat.val x.fn.val (x.off.toNat % 2048) x := by
  unfold hintRx
  dsimp only
  rw [hopen, if_neg Bool.false_ne_true, hmaster, Bool.not_true, if_neg Bool.false_ne_true, if_neg (fun h => h hseat), if_neg (Nat.not_le.2 hvec),
    hseatOpen, if_neg Bool.false_ne_true]

end

theorem hintPass_of_up {s : State} {n : Nat} (hup : dlUp s n = true) (k f v : Nat) (x : TxnIn) : hintPass s k n f v x =
    enqueue (land s (6 + k) 1 x.cls.val 1) { xact0 n f 3 1 (.nicen k (txn0 0x0B x.cls.val n f x.tag.val)) with
      src := 6 + k, trump := x.cls.val == 0, posted := true, acct := .landing (6 + k), land := some (x.cls.val, 1), after := .hint v k x.cls.val x.tag.val } :=
  if_pos hup

theorem hintPass_of_down {s : State} {n : Nat} (hdown : dlUp s n = false) (k f v : Nat) (x : TxnIn) :
    hintPass s k n f v x = fire (passCredits s k x) f v := by
  unfold hintPass
  rw [hdown, if_neg Bool.false_ne_true]

/-! ## Control transactions -/

section
variable {s : State} {k : Nat} {x : TxnIn}

theorem creditRx_of_return (h : x.off.getLsbD 0 = false) : creditRx s k x = linkTxMod s k (fun t => { t with pRet := creditCounts x }) := by
  unfold creditRx
  rw [h]
  rfl

theorem creditRx_of_unusable (h : x.off.getLsbD 0 = true) (hbad : initUnusable (creditCounts x) = true) :
    creditRx s k x = protocolErr s k 6 x false := by
  unfold creditRx
  rw [h, if_pos rfl, if_pos hbad]

theorem creditRx_of_limits (h : x.off.getLsbD 0 = true) (hgood : initUnusable (creditCounts x) = false) :
    creditRx s k x = linkUpDone (linkTxMod s k (fun t => { t with pLim := creditCounts x, initRx := true })) k := by
  unfold creditRx
  rw [h, if_pos rfl, hgood, if_neg Bool.false_ne_true]

/-- The acknowledgement of an open BURN exchange ends it and frees its tags (R387). -/
theorem burnRx_of_open (h : ∃ b ∈ (linkTxOf s k).exchs, b.isFold = false ∧ b.ident = x.tag.val ∧ b.fn = x.fn.val ∧ b.seat = x.seat.val) :
    burnRx s k x = exchEnd (freeBurned s k x.tag.val) k x.tag.val := by
  obtain ⟨b, hb, hburn, hident, hfn, hseat⟩ := h
  refine if_pos (List.any_eq_true.2 ⟨b, hb, ?_⟩)
  rw [hburn, hident, hfn, hseat, beq_self_eq_true, beq_self_eq_true, beq_self_eq_true]
  rfl

theorem foldRx_of_open (hack : x.off.getLsbD 0 = true) (h : ∃ b ∈ (linkTxOf s k).exchs, b.isFold = true ∧ b.ident = x.tag.val) :
    foldRx s k x = exchEnd (freeBurned s k x.tag.val) k x.tag.val := by
  obtain ⟨b, hb, hfold, hident⟩ := h
  have hany : (linkTxOf s k).exchs.any (fun e => e.isFold && e.ident == x.tag.val) = true :=
    List.any_eq_true.2 ⟨b, hb, by rw [hfold, hident, beq_self_eq_true]; rfl⟩
  unfold foldRx
  rw [if_pos hack, if_pos hany]

theorem foldRx_of_stray (hack : x.off.getLsbD 0 = true) (h : ∀ b ∈ (linkTxOf s k).exchs, b.isFold = true → b.ident ≠ x.tag.val) :
    foldRx s k x = setEvt s (txnPg (6 + k)) 13 := by
  have hnone : ¬ (linkTxOf s k).exchs.any (fun e => e.isFold && e.ident == x.tag.val) = true := by
    intro hany
    obtain ⟨b, hb, hboth⟩ := List.any_eq_true.1 hany
    rw [Bool.and_eq_true, beq_iff_eq] at hboth
    exact h b hb hboth.1 hboth.2
  unfold foldRx
  rw [if_pos hack, if_neg hnone]

theorem foldRx_of_report (hack : x.off.getLsbD 0 = false) : foldRx s k x =
    if x.off.toNat / 2 % 4 = 2 ∧ x.off.toNat / 8 % 2 = 1 then faultPort s (6 + k) 0x11 (txnPg (6 + k)) false else setEvt s (txnPg (6 + k)) 13 := by
  unfold foldRx
  rw [hack, if_neg Bool.false_ne_true]

end

/-- A fault of R390 in a transaction of the row's type is reported and folds the link. -/
theorem received_of_fault {s : State} {k t : Nat} {x : TxnIn} (hup : nlkState s k = 4 ∨ nlkState s k = 5) (hfault : txnFault s k x ≠ 0)
    (htype : x.type.val = t) (f : State → State) : received s k t x f = protocolErr s k (txnFault s k x) x true := by
  unfold received
  dsimp only
  rw [if_neg (by omega), if_pos ⟨hfault, .inr htype⟩]

/-! ## Timeouts -/

section
variable {s : State} {k i : Nat}

theorem rdTimeout_of_open {e : TagEnt} (htag : (linkTxOf s k).tags.find? (fun t => t.1 == i) = some (i, e)) (hquar : e.quar = false) :
    rdTimeout s k i =
      endLinkReq (tally (setEvt (bump (quarLinkTag s k i) (txnPg (6 + k) + 0x400)) (txnPg (6 + k)) 8) 8 (6 + k) 1) e .timeout := by
  unfold rdTimeout
  simp only [htag, hquar, Bool.false_eq_true, if_false]

theorem any_quarantined {e : TagEnt} (hmem : (i, e) ∈ (linkTxOf s k).tags) (hquar : e.quar = true) :
    (linkTxOf s k).tags.any (fun t => t.1 == i && t.2.quar) = true :=
  List.any_eq_true.2 ⟨(i, e), hmem, by rw [hquar, beq_self_eq_true]; rfl⟩

theorem burnTimeout_of_open {b : Exch} (hmem : b ∈ (linkTxOf s k).exchs) (hident : b.ident = i) : burnTimeout s k i =
    setEvt (bump (exchEnd (linkTxMod s k (fun t => { t with tags := t.tags.map (fun e => if e.2.burn = i + 1 then (e.1, { e.2 with burn := 0 }) else e) }))
      k i) (txnPg (6 + k) + 0x418)) (txnPg (6 + k)) 12 := by
  have hany : (linkTxOf s k).exchs.any (fun e => e.ident == i) = true := List.any_eq_true.2 ⟨b, hmem, beq_iff_eq.2 hident⟩
  exact if_pos hany

end

/-- Settles O46: each received transaction by `received_of_sound` and the lemma about its case, and the timeouts. -/
theorem fabricTransactionsAndTimeoutsComplete : Obligations.FabricTransactionsAndTimeoutsComplete := by
  unfold Obligations.FabricTransactionsAndTimeoutsComplete
  refine ⟨?transactions, ?timeouts⟩
  case transactions =>
    intro s k x i e n rid tag
    refine ⟨?posted, ?cpl, ?hwr, ?hrd, ?hwrLook, ?hrdLook, ?hint, ?credit, ?burn, ?foldAck, ?fold, ?shed, ?fault⟩
    case posted => exact fun h hposted => congrArg finish ((received_of_sound h _).trans (cplRx_of_posted rfl hposted))
    case cpl =>
      exact fun h hposted => ⟨fun htag => congrArg finish ((received_of_sound h _).trans (cplRx_of_stray rfl hposted htag)),
        fun htag hstatus => ⟨fun hquar => congrArg finish ((received_of_sound h _).trans (cplRx_of_quarantined rfl hposted htag hstatus hquar)),
          fun hquar hopen hwhy => congrArg finish ((received_of_sound h _).trans (cplRx_of_window rfl hposted htag hstatus hquar hopen hwhy))⟩⟩
    case hwr =>
      exact fun h => ⟨fun hfolded => congrArg finish ((received_of_sound h _).trans (hwrRx_of_folded hfolded)),
        fun hopen => congrArg finish ((received_of_sound h _).trans (hwrRx_of_open hopen))⟩
    case hrd =>
      exact fun h => ⟨fun hfolded => congrArg finish ((received_of_sound h _).trans (hrdRx_of_folded hfolded)),
        fun hopen => congrArg finish ((received_of_sound h _).trans (hrdRx_of_open hopen))⟩
    case hwrLook =>
      exact fun v w hhwr hkit => ⟨fun st why idx hcheck => fabricLook_hwr_refused hhwr hcheck,
        fun a hcheck hseat => fabricLook_hwr_passed hhwr hkit hcheck hseat rfl⟩
    case hrdLook => exact fun v w a hhrd hcheck hseat => fabricLook_hrd_passed hhrd hcheck hseat
    case hint =>
      refine fun h hopen => ⟨fun hmaster => congrArg finish ((received_of_sound h _).trans (hintRx_of_no_master hopen hmaster)),
        fun hmaster hseat hvec hseatOpen => ⟨fun hup => ?_, fun hdown => ?_⟩⟩
      · exact congrArg finish ((received_of_sound h _).trans ((hintRx_passes hopen hmaster hseat hvec hseatOpen).trans (hintPass_of_up hup ..)))
      · exact congrArg finish ((received_of_sound h _).trans ((hintRx_passes hopen hmaster hseat hvec hseatOpen).trans (hintPass_of_down hdown ..)))
    case credit =>
      exact fun h => ⟨fun hret => congrArg finish ((received_of_sound h _).trans (creditRx_of_return hret)),
        fun hinit hbad => congrArg finish ((received_of_sound h _).trans (creditRx_of_unusable hinit hbad)),
        fun hinit hgood => congrArg finish ((received_of_sound h _).trans (creditRx_of_limits hinit hgood))⟩
    case burn => exact fun h hexch => congrArg finish ((received_of_sound h _).trans (burnRx_of_open hexch))
    case foldAck =>
      exact fun h hack => ⟨fun hexch => congrArg finish ((received_of_sound h _).trans (foldRx_of_open hack hexch)),
        fun hnone => congrArg finish ((received_of_sound h _).trans (foldRx_of_stray hack hnone))⟩
    case fold => exact fun h hack => congrArg finish ((received_of_sound h _).trans (foldRx_of_report hack))
    case shed => exact fun h => congrArg finish (received_of_sound h _)
    case fault => exact fun hup hfault htype => congrArg finish (received_of_fault hup hfault htype _)
  case timeouts =>
    intro s k i e b
    refine ⟨?read, ?release, ?burnt⟩
    case read => exact fun htag hquar => congrArg finish (rdTimeout_of_open htag hquar)
    case release => exact fun hmem hquar => congrArg finish (if_pos (any_quarantined hmem hquar))
    case burnt => exact fun hmem hident => congrArg finish (burnTimeout_of_open hmem hident)

end Sys2Proof.Machine
end
